-- ==== Sys2Proof/Word.lean ====
section
/-! DEFINITION. The word types of the Ilvaja J4: bytes, the 16-bit values of the totals and sequence
numbers, the 32-bit station time, and the tick of the head time base in which the model counts time. -/

namespace Sys2Proof

/-- One character of the section line, or one byte of the configuration memory. -/
abbrev Byte := BitVec 8

/-- A passage total, a base, a sequence number: a value modulo 65536 (R26, R78, R106). -/
abbrev Word16 := BitVec 16

/-- A station time stamp, in milliseconds modulo 2^32 (R29). -/
abbrev Word32 := BitVec 32

/-- A time, counted in ticks of the head time base (10 microseconds, R1) since the last power-on or restart. -/
abbrev Tick := Nat

end Sys2Proof
end

