-- ==== Sys2Proof/Syntax.lean ====
section
/-! DEFINITION. The commands of the part: one constructor of `Instr` for each row of spec/opcode_table.json,
with the operands each needs. A command that something outside causes (a sampled level, a burst on the line, a
telegram, a query, the restart line) carries `dt`, the ticks of 10 microseconds that passed since the command
before it. A command that a timer of the part causes carries no time: it happens when its timer runs out
(notes/assumptions/1.md and 2.md). -/

namespace Sys2Proof

/-- The two damping systems of the counting head (1.1). -/
inductive Channel where
  | a
  | b
  deriving DecidableEq, Repr

/-- The two sides of a counting point. -/
inductive Side where
  | x
  | y
  deriving DecidableEq, Repr

/-- The two kinds of section reset (chapter 8). -/
inductive ResetKind where
  | sweep
  | direct
  deriving DecidableEq, Repr

/-- The head status a telegram reports (R21, R80). -/
inductive HeadStatus where
  | starting
  | idle
  | busy
  | faulty
  | lockdown
  deriving DecidableEq, Repr

/-- The levels of the four head inputs on one sample (R1). -/
structure HeadLevels where
  hca : Bool
  hcb : Bool
  hha : Bool
  hhb : Bool
  deriving DecidableEq, Repr

/-- The levels of the six operator lines on one sample; `true` is active (R130). -/
structure OperatorLevels where
  rq1 : Bool
  rq2 : Bool
  rq3 : Bool
  rq4 : Bool
  cfs : Bool
  cfd : Bool
  deriving DecidableEq, Repr

/-- What the line loop self-test found (R46, test 1). -/
structure LoopResult where
  /-- Every character received matched the character sent. -/
  charactersMatch : Bool
  /-- The looped frame passed its length and CRC checks. -/
  frameGood : Bool
  /-- Ticks from the first character sent to the last character returned. -/
  ticks : Nat
  deriving DecidableEq, Repr

/-- The two levels of the section line: driven by a station, or idle, at which the released pair rests (R53). -/
inductive LineLevel where
  | driven
  | idle
  deriving DecidableEq, Repr

/-- The 10 bits of a character in the order they come (R53). The manual does not say which level stands for which data
bit, so that the data bits are bits. -/
structure CharBits where
  start : LineLevel
  /-- The least significant bit first. -/
  data : Vector Bool 8
  stop : LineLevel
  deriving DecidableEq, Repr

/-- One character as the receiver takes it, bit by bit (R53), with the quiet time before it (R55). -/
structure LineChar where
  /-- The quiet ticks between it and the character before it in its burst, fewer than the 4 of reception idle; not read
  of the first character. -/
  gap : Nat
  bits : CharBits
  deriving DecidableEq, Repr

/-- The demand part of a view as it stands in a telegram body (11.2); `number` holds 128 for DIRECT. -/
structure DemandPart where
  originator : Byte
  number : Byte
  baseTxy : Word16
  baseTyx : Word16
  deriving DecidableEq, Repr

/-- A view as it stands in a telegram body (11.2): the state is the character sent, in range or not. -/
structure ViewPart where
  sectionNumber : Word16
  state : Byte
  settled : Bool
  balance : Word16
  demand : Option DemandPart
  deriving DecidableEq, Repr

/-- A count telegram as the Line Controller hands it on (R57, R80, R181). -/
structure Telegram where
  sender : Byte
  sequence : Word16
  status : HeadStatus
  txy : Word16
  tyx : Word16
  viewCount : Byte
  views : List ViewPart
  /-- The body ends in characters that make no whole view. -/
  partialView : Bool
  deriving DecidableEq, Repr

/-- The order in which the blocks take what one accepted telegram hands them, where the manual lays down
none, for each slot by its number: `causes` picks the order of the causes and of the Section Evaluator's changes (R100,
R155), `resetFirst` whether the Reset Controller takes the view before the Section Evaluator (R124). -/
structure TakingOrder where
  causes : Vector Nat 4
  resetFirst : Vector Bool 4
  deriving DecidableEq, Repr

/-- The items the Lane Comparator compares (R158). -/
inductive LaneItem where
  | ownTotals
  | slotState (slot : Fin 4)
  | clearCommand (pair : Fin 4)
  | lampPattern (lamp : Fin 4)
  | statusPattern
  | alarmPattern
  | telegramContent
  deriving DecidableEq, Repr

/-- The levels read back at the two pins of a clear pair (R169). -/
structure PairLevels where
  p : Bool
  q : Bool
  deriving DecidableEq, Repr

/-- The commands: one constructor per row of spec/opcode_table.json, in the table's order. -/
inductive Instr where
  /-- POWER_ON: supply taken; `restartActive` is the level of the restart line then (R51). -/
  | powerOn (restartActive : Bool)
  /-- RESTART: the restart line has been active on 10 consecutive samples (R51). -/
  | restart
  /-- RESTART_RELEASE: the restart line is inactive again (R51). -/
  | restartRelease (dt : Nat)
  /-- CONFIG_READ_END: the verdict on the image in the serial memory; `first` is the first head sample (R1, R41). -/
  | configReadEnd (dt : Nat) (memory : List Byte) (first : HeadLevels)
  /-- LINE_LOOP_TEST: the line loop test has ended (R46). -/
  | lineLoopTest (dt : Nat) (result : LoopResult)
  /-- LANE_TEST: the lane test has ended; `agree` says that every comparison agreed (R46). -/
  | laneTest (agree : Bool)
  /-- READ_BACK_TEST: the read-back test has ended with these readings, high as `true` (R46). -/
  | readBackTest (readings : List Bool)
  /-- SILENCE_END: the station time reaches 5000 (R48). -/
  | silenceEnd
  /-- STATION_TIME_WRAP: the station time passes 4294967295 (R29). -/
  | stationTimeWrap
  /-- FILTERED_CHANGE: the filtered levels of the channels marked change on one sample (R2). -/
  | filteredChange (dt : Nat) (a b : Bool)
  /-- SPIKE: an excursion of the raw level of a channel ends before the filter time (R3). -/
  | spike (dt : Nat) (channel : Channel)
  /-- SPIKE_QUIET_EXPIRY: the quiet time of a channel reaches 1000 ms (R4). -/
  | spikeQuietExpiry (channel : Channel)
  /-- HEAD_FAULT: the low run of a health input reaches 20 ms (R7). -/
  | headFault (system : Channel)
  /-- HEAD_RECOVERY: the recovery time reaches 2000 ms (R8). -/
  | headRecovery
  /-- RECEPTION_IDLE: reception idle comes to hold after this burst, an empty list if none was seen (R55, R56). -/
  | receptionIdle (dt : Nat) (burst : List LineChar)
  /-- COUNT_TELEGRAM: a valid count telegram is handed to the Peer Table (R57, R100). -/
  | countTelegram (dt : Nat) (telegram : Telegram) (order : TakingOrder)
  /-- STATUS_QUERY: a STATUS query to the own station is handed over (R178). -/
  | statusQuery (dt : Nat) (parameter : Byte)
  /-- SECTION_QUERY: a SECTION query to the own station is handed over (R179). -/
  | sectionQuery (dt : Nat) (parameter : Byte)
  /-- PEERS_QUERY: a PEERS query to the own station is handed over (R179). -/
  | peersQuery (dt : Nat) (parameter : Byte)
  /-- LOG_QUERY: a LOG query to the own station is handed over (R36). -/
  | logQuery (dt : Nat) (parameter : Byte)
  /-- CLEAR_DIAG: a CLEAR_DIAG query to the own station is handed over (R180). -/
  | clearDiag (dt : Nat) (parameter : Byte)
  /-- LINE_IDLE: the line quiet time reaches the access gap with a frame waiting for it (R62). -/
  | lineIdle
  /-- DEFERRAL: a start bit is seen, during the slot delay or in another wait of the transmitter (R54, R63;
  notes/assumptions/14.md). -/
  | deferral (dt : Nat)
  /-- LINE_WIN: the slot delay runs out; `laneQDiffers` says that a fault in lane Q falsifies its copy of the
  telegram (R64, R159). -/
  | lineWin (laneQDiffers : Bool)
  /-- COLLISION: the `character`-th character driven (from 1) is read back different (R65). -/
  | collision (character : Nat)
  /-- ATTEMPT_COMPLETION: the last character is read back without a difference (R66). -/
  | attemptCompletion
  /-- SPACING_END: the spacing timer reaches 20 ms (R74). -/
  | spacingEnd
  /-- HEARTBEAT_EXPIRY: the heartbeat timer reaches 200 ms (R75). -/
  | heartbeatExpiry
  /-- LOCKDOWN_TELEGRAM_TIMER: the 200 ms to the next LOCKDOWN telegram are over (R85). -/
  | lockdownTelegramTimer
  /-- PEER_STALE: the age of the FRESH record of a station exceeds 600 ms (R93). -/
  | peerStale (station : Nat)
  /-- PEER_LOST: the age of the STALE record of a station exceeds 4000 ms (R94). -/
  | peerLost (station : Nat)
  /-- NEGATIVE_BALANCE: the negative hold timer of a slot reaches 1500 ms (R109). -/
  | negativeBalance (slot : Fin 4)
  /-- SETTLED_TIME_EXPIRY: the settled time of a slot reaches 1200 ms (R110). -/
  | settledTimeExpiry (slot : Fin 4)
  /-- CONFIRM_EXPIRY: the confirm timer of a slot reaches 1000 ms (R115). -/
  | confirmExpiry (slot : Fin 4)
  /-- DEBOUNCED_LEVEL_CHANGE: the debounced levels become these on one sample (R130). -/
  | debouncedLevelChange (dt : Nat) (levels : OperatorLevels)
  /-- CONFIRM_SWEEP: the debounced CFS goes active; `cfd` is the debounced CFD on that sample (R132). -/
  | confirmSweep (dt : Nat) (cfd : Bool)
  /-- CONFIRM_DIRECT: the debounced CFD goes active; `cfs` is the debounced CFS on that sample (R132). -/
  | confirmDirect (dt : Nat) (cfs : Bool)
  /-- SELECTION: a request line has been active for 500 ms (R131). -/
  | selection (line : Fin 4)
  /-- SELECTION_TIMEOUT: the selection time reaches 10,000 ms (R131). -/
  | selectionTimeout
  /-- WINDOW_EXPIRY: the window of an AGREEING slot reaches 10,000 ms (R146). -/
  | windowExpiry (slot : Fin 4)
  /-- LINGER_END: the linger of a slot reaches 2000 ms (R143). -/
  | lingerEnd (slot : Fin 4)
  /-- COOL_DOWN_END: the cool-down of a slot reaches 120,000 ms (R147). -/
  | coolDownEnd (slot : Fin 4)
  /-- LANE_MISMATCH: the difference time of a compared item exceeds 5 ms (R158). -/
  | laneMismatch (item : LaneItem)
  /-- CLOCK_CHECK_PERIOD_END: a comparison period ends, measured by the check oscillator in microseconds (R160). -/
  | clockCheckPeriodEnd (measured : Nat)
  /-- HALF_PERIOD_TICK: the 2 ms tick with the levels read back at the pins of the four pairs (R168, R169). -/
  | halfPeriodTick (read : Vector PairLevels 4)
  /-- TICK_WATCH_EXPIRY: the watch on the check oscillator reaches 3 ms, or 2 ms more, without a tick (R170). -/
  | tickWatchExpiry
  /-- LAMP_PATTERN_STEP: an on or off time of a lamp's flash pattern ends (R171, R172). -/
  | lampPatternStep (lamp : Fin 4)
  /-- STATUS_LINE_TOGGLE: 50 ms of the status line are over (R173). -/
  | statusLineToggle
  /-- ALARM_PATTERN_STEP: an on or off time of a standing alarm pattern ends (R174). -/
  | alarmPatternStep
  /-- REFUSAL_PATTERN_STEP: a pulse or gap of the refusal pattern ends (R176). -/
  | refusalPatternStep
  /-- HEALTH_LEVEL_CHANGE: the sampled health level of a system goes low or high (R7). -/
  | healthLevelChange (dt : Nat) (system : Channel) (high : Bool)
  /-- QUERY_OF_UNKNOWN_KIND: a query of an unknown kind to the own station is handed over (R178). -/
  | queryOfUnknownKind (dt : Nat) (kind parameter : Byte)
  deriving DecidableEq, Repr

end Sys2Proof
end

