-- ==== Sys2Proof/Decode.lean ====
section
/-! DEFINITION. Decoding of the table's bits. No row of spec/opcode_table.json gives bits: the part takes events, levels
and frames, and no command has a word. -/

namespace Sys2Proof

/-- The command that a word spells by the table's bits: none, for no row gives bits. -/
def decodeTableWord (_nbits _w : Nat) : Option Instr := none

end Sys2Proof
end

