-- ==== Sys2Proof/Config.lean ====
section
/-! DEFINITION. What the manual leaves open and no rule fixes: the free values. Each is an opaque
constant without a body, so that a claim about it holds whatever the value is. The argument of most is the running
number of the use (State.freeUses). -/

namespace Sys2Proof.Config

/-- The two characters of the `last sequence` field of a PEERS entry whose last sequence number is
absent. The layout (11.2) marks absence by the presence bit and states no value for the field itself.
The argument is the running number of the use (State.freeUses). DESIGN CHOICE: notes/assumptions/9.md. -/
opaque absentSequence : Nat → Word16

/-- The two characters of the `age` field of a PEERS entry whose age is undefined (R102, 11.2): no value
is stated. DESIGN CHOICE: notes/assumptions/9.md. -/
opaque undefinedAge : Nat → Word16

/-- The kind character of a refused answer to a query whose kind is 128 or more: the kind received plus 128 (11.2) does
not fit one character, and no value is stated. DESIGN CHOICE: notes/assumptions/9.md. -/
opaque refusedKind : Byte → Byte

/-- Which of several events due at one instant the part takes first, where the manual lets either be taken first.
DESIGN CHOICE: notes/assumptions/5.md. -/
opaque eventChoice : Nat → Nat

/-- The order in which the events of one sample are taken, where the manual lets either be taken first (R3, R8, R9).
DESIGN CHOICE: notes/assumptions/5.md. -/
opaque sampleOrder : Nat → Nat

/-- Whether the samples of a tick are taken before a timer that runs out on that tick, where the manual lets either be
taken first (R4, R8, R19, R72, R132). DESIGN CHOICE: notes/assumptions/5.md. -/
opaque sampleFirst : Nat → Bool

/-- The order of the causes and changes of one accepted telegram (R100) on each slot, as the part itself takes them: the
running number of the use, then the slot. DESIGN CHOICE: notes/assumptions/5.md and 8.md. -/
opaque causeOrder : Nat → Nat → Nat

/-- Whether the Reset Controller takes the view of an accepted telegram before the Section Evaluator (R124), as the
part itself takes them: the running number of the use, then the slot. DESIGN CHOICE: notes/assumptions/5.md and 8.md. -/
opaque resetFirst : Nat → Nat → Bool

/-- The delay, in ticks, after which lane Q takes an event that lane P has taken; the model reads it modulo 101, for the
limit of 1 ms (R157). The argument is the running number of the event (Lanes.events). DESIGN CHOICE:
notes/assumptions/6.md. -/
opaque laneLag : Nat → Nat

end Sys2Proof.Config
end

