-- ==== Sys2Proof/Machine/State.lean ====
section
/-! DEFINITION. The state of the part, block by block (00_scope, Block overview), as plain data; its value
right after power-on; the ways a step can stop.

TIME. `State.now` counts ticks of 10 microseconds of main-oscillator time since the last power-on or restart
(R1, R29). A timer is held as the tick it started at (`since`), or the tick of the first sample of a run
(`from`), and `none` while it is stopped: its elapsed time is the difference to `now`, so that all timers of
the part advance together (notes/assumptions/1.md). -/

namespace Sys2Proof.Machine

/-! ### Start phases and lockdown -/

/-- The start phase (chapter 3). -/
inductive Phase where
  | configRead
  | configHalt
  | selfTest
  | silence
  | run
  deriving DecidableEq, Repr

/-- The self-test now running (R46). -/
inductive SelfTest where
  | lineLoop
  | lane
  | readBack
  deriving DecidableEq, Repr

/-- The five causes of lockdown (9.5). -/
inductive LockdownCause where
  | laneMismatch
  | clockFault
  | outputReadback
  | duplicateStation
  | selfTestFault
  deriving DecidableEq, Repr

/-- The lockdown record: cause and station time of the entry (R161, R164). -/
structure LockdownRecord where
  cause : LockdownCause
  time : Word32
  deriving DecidableEq, Repr

/-- The station configuration but for the slots, frozen at the pass of the image (R38, R45). -/
structure StationConfig where
  station : Nat
  filterCode : Nat
  spacing : Nat
  deriving DecidableEq, Repr

/-! ### Head Interface and Passage Detector -/

inductive HeadState where
  | starting
  | counting
  | faulty
  deriving DecidableEq, Repr

/-- One channel of the Head Interface (R2, R3). -/
structure HeadChannel where
  /-- The filtered level; absent until the first sample (R23). -/
  filtered : Option Bool
  /-- The first sample of the running difference run; `none` while the run is 0. -/
  diffFrom : Option Tick
  /-- The spike counter, 0..255. -/
  spikes : Nat
  /-- The station time of the last spike. -/
  lastSpike : Option Word32
  /-- The start of the quiet time; `none` while it is stopped. -/
  quietSince : Option Tick
  deriving DecidableEq, Repr

/-- One health input: the sampled level and the first sample of its low run (R7). -/
structure HealthInput where
  level : Option Bool
  lowFrom : Option Tick
  deriving DecidableEq, Repr

structure Head where
  state : HeadState
  a : HeadChannel
  b : HeadChannel
  healthA : HealthInput
  healthB : HealthInput
  /-- The first sample counted in the recovery time; `none` while it stands at zero or is stopped (R8). -/
  recoverFrom : Option Tick
  deriving DecidableEq, Repr

/-- The passage automaton (1.5). -/
inductive Automaton where
  | idle
  | x1
  | x2
  | x3
  | y1
  | y2
  | y3
  | unresolved
  deriving DecidableEq, Repr

/-- The Passage Detector (R10, R11, R14). -/
structure Detector where
  state : Automaton
  /-- The lead stamp, while the passage tick count runs. -/
  leadAt : Option Tick
  /-- The passage tick count while it does not run. -/
  heldCount : Nat
  trail : Option Nat
  rocked : Bool
  deriving DecidableEq, Repr

/-! ### Passage Log -/

inductive LogKind where
  | passageXY
  | passageYX
  | unresolved
  | restartMark
  deriving DecidableEq, Repr

/-- One entry of the Passage Log (2.3). -/
structure LogEntry where
  kind : LogKind
  time : Word32
  speed : Option Nat
  rocked : Bool
  deriving DecidableEq, Repr

/-! ### Line Controller and Telegram Builder -/

inductive ReceiverState where
  | waiting
  | assembling
  | skipping
  deriving DecidableEq, Repr

/-- The receiver (R55). -/
structure Receiver where
  state : ReceiverState
  /-- The receive assembly buffer, up to 68 characters. -/
  buffer : List Byte
  /-- A character was refused because the buffer held 68. -/
  overlong : Bool
  /-- A character of the frame had a framing error. -/
  framingError : Bool
  /-- SKIPPING because of the first character of the burst, which counts as an error at its end. -/
  badFirst : Bool
  /-- Reception idle has held since the receiver was connected. -/
  idleSeen : Bool
  deriving DecidableEq, Repr

/-- Which slot the frame in service came from (R60). -/
inductive Service where
  | telegram
  | answer
  deriving DecidableEq, Repr

/-- The transmitter state (4.5), with the start of the slot delay or of the driving. -/
inductive Transmitter where
  | noService
  | awaitIdle
  | slotDelay (since : Tick)
  | driving (since : Tick)
  deriving DecidableEq, Repr

structure Line where
  /-- The receiver is connected to the section line (R53, R70). -/
  connected : Bool
  receiver : Receiver
  /-- The end of the last character seen; `none` while a character is on the line (R54). -/
  quietSince : Option Tick
  telegramSlot : Bool
  /-- The answer slot: the body of the answer held. -/
  answerSlot : Option (List Byte)
  service : Option Service
  transmitter : Transmitter
  attempt : Nat
  /-- The characters of the frame driven, or last driven, on the line. -/
  driven : List Byte
  framesGood : Nat
  framesBad : Nat
  collisions : Nat
  dropped : Nat
  consecutiveDrops : Nat
  lineFault : Bool
  deriving DecidableEq, Repr

/-- The Telegram Builder (chapter 5). -/
structure Builder where
  sequence : Word16
  request : Bool
  spacingSince : Option Tick
  heartbeatSince : Option Tick
  /-- The start of the 200 ms to the next LOCKDOWN telegram (R85). -/
  lockdownSince : Option Tick
  deriving DecidableEq, Repr

/-! ### Slots -/

/-- The states of a section slot. -/
inductive SlotState where
  | disturbed
  | agreeing
  | sweep
  | occupied
  | clearing
  | clear
  deriving DecidableEq, Repr

/-- A demand's identity: originator and demand number (R135). -/
structure Identity where
  originator : Nat
  number : Nat
  deriving DecidableEq, Repr

/-- The demand part of a stored view, in range (R88, R97). -/
structure ViewDemand where
  identity : Identity
  kind : ResetKind
  baseTxy : Word16
  baseTyx : Word16
  deriving DecidableEq, Repr

/-- A view of a section, sent or stored (R81, R97). -/
structure View where
  sectionNumber : Nat
  state : SlotState
  balance : Int
  settled : Bool
  demand : Option ViewDemand
  deriving DecidableEq, Repr

/-- The fourteen disturbance causes (9.1). -/
inductive Cause where
  | startup
  | headFault
  | headInterference
  | passageUnresolved
  | peerHead
  | peerLost
  | peerRestart
  | countJump
  | countRange
  | negativeBalance
  | viewMismatch
  | peerDisturbed
  | boundaryMismatch
  | lineFault
  deriving DecidableEq, Repr

/-- The disturbance record of a slot (9.2). -/
structure DisturbanceRecord where
  firstCause : Option Cause
  firstTime : Option Word32
  firstStation : Option Nat
  further : Bool
  lastFurther : Option Cause
  /-- Disturbances since start, 0..255. -/
  count : Nat
  deriving DecidableEq, Repr

/-- The last reset outcome (R148). -/
inductive ResetOutcome where
  | none
  | agreedSweep
  | agreedDirect
  | expired
  | abandonedPassage
  | abandonedDisturbance
  | superseded
  | refused
  deriving DecidableEq, Repr

/-- A demand record (R135). -/
structure Demand where
  identity : Identity
  kind : ResetKind
  baseTxy : Word16
  baseTyx : Word16
  windowStart : Word32
  deriving DecidableEq, Repr

/-- What the Reset Controller holds for a slot (chapter 8). -/
structure SlotReset where
  demand : Option Demand
  /-- The agreement set, while the slot is AGREEING. -/
  agreement : Option (List Nat)
  windowSince : Option Tick
  lingerSince : Option Tick
  lastIdentity : Option Identity
  expiries : Nat
  coolDownSince : Option Tick
  outcome : ResetOutcome
  deriving DecidableEq, Repr

/-- A boundary record (R105). -/
structure Boundary where
  station : Nat
  side : Side
  inBase : Word16
  outBase : Word16
  deriving DecidableEq, Repr

/-- The clamped contributions of one boundary point (R106). -/
structure Contribution where
  inward : Nat
  outward : Nat
  deriving DecidableEq, Repr

/-- A section slot (7.1) with its disturbance record (9.2) and its reset state (chapter 8). -/
structure Slot where
  sectionNumber : Nat
  side : Side
  direct : Bool
  boundary : List Boundary
  state : SlotState
  contributions : List Contribution
  balance : Int
  range : Bool
  entered : Bool
  /-- The start of the settled time; `none` once 1200 ms are reached (R110). -/
  settledSince : Option Tick
  confirmSince : Option Tick
  negativeSince : Option Tick
  record : DisturbanceRecord
  reset : SlotReset
  deriving DecidableEq, Repr

/-! ### Peer Table -/

inductive PeerState where
  | unheard
  | fresh
  | stale
  | lost
  deriving DecidableEq, Repr

/-- A peer record (R87). The slots using the peer are those whose boundary lists name it (R44). -/
structure PeerRecord where
  station : Nat
  state : PeerState
  lastSequence : Option Word16
  txy : Word16
  tyx : Word16
  status : Option HeadStatus
  /-- The tick of the last accepted telegram, from which the age counts. -/
  acceptedAt : Option Tick
  gaps : Nat
  views : List View
  /-- The missing-view condition, for each slot by its number; never set for a slot not using the peer (R98). -/
  missing : List Bool
  /-- The foreign-view condition, for each slot by its number; never set for a slot using the peer (R99). -/
  foreign : List Bool
  deriving DecidableEq, Repr

/-- A valid frame the receiver hands on to its block: the Peer Table or the maintenance responder (R57). -/
inductive Handed where
  | telegram (telegram : Telegram)
  | query (kind parameter : Byte)
  deriving DecidableEq, Repr

/-! ### Reset Controller, station part -/

/-- The runs of consecutive samples of each operator line that differ from its debounced level (R130). -/
structure OperatorRuns where
  rq1 : Nat
  rq2 : Nat
  rq3 : Nat
  rq4 : Nat
  cfs : Nat
  cfd : Nat
  deriving DecidableEq, Repr

/-- The slot selected and when (R131). -/
structure Selection where
  slot : Fin 4
  since : Tick
  deriving DecidableEq, Repr

structure Operator where
  debounced : OperatorLevels
  runs : OperatorRuns
  /-- For each request line, the active edge its 500 ms run from; `none` when inactive or already selected. -/
  requestSince : Vector (Option Tick) 4
  selection : Option Selection
  /-- The demand number counter, 1..15 (R135). -/
  demandNumber : Nat
  deriving DecidableEq, Repr

/-! ### Output Driver -/

/-- One clear line, with the command of the lane that drives it (R168, R169). -/
structure ClearLine where
  /-- The level set for the running half-period. -/
  level : Bool
  /-- The command of the half-period as the lane that drives the line holds it, toggling as `true` (R168, R169). -/
  toggling : Bool
  /-- The command of the half-period before. -/
  wasToggling : Bool
  /-- The level read at the last comparison. -/
  lastRead : Option Bool
  mismatches : Nat
  deriving DecidableEq, Repr

/-- One clear pair: CLP driven from lane P and CLQ from lane Q (R168). -/
structure ClearPair where
  p : ClearLine
  q : ClearLine
  deriving DecidableEq, Repr

inductive LampPattern where
  | off
  | steady
  /-- 500 ms on, 500 ms off. -/
  | flashSlow
  /-- 200 ms on, 200 ms off. -/
  | flashMedium
  /-- 100 ms on, 100 ms off. -/
  | flashFast
  deriving DecidableEq, Repr

structure Lamp where
  pattern : LampPattern
  lit : Bool
  /-- The start of the running on or off time. -/
  since : Tick
  deriving DecidableEq, Repr

/-- The status line; it toggles while `since` holds the start of the running 50 ms (R173). -/
structure StatusLine where
  high : Bool
  since : Option Tick
  deriving DecidableEq, Repr

/-- The standing alarm conditions, highest priority first (R174). -/
inductive AlarmCondition where
  | lockdown
  | configHalt
  | lineFault
  | headNotCounting
  deriving DecidableEq, Repr

inductive AlarmShow where
  | silent
  | standing (condition : AlarmCondition)
  | refusal
  deriving DecidableEq, Repr

structure Alarm where
  shows : AlarmShow
  /-- The place in the pattern: even numbers are on times, odd ones off times. -/
  place : Nat
  sounding : Bool
  since : Tick
  deriving DecidableEq, Repr

structure Outputs where
  pairs : Vector ClearPair 4
  lamps : Vector Lamp 4
  status : StatusLine
  alarm : Alarm
  /-- The last half-period tick, or the entry to SILENCE; `none` while no tick runs (R168). -/
  tickSince : Option Tick
  /-- The reading of the tick watch at its last expiry since the last tick, in ms of the check oscillator (R170). -/
  watch : Nat
  deriving DecidableEq, Repr

/-! ### The lanes -/

/-- The evaluation as one lane holds it: every value of the blocks that are held twice (00_scope, Lane Comparator; R45,
R157), and the patterns commanded (R158). A timer stands as the tick it started at. -/
structure Evaluation where
  phase : Phase
  restartHeld : Bool
  restartFrom : Option Tick
  reading : Bool
  selfTest : Option SelfTest
  selfTestSince : Tick
  silenceOver : Bool
  config : Option StationConfig
  passAt : Tick
  lockdown : Bool
  lockdownRecord : Option LockdownRecord
  head : Head
  detector : Detector
  txy : Word16
  tyx : Word16
  log : List LogEntry
  line : Line
  builder : Builder
  peers : List PeerRecord
  slots : List Slot
  operator : Operator
  /-- The pattern commanded for each lamp. -/
  lamps : Vector LampPattern 4
  /-- The pattern commanded for the status line: low, or toggling. -/
  statusToggles : Bool
  /-- The pattern commanded for the alarm. -/
  alarm : AlarmShow
  deriving DecidableEq, Repr

/-- A value held in ones' complement: every bit of it stands inverted (R157). The manual gives the bits of few values of
the evaluation, so the value that the stored one is the complement of stands for it (notes/assumptions/6.md). -/
structure Complement (α : Type) where
  value : α
  deriving DecidableEq, Repr

/-- The values that the Lane Comparator compares, in bits (R158). A lamp pattern and the alarm pattern stand as a code; the
manual gives none, and only whether two are exact inverses counts. -/
structure Compared where
  txy : Word16
  tyx : Word16
  /-- The state code of each slot. -/
  slotStates : List Byte
  /-- The command of each clear pair, toggling as `true`. -/
  commands : Vector Bool 4
  lamps : Vector Byte 4
  /-- The status line's command, toggling as `true`. -/
  status : Bool
  alarm : Byte
  /-- The content of a telegram assembled now (R159). -/
  content : List Byte
  deriving DecidableEq, Repr

/-- An event that lane P has taken and lane Q has not: the instant lane Q takes it, and what lane Q holds after it. -/
structure LaneEvent where
  due : Tick
  copy : Complement Evaluation
  deriving DecidableEq, Repr

/-- A compared item whose lane values differ, and the start of its difference time, `none` once it has exceeded its limit
and been handed over (R158). -/
structure LaneDifference where
  item : LaneItem
  since : Option Tick
  deriving DecidableEq, Repr

/-- Lane Q and the Lane Comparator; lane P's values are the other fields of the state. -/
structure Lanes where
  /-- Lane Q's evaluation, held in ones' complement (R157). -/
  copy : Complement Evaluation
  /-- Lane Q's own count of main-oscillator ticks since the last power-on or restart, from which its station time follows
  (R30, R157). -/
  time : Complement Tick
  /-- The events lane Q has still to take, in order (R157). -/
  behind : List LaneEvent
  /-- The items that a fault falsifies in lane Q. -/
  faulty : List LaneItem
  differing : List LaneDifference
  /-- How many events lane P has taken (the model's own counter, notes/assumptions/6.md). -/
  events : Nat
  /-- The start of the running comparison period (R160). -/
  periodSince : Tick
  deriving DecidableEq, Repr

/-! ### The levels outside -/

/-- The levels the sampled input pins stand at: the head, the operator lines and the restart line. -/
structure Pins where
  head : HeadLevels
  operator : OperatorLevels
  restart : Bool
  deriving DecidableEq, Repr

end Sys2Proof.Machine

namespace Sys2Proof.Machine

/-- The state of the part. `pending` is the queue of the commands that are waiting, first in, first out. -/
structure State where
  /-- Ticks since the last power-on or restart; the station time is its milliseconds (R29). -/
  now : Tick
  /-- The samples of the tick `now` are still to be taken (the model's own field, notes/assumptions/5.md). -/
  sampleDue : Bool
  phase : Phase
  /-- The restart line's activation has been taken and the line has not yet returned (R51). -/
  restartHeld : Bool
  /-- The first of the consecutive samples on which the restart line has been active (R51). -/
  restartFrom : Option Tick
  /-- The configuration image is being read (R37). -/
  reading : Bool
  /-- The self-test now running, and its start (R46). -/
  selfTest : Option SelfTest
  selfTestSince : Tick
  /-- The event of the station time reaching 5000 has been taken (R48, R85). -/
  silenceOver : Bool
  config : Option StationConfig
  /-- The tick of the pass of the image, from which the operator lines are sampled (R130). -/
  passAt : Tick
  lockdown : Bool
  lockdownRecord : Option LockdownRecord
  head : Head
  detector : Detector
  txy : Word16
  tyx : Word16
  log : List LogEntry
  line : Line
  /-- The frames handed on that their blocks have not taken yet, the oldest first (R57; the model's own field,
  notes/assumptions/12.md). -/
  handed : List Handed
  builder : Builder
  peers : List PeerRecord
  slots : List Slot
  operator : Operator
  lanes : Lanes
  outputs : Outputs
  pins : Pins
  /-- How many free values have been used (the model's own counter, notes/assumptions/9.md). -/
  freeUses : Nat
  pending : List Instr
  deriving DecidableEq, Repr

/-- The machine never stops with a fault: the manual gives every command an effect in every state, and a command
whose condition does not hold changes nothing (notes/assumptions/3.md). No constructor, so nobody raises one. -/
inductive Fault where
  deriving DecidableEq, Repr

/-- The refusals. -/
inductive Refusal where
  /-- Raised by `exec` alone, for a command that has no meaning yet (safe: the machine stops); no arm raises it. -/
  | notModelled (mnemonic : String)
  deriving DecidableEq, Repr

/-! ### Start values -/

/-- R23. -/
def HeadChannel.start : HeadChannel :=
  { filtered := none, diffFrom := none, spikes := 0, lastSpike := none, quietSince := none }

/-- R23. -/
def Head.start : Head :=
  { state := .starting, a := .start, b := .start, healthA := { level := none, lowFrom := none },
    healthB := { level := none, lowFrom := none }, recoverFrom := none }

/-- R24. -/
def Detector.start : Detector :=
  { state := .idle, leadAt := none, heldCount := 0, trail := none, rocked := false }

/-- R70. -/
def Line.start : Line :=
  { connected := false
    receiver := { state := .waiting, buffer := [], overlong := false, framingError := false, badFirst := false,
                  idleSeen := false }
    quietSince := none, telegramSlot := false, answerSlot := none, service := none, transmitter := .noService,
    attempt := 0, driven := [], framesGood := 0, framesBad := 0, collisions := 0, dropped := 0,
    consecutiveDrops := 0, lineFault := false }

/-- R86. -/
def Builder.start : Builder :=
  { sequence := 0, request := false, spacingSince := none, heartbeatSince := none, lockdownSince := none }

/-- All six operator lines inactive. -/
def operatorInactive : OperatorLevels :=
  { rq1 := false, rq2 := false, rq3 := false, rq4 := false, cfs := false, cfd := false }

/-- R151. -/
def Operator.start : Operator :=
  { debounced := operatorInactive, runs := { rq1 := 0, rq2 := 0, rq3 := 0, rq4 := 0, cfs := 0, cfd := 0 },
    requestSince := .replicate 4 none, selection := none, demandNumber := 1 }

/-- R177. -/
def Outputs.start : Outputs :=
  let line : ClearLine := { level := false, toggling := false, wasToggling := false, lastRead := none, mismatches := 0 }
  { pairs := .replicate 4 { p := line, q := line }
    lamps := .replicate 4 { pattern := .steady, lit := true, since := 0 }
    status := { high := false, since := none }
    alarm := { shows := .silent, place := 0, sounding := false, since := 0 }
    tickSince := none, watch := 0 }

/-- The start values of the evaluation, as each lane holds them: CONFIG_READ with the image being read, and every block at
its start value (R23, R24, R25, R32, R37, R51, R70, R86, R103, R129, R151, R157, R166, R177). -/
def Evaluation.start : Evaluation :=
  { phase := .configRead, restartHeld := false, restartFrom := none, reading := true, selfTest := none, selfTestSince := 0,
    silenceOver := false, config := none, passAt := 0, lockdown := false, lockdownRecord := none, head := .start,
    detector := .start, txy := 0, tyx := 0, log := [], line := .start, builder := .start, peers := [], slots := [],
    operator := .start, lamps := .replicate 4 .steady, statusToggles := false, alarm := .silent }

/-- R30, R157, R166. -/
def Lanes.start : Lanes :=
  { copy := { value := .start }, time := { value := 0 }, behind := [], faulty := [], differing := [], events := 0, periodSince := 0 }

/-- The head undamped and healthy, the operator lines and the restart line inactive: the levels the model
presumes outside at reset (DESIGN CHOICE: notes/assumptions/4.md). -/
def Pins.quiet : Pins :=
  { head := { hca := false, hcb := false, hha := true, hhb := true }
    operator := operatorInactive
    restart := false }

/-- The part right after power-on with the restart line inactive (R51, R52): CONFIG_READ, the image being read,
every block at its start value (R23, R24, R25, R29, R32, R70, R86, R103, R129, R151, R166, R177). -/
def State.reset : State :=
  { now := 0, sampleDue := false, phase := .configRead, restartHeld := false, restartFrom := none, reading := true,
    selfTest := none, selfTestSince := 0, silenceOver := false, config := none, passAt := 0,
    lockdown := false, lockdownRecord := none, head := .start, detector := .start, txy := 0, tyx := 0, log := [],
    line := .start, handed := [], builder := .start, peers := [], slots := [], operator := .start,
    lanes := .start, outputs := .start, pins := .quiet, freeUses := 0, pending := [] }

end Sys2Proof.Machine
end

