-- ==== Sys2Proof/Machine/Timing.lean ====
section
/-! DEFINITION. Time: the limits the manual gives, in ticks of 10 microseconds; the passing of time; and the
instants at which the timers of the part run out. Each `...Due` answers the instant of an event that a timer
causes, and `none` where that timer does not run, so that the event cannot arise. Both the meaning of the
command (which lets the time up to that instant pass) and the part's own clock (Machine/Idle.lean, which queues
the command at that instant) read it. -/

namespace Sys2Proof.Machine

/-- Milliseconds in ticks. -/
def ms (n : Nat) : Tick := n * 100

/-- A character time, 20 microseconds (R53). -/
def characters (n : Nat) : Tick := 2 * n

/-- The filter time in samples (R2). -/
def filterSamples (code : Nat) : Nat :=
  match code with
  | 0 => 20
  | 1 => 40
  | _ => 80

/-- Lane Q counts the ticks of the main oscillator as lane P does (R30, R157). -/
def Lanes.wait (dt : Nat) (l : Lanes) : Lanes := { l with time := { value := l.time.value + dt } }

/-- `dt` ticks pass. -/
def State.wait (dt : Nat) (s : State) : State :=
  { s with now := s.now + dt, lanes := s.lanes.wait dt }

/-- Time passes up to the instant `t`, if it still lies ahead. -/
def State.upTo (t : Tick) (s : State) : State :=
  { s with now := max s.now t, lanes := s.lanes.wait (t - s.now) }

/-- The station time in ms, modulo 2^32 (R29). -/
def State.stationTime (s : State) : Word32 :=
  BitVec.ofNat 32 (s.now / 100)

/-- The own station number; 0 while there is no configuration (R37, R42). -/
def State.own (s : State) : Nat :=
  match s.config with
  | some c => c.station
  | none => 0

/-- The slot of a number, if it exists (R43). -/
def State.slot? (s : State) (i : Fin 4) : Option Slot := s.slots[i.val]?

/-- The record of a station, if the Peer Table holds one (R44). -/
def State.peer? (s : State) (station : Nat) : Option PeerRecord :=
  s.peers.find? (fun r => r.station == station)

/-- The start phases in which the head is sampled, the operator lines are sampled and the tables exist: from the
pass of the image (R1, R130). -/
def State.configured (s : State) : Bool :=
  match s.phase with
  | .selfTest | .silence | .run => true
  | .configRead | .configHalt => false

/-- In RUN and not in lockdown: ordinary service (R49). -/
def State.inService (s : State) : Bool :=
  s.phase == .run && !s.lockdown

/-- A timer started at `since` runs out after `limit`. -/
def after (since : Option Tick) (limit : Tick) : Option Tick :=
  match since with
  | some t => some (t + limit)
  | none => none

/-- The station time 5000 of R48, in ticks. -/
def silenceTicks : Tick := ms 5000

/-- The end of SILENCE, taken once in each run of the station (R48, R85). -/
def silenceEndDue (s : State) : Option Tick :=
  if s.silenceOver then none else some silenceTicks

/-- The next wrap of the station time (R29). -/
def wrapDue (s : State) : Tick :=
  (s.now / ms (2 ^ 32) + 1) * ms (2 ^ 32)

/-- The characters of the fixed frame of the line loop test (R46). -/
def loopTestTicks : Tick := characters 12

/-- The limit of the line loop test (R46). -/
def loopTestLimit : Tick := ms 2

/-- The line loop test is running (R46). -/
def State.inLoopTest (s : State) : Bool :=
  s.selfTest == some .lineLoop && s.phase == .selfTest && !s.lockdown

/-- The lane test takes 10 ms (R46). -/
def laneTestDue (s : State) : Option Tick :=
  if s.selfTest = some .lane ∧ s.phase = .selfTest ∧ s.lockdown = false then some (s.selfTestSince + ms 10) else none

/-- The read-back test takes five intervals of 2 ms (R46). DEDUCED: notes/assumptions/10.md. -/
def readBackTestDue (s : State) : Option Tick :=
  if s.selfTest = some .readBack ∧ s.phase = .selfTest ∧ s.lockdown = false then some (s.selfTestSince + ms 10) else none

def Head.channel (h : Head) : Channel → HeadChannel
  | .a => h.a
  | .b => h.b

def Head.health (h : Head) : Channel → HealthInput
  | .a => h.healthA
  | .b => h.healthB

/-- R4: the quiet time of a channel, 1000 ms. -/
def spikeQuietDue (s : State) (c : Channel) : Option Tick :=
  after (s.head.channel c).quietSince (ms 1000)

/-- R7: the low run of a health input reaches 2000 samples; its first sample is the first of them. -/
def headFaultDue (s : State) (c : Channel) : Option Tick :=
  if s.configured then after (s.head.health c).lowFrom 1999 else none

/-- R8: the recovery time reaches 2000 ms; the sample it counts from is the first of them. -/
def headRecoveryDue (s : State) : Option Tick :=
  if s.configured = true ∧ s.head.state ≠ .counting then after s.head.recoverFrom 199999 else none

/-- R54: reception idle, 40 microseconds of quiet. -/
def receptionIdleTicks : Tick := characters 2

/-- R54: line idle, the access gap of 80 microseconds. -/
def accessGap : Tick := characters 4

/-- R62: with the transmitter in AWAIT_IDLE, line idle begins when the quiet time reaches the access gap; while a
character is on the line the quiet time is held at zero. -/
def lineIdleDue (s : State) : Option Tick :=
  if s.line.connected = true ∧ s.line.transmitter = .awaitIdle then after s.line.quietSince accessGap else none

/-- R62: the slot delay, ((station + 7 × attempt) mod 32) character times. -/
def slotDelay (station attempt : Nat) : Tick :=
  characters ((station + 7 * attempt) % 32)

/-- R62: the slot delay runs out. -/
def lineWinDue (s : State) : Option Tick :=
  match s.line.transmitter with
  | .slotDelay since => some (since + slotDelay s.own s.line.attempt)
  | _ => none

/-- R64, R65: the `n`-th character of the frame driven has been read back; a number past its end is taken as its last
character, and 0 as its first (DESIGN CHOICE: notes/assumptions/3.md). -/
def readBackDue (s : State) (n : Nat) : Option Tick :=
  match s.line.transmitter with
  | .driving since => some (since + characters (max 1 (min n s.line.driven.length)))
  | _ => none

/-- R74: the spacing timer, 20 ms. -/
def spacingDue (s : State) : Option Tick := after s.builder.spacingSince (ms 20)

/-- R75: the heartbeat timer, 200 ms. -/
def heartbeatDue (s : State) : Option Tick := after s.builder.heartbeatSince (ms 200)

/-- R85: 200 ms to the next LOCKDOWN telegram. -/
def lockdownTelegramDue (s : State) : Option Tick :=
  if s.lockdown then after s.builder.lockdownSince (ms 200) else none

/-- R92: the age of a FRESH record exceeds 600 ms. -/
def peerStaleDue (s : State) (station : Nat) : Option Tick :=
  match s.peer? station with
  | some r => if r.state = .fresh then after r.acceptedAt (ms 600 + 1) else none
  | none => none

/-- R92: the age of a STALE record exceeds 4000 ms. -/
def peerLostDue (s : State) (station : Nat) : Option Tick :=
  match s.peer? station with
  | some r => if r.state = .stale then after r.acceptedAt (ms 4000 + 1) else none
  | none => none

/-- A timer of a slot. -/
def slotDue (s : State) (i : Fin 4) (since : Slot → Option Tick) (limit : Tick) : Option Tick :=
  match s.slot? i with
  | some sl => after (since sl) limit
  | none => none

/-- R109: the negative hold, 1500 ms. -/
def negativeDue (s : State) (i : Fin 4) : Option Tick := slotDue s i (·.negativeSince) (ms 1500)

/-- R110: the settled time, 1200 ms. -/
def settledDue (s : State) (i : Fin 4) : Option Tick := slotDue s i (·.settledSince) (ms 1200)

/-- R115: the confirm timer of a CLEARING slot, 1000 ms. -/
def confirmDue (s : State) (i : Fin 4) : Option Tick :=
  slotDue s i (fun sl => if sl.state = .clearing then sl.confirmSince else none) (ms 1000)

/-- R146: the window of an AGREEING slot, 10,000 ms. -/
def windowDue (s : State) (i : Fin 4) : Option Tick :=
  slotDue s i (fun sl => if sl.state = .agreeing then sl.reset.windowSince else none) (ms 10000)

/-- R143: the linger, 2000 ms. -/
def lingerDue (s : State) (i : Fin 4) : Option Tick := slotDue s i (·.reset.lingerSince) (ms 2000)

/-- R147: the cool-down, 120,000 ms. -/
def coolDownDue (s : State) (i : Fin 4) : Option Tick := slotDue s i (·.reset.coolDownSince) (ms 120000)

/-- R131: a request line active for 500 ms. -/
def selectionDue (s : State) (line : Fin 4) : Option Tick :=
  after s.operator.requestSince[line] (ms 500)

/-- R131: the selection time, 10,000 ms. -/
def selectionTimeoutDue (s : State) : Option Tick :=
  match s.operator.selection with
  | some sel => some (sel.since + ms 10000)
  | none => none

/-- R158: the difference time of an item exceeds 5 ms. -/
def laneMismatchTicks : Tick := ms 5 + 1

/-- R160: the end of the comparison period, 100 ms. -/
def clockPeriodDue (s : State) : Tick := s.lanes.periodSince + ms 100

/-- R168: the next half-period tick, 2 ms. -/
def halfPeriodDue (s : State) : Option Tick := after s.outputs.tickSince (ms 2)

/-- The on and off time of a lamp's flash pattern (R171, R172). -/
def lampTime : LampPattern → Option Tick
  | .off => none
  | .steady => none
  | .flashSlow => some (ms 500)
  | .flashMedium => some (ms 200)
  | .flashFast => some (ms 100)

/-- R171, R172: the running on or off time of a flashing lamp ends. -/
def lampDue (s : State) (lamp : Fin 4) : Option Tick :=
  match lampTime s.outputs.lamps[lamp].pattern with
  | some t => some (s.outputs.lamps[lamp].since + t)
  | none => none

/-- R173: the status line changes level every 50 ms. -/
def statusDue (s : State) : Option Tick := after s.outputs.status.since (ms 50)

/-- The on and off times of the standing alarm patterns, in ms, on time first (R174); none for lockdown, whose
pattern is continuous. -/
def alarmTimes : AlarmCondition → List Nat
  | .lockdown => []
  | .configHalt => [1000, 1000]
  | .lineFault => [200, 200, 200, 1400]
  | .headNotCounting => [200, 1800]

/-- R174: the running on or off time of the standing pattern ends. -/
def alarmDue (s : State) : Option Tick :=
  match s.outputs.alarm.shows with
  | .standing c =>
    match (alarmTimes c)[s.outputs.alarm.place]? with
    | some t => some (s.outputs.alarm.since + ms t)
    | none => none
  | _ => none

/-- R176: the running pulse or gap of the refusal pattern ends. -/
def refusalDue (s : State) : Option Tick :=
  match s.outputs.alarm.shows with
  | .refusal => some (s.outputs.alarm.since + ms 100)
  | _ => none

end Sys2Proof.Machine
end

