-- ==== Sys2Proof/Machine/Flags.lean ====
section
/-! DEFINITION. The conditions that the manual derives from the state and that no block holds as a field of its
own: the reported head status, the settled and clearing conditions, direct-eligibility, what may be sent, what the
outputs are commanded to show. -/

namespace Sys2Proof.Machine

/-! ### Head and passage -/

/-- The reported head status (R21). -/
def State.headStatus (s : State) : HeadStatus :=
  if s.lockdown then .lockdown
  else
    match s.head.state with
    | .starting => .starting
    | .faulty => .faulty
    | .counting => if s.detector.state = .idle then .idle else .busy

/-- Both health levels high and both filtered levels 0: the part of the recovery condition that lasts (R8). -/
def Head.quiet (h : Head) : Bool :=
  h.healthA.level == some true && h.healthB.level == some true &&
    h.a.filtered == some false && h.b.filtered == some false

/-- The passage tick count (R10). -/
def State.passageTicks (s : State) : Nat :=
  match s.detector.leadAt with
  | some t => min 65535 (s.now - t)
  | none => s.detector.heldCount

/-- The own head is COUNTING with the automaton IDLE: clearing condition 3 (R111) and the condition of a
confirmation and of an adoption (R133, R138). -/
def State.headReady (s : State) : Bool :=
  s.head.state == .counting && s.detector.state == .idle

/-! ### Slots -/

/-- The evaluating states (7.1). -/
def SlotState.evaluating : SlotState → Bool
  | .sweep | .occupied | .clearing | .clear => true
  | .disturbed | .agreeing => false

/-- The station is a boundary station of the slot. -/
def Slot.bounds (sl : Slot) (station : Nat) : Bool :=
  sl.boundary.any (fun b => b.station == station)

/-- The boundary list names the peer (R44). -/
def Slot.uses (sl : Slot) (own station : Nat) : Bool :=
  station != own && sl.bounds station

/-- The boundary stations of a slot other than the own one. -/
def Slot.peerStations (sl : Slot) (own : Nat) : List Nat :=
  (sl.boundary.map (·.station)).filter (fun n => n != own)

/-- Every boundary peer record of the slot satisfies `p`; a station without a record does not. -/
def State.everyPeer (s : State) (sl : Slot) (p : PeerRecord → Bool) : Bool :=
  (sl.peerStations s.own).all (fun n => match s.peer? n with | some r => p r | none => false)

/-- The stored view of a section (R97). -/
def PeerRecord.view? (r : PeerRecord) (sectionNumber : Nat) : Option View :=
  r.views.find? (fun v => v.sectionNumber == sectionNumber)

/-- The settled condition (R110). -/
def State.settled (s : State) (sl : Slot) : Bool :=
  sl.settledSince == none && s.everyPeer sl (fun r => r.state == .fresh)

/-- Clearing condition 6 for one record (R111). -/
def PeerRecord.showsSound (r : PeerRecord) (sectionNumber : Nat) : Bool :=
  match r.view? sectionNumber with
  | some v => v.state != .disturbed && v.state != .agreeing
  | none => false

/-- The six clearing conditions (R111). -/
def State.clearingConditions (s : State) (sl : Slot) : Bool :=
  sl.balance == 0 && s.inService && s.headReady &&
    s.everyPeer sl (fun r => r.state == .fresh) &&
    s.everyPeer sl (fun r => r.status == some .idle) &&
    s.everyPeer sl (fun r => r.showsSound sl.sectionNumber)

/-- A slot is direct-eligible (R134). -/
def DisturbanceRecord.directEligible (r : DisturbanceRecord) : Bool :=
  !r.further &&
    match r.firstCause with
    | some .startup | some .peerLost | some .peerRestart | some .lineFault => true
    | _ => false

/-! ### What a telegram would carry -/

/-- The demand part of a slot's view: present while the slot holds a demand record (R83). -/
def Slot.viewDemand (sl : Slot) : Option ViewDemand :=
  match sl.reset.demand with
  | some d => some { identity := d.identity, kind := d.kind, baseTxy := d.baseTxy, baseTyx := d.baseTyx }
  | none => none

/-- The view of an own slot (R81, R82). -/
def State.viewOf (s : State) (sl : Slot) : View :=
  { sectionNumber := sl.sectionNumber, state := sl.state, balance := sl.balance, settled := s.settled sl,
    demand := sl.viewDemand }

/-- What the station publishes: all that a telegram carries but for sender and sequence number (R71, R80). -/
structure Published where
  status : HeadStatus
  txy : Word16
  tyx : Word16
  views : List View
  deriving DecidableEq, Repr

def State.published (s : State) : Published :=
  { status := s.headStatus, txy := s.txy, tyx := s.tyx, views := s.slots.map s.viewOf }

/-! ### The line -/

/-- The line is idle: the quiet time has reached the access gap (R54). -/
def State.lineIsIdle (s : State) : Bool :=
  match s.line.quietSince with
  | some t => decide (t + accessGap ≤ s.now)
  | none => false

/-- The slots may be taken into service (R61). In a lockdown entered in SELF_TEST or SILENCE they may from the tick on which the
station time is 5000, also on an event of that tick taken before SILENCE_END (DESIGN CHOICE: notes/assumptions/41.md). -/
def State.mayServe (s : State) : Bool :=
  match s.phase with
  | .run => true
  | .selfTest | .silence => s.lockdown && s.line.connected && decide (silenceTicks ≤ s.now)
  | .configRead | .configHalt => false

/-- A frame is being driven. -/
def Line.isDriving (l : Line) : Bool :=
  match l.transmitter with
  | .driving _ => true
  | _ => false

/-- The station takes queries to itself and answers them: RUN, or lockdown with the receiver connected (R57, R178). -/
def State.takesQueries (s : State) : Bool :=
  s.line.connected && s.configured && (s.lockdown || s.phase == .run)

/-! ### What the outputs are commanded to show -/

/-- The command of a clear pair, toggling as `true` (R167). -/
def State.clearCommand (s : State) (i : Fin 4) : Bool :=
  match s.slot? i with
  | some sl => sl.state == .clear && s.inService
  | none => false

/-- The lamp pattern of a slot state (R171). -/
def SlotState.lamp : SlotState → LampPattern
  | .clear => .off
  | .occupied | .clearing => .steady
  | .sweep | .agreeing => .flashMedium
  | .disturbed => .flashSlow

/-- The pattern commanded for a lamp (R171, R172). -/
def State.lampCommand (s : State) (i : Fin 4) : LampPattern :=
  if s.lockdown then .flashFast
  else
    match s.phase with
    | .configRead | .selfTest | .silence => .steady
    | .configHalt => .flashSlow
    | .run =>
      match s.slot? i with
      | some sl => sl.state.lamp
      | none => .off

/-- The highest standing alarm condition (R174). -/
def State.alarmCondition (s : State) : Option AlarmCondition :=
  if s.lockdown then some .lockdown
  else if s.phase = .configHalt then some .configHalt
  else if s.line.lineFault then some .lineFault
  else if s.phase = .run ∧ s.head.state ≠ .counting then some .headNotCounting
  else none

end Sys2Proof.Machine
end

