-- ==== Sys2Proof/Machine/Operands.lean ====
section
/-! DEFINITION. The layouts (chapter 11) of what the commands carry as bytes: the bits of a character, the CRC, frames, the bodies of
count telegrams, queries and answers, and the configuration image with its checks. -/

namespace Sys2Proof

/-! ### Characters on the section line (R53) -/

/-- The character that eight data bits carry, the least significant one first (R53). -/
def CharBits.value (b : CharBits) : Byte :=
  BitVec.ofNat 8 (b.data.toList.foldr (fun bit n => bit.toNat + 2 * n) 0)

/-- The stop bit is not at the idle level (R53). -/
def CharBits.framingError (b : CharBits) : Bool := b.stop != .idle

/-- The bits a station drives for a character (R53). -/
def charBits (c : Byte) : CharBits :=
  { start := .driven, data := .ofFn (fun i => c.getLsbD i), stop := .idle }

end Sys2Proof

namespace Sys2Proof.Machine

/-! ### CRC -/

/-- The generator of R40 below its top power: taps at 14, 12, 11, 8, 5, 4, 2 and 0. -/
def crcGenerator : Word16 := 0x5935

/-- One bit through the CRC register (R40). -/
def crcBit (register : Word16) (bit : Bool) : Word16 :=
  if register.msb != bit then (register <<< 1) ^^^ crcGenerator else register <<< 1

/-- One byte through the CRC register, most significant bit first (R40). -/
def crcByte (register : Word16) (byte : Byte) : Word16 :=
  [7, 6, 5, 4, 3, 2, 1, 0].foldl (fun r i => crcBit r (byte.getLsbD i)) register

/-- The CRC-16 of R40 and R56: all sixteen bits set at the start, the result not inverted. -/
def crc16 (bytes : List Byte) : Word16 :=
  bytes.foldl crcByte 0xFFFF

/-! ### Numbers as characters, most significant first (11.2) -/

def high (w : Word16) : Byte := w.extractLsb' 8 8
def low (w : Word16) : Byte := w.extractLsb' 0 8

def word (hi lo : Byte) : Word16 := hi ++ lo

def chars16 (w : Word16) : List Byte := [high w, low w]

def chars32 (w : Word32) : List Byte :=
  [w.extractLsb' 24 8, w.extractLsb' 16 8, w.extractLsb' 8 8, w.extractLsb' 0 8]

/-- A number in one character. -/
def char8 (n : Nat) : Byte := BitVec.ofNat 8 n

/-- A number in three characters. -/
def chars24 (n : Nat) : List Byte := [char8 (n / 65536), char8 (n / 256), char8 n]

def flag (b : Bool) (weight : Nat) : Nat := if b then weight else 0

/-! ### Codes -/

def HeadStatus.code : HeadStatus → Byte
  | .starting => 1
  | .idle => 2
  | .busy => 3
  | .faulty => 4
  | .lockdown => 5

def headStatusOf (code : Byte) : Option HeadStatus :=
  match code.toNat with
  | 1 => some .starting
  | 2 => some .idle
  | 3 => some .busy
  | 4 => some .faulty
  | 5 => some .lockdown
  | _ => none

def SlotState.code : SlotState → Byte
  | .disturbed => 1
  | .agreeing => 2
  | .sweep => 3
  | .occupied => 4
  | .clearing => 5
  | .clear => 6

def slotStateOf (code : Byte) : Option SlotState :=
  match code.toNat with
  | 1 => some .disturbed
  | 2 => some .agreeing
  | 3 => some .sweep
  | 4 => some .occupied
  | 5 => some .clearing
  | 6 => some .clear
  | _ => none

/-- The demand number as it stands in a view: plus 128 for DIRECT (11.2). -/
def demandNumberCode (number : Nat) (kind : ResetKind) : Byte :=
  match kind with
  | .sweep => char8 number
  | .direct => char8 (number + 128)

/-! ### Frames -/

def sync : Byte := 227

/-- The frame of a body: SYNC, LEN, the body and the CRC over LEN and body (R64, 11.2). -/
def frameOf (body : List Byte) : List Byte :=
  let counted := char8 body.length :: body
  sync :: counted ++ chars16 (crc16 counted)

/-- The body of a valid frame (R56): SYNC first, LEN in 1..64, exactly LEN + 4 characters, and the CRC right. -/
def frameBody (frame : List Byte) : Option (List Byte) :=
  match frame with
  | first :: len :: rest =>
    let n := len.toNat
    let body := rest.take n
    if first = sync ∧ 1 ≤ n ∧ n ≤ 64 ∧ rest.length = n + 2 ∧ rest.drop n = chars16 (crc16 (len :: body)) then
      some body
    else none
  | _ => none

/-! ### Bodies -/

/-- The line mark (11.2). -/
def lineMark : List Byte := [75, 157, 38]

/-- The common header of a body (11.2). -/
def bodyHeader (kind sender target : Byte) : List Byte := lineMark ++ [kind, sender, target]

def DemandPart.encode (d : DemandPart) : List Byte :=
  [d.originator, d.number] ++ chars16 d.baseTxy ++ chars16 d.baseTyx

/-- The flags of a view: settled adds 1, a demand part adds 2 (11.2). -/
def ViewPart.flags (v : ViewPart) : Byte :=
  char8 (flag v.settled 1 + flag v.demand.isSome 2)

def ViewPart.encode (v : ViewPart) : List Byte :=
  chars16 v.sectionNumber ++ [v.state, ViewPart.flags v] ++ chars16 v.balance ++
    match v.demand with
    | some d => DemandPart.encode d
    | none => []

/-- The body of a count telegram (11.2). -/
def encodeTelegram (t : Telegram) : List Byte :=
  bodyHeader 1 t.sender 0 ++ chars16 t.sequence ++ [HeadStatus.code t.status] ++ chars16 t.txy ++
    chars16 t.tyx ++ [t.viewCount] ++ t.views.flatMap ViewPart.encode

/-- The views a telegram body holds from offset 14 on, and whether characters remain that make no whole view;
`none` if a flags character lies outside 0..3 (R181). -/
def parseViews : List Byte → Option (List ViewPart × Bool)
  | [] => some ([], false)
  | s1 :: s0 :: state :: flags :: b1 :: b0 :: rest =>
    if 3 < flags.toNat then none
    else if flags.getLsbD 1 then
      match rest with
      | o :: n :: x1 :: x0 :: y1 :: y0 :: rest' =>
        match parseViews rest' with
        | some (vs, more) =>
          some ({ sectionNumber := word s1 s0, state := state, settled := flags.getLsbD 0, balance := word b1 b0,
                  demand := some { originator := o, number := n, baseTxy := word x1 x0, baseTyx := word y1 y0 } } :: vs,
                more)
        | none => none
      | _ => some ([], true)
    else
      match parseViews rest with
      | some (vs, more) =>
        some ({ sectionNumber := word s1 s0, state := state, settled := flags.getLsbD 0, balance := word b1 b0,
                demand := none } :: vs, more)
      | none => none
  | [_, _, _, flags] => if 3 < flags.toNat then none else some ([], true)
  | [_, _, _, flags, _] => if 3 < flags.toNat then none else some ([], true)
  | _ => some ([], true)

/-- The body of a valid frame, classified (R181). -/
inductive Body where
  | telegram (telegram : Telegram)
  | query (target kind parameter : Byte)
  | answer
  | unlisted
  deriving DecidableEq, Repr

/-- The fields of a telegram body after its header (R181): at least 14 characters, a head status code of 1..5 and
every view flags character in 0..3. -/
def parseTelegram (sender : Byte) (fields : List Byte) : Body :=
  match fields with
  | q1 :: q0 :: status :: x1 :: x0 :: y1 :: y0 :: count :: views =>
    match headStatusOf status, parseViews views with
    | some st, some (vs, more) =>
      .telegram { sender := sender, sequence := word q1 q0, status := st, txy := word x1 x0, tyx := word y1 y0,
                  viewCount := count, views := vs, partialView := more }
    | _, _ => .unlisted
  | _ => .unlisted

/-- The kind of a body (R181). -/
def parseBody (body : List Byte) : Body :=
  if body.take 3 = lineMark then
    match body.drop 3 with
    | kind :: sender :: target :: fields =>
      if kind = 1 ∧ target = 0 then parseTelegram sender fields
      else if kind = 2 ∧ sender = 31 then
        match fields with
        | [queryKind, parameter] => .query target queryKind parameter
        | _ => .unlisted
      else if kind = 3 then .answer
      else .unlisted
    | kind :: _ => if kind = 3 then .answer else .unlisted
    | [] => .unlisted
  else .unlisted

/-- The sender field of a body: offset 4 of a body that begins with the line mark and holds at least 5
characters (R181). -/
def senderField (body : List Byte) : Option Byte :=
  if body.take 3 = lineMark then body[4]? else none

/-! ### Views in range -/

/-- A demand part in range (R88): originator 1..30, demand number 1..15 with or without 128. -/
def DemandPart.read (d : DemandPart) : Option ViewDemand :=
  let number := d.number.toNat % 128
  let kind : ResetKind := if d.number.toNat < 128 then .sweep else .direct
  if 1 ≤ d.originator.toNat ∧ d.originator.toNat ≤ 30 ∧ 1 ≤ number ∧ number ≤ 15 then
    some { identity := { originator := d.originator.toNat, number := number }, kind := kind,
           baseTxy := d.baseTxy, baseTyx := d.baseTyx }
  else none

/-- A view in range (R88): one of the six states, a balance in −32760..+32760, and its demand part in range. -/
def ViewPart.read (v : ViewPart) : Option View :=
  match slotStateOf v.state with
  | some st =>
    if -32760 ≤ v.balance.toInt ∧ v.balance.toInt ≤ 32760 then
      match v.demand with
      | none =>
        some { sectionNumber := v.sectionNumber.toNat, state := st, balance := v.balance.toInt,
               settled := v.settled, demand := none }
      | some d =>
        match DemandPart.read d with
        | some vd =>
          some { sectionNumber := v.sectionNumber.toNat, state := st, balance := v.balance.toInt,
                 settled := v.settled, demand := some vd }
        | none => none
    else none
  | none => none

/-- A count telegram is well formed (R88). -/
def wellFormedTelegram (t : Telegram) : Bool :=
  decide (t.viewCount.toNat ≤ 4) && t.viewCount.toNat == t.views.length && !t.partialView &&
    t.views.all (fun v => (ViewPart.read v).isSome) &&
    decide ((t.views.map (·.sectionNumber)).Nodup) &&
    (t.status != .lockdown || t.viewCount.toNat == 0)

/-- The views of a well-formed telegram, as they are stored (R97). -/
def storedViews (t : Telegram) : List View :=
  t.views.filterMap ViewPart.read

/-- A demand part as it is sent (R83, 11.2). -/
def ViewDemand.toPart (d : ViewDemand) : DemandPart :=
  { originator := char8 d.identity.originator, number := demandNumberCode d.identity.number d.kind,
    baseTxy := d.baseTxy, baseTyx := d.baseTyx }

/-- A view as it is sent (R81, 11.2). -/
def View.toPart (v : View) : ViewPart :=
  { sectionNumber := BitVec.ofNat 16 v.sectionNumber, state := SlotState.code v.state, settled := v.settled,
    balance := BitVec.ofInt 16 v.balance, demand := v.demand.map ViewDemand.toPart }

/-! ### The configuration image (11.3) -/

/-- A slot of the image (R38, R182). -/
structure ImageSlot where
  sectionNumber : Nat
  side : Side
  direct : Bool
  entries : List (Nat × Side)
  deriving DecidableEq, Repr

/-- An image whose length could be determined (R38, R39). -/
structure Image where
  format : Nat
  station : Nat
  filterCode : Nat
  spacing : Nat
  slots : List ImageSlot
  crcMatches : Bool
  deriving DecidableEq, Repr

/-- The byte read at a place; what does not answer reads as all bits set (R37). -/
def imageByte (memory : List Byte) (i : Nat) : Byte := memory[i]?.getD 255

/-- The top bit of a slot or entry byte is set on side Y (R182). -/
def sideOf (b : Byte) : Side := if b.getLsbD 7 then .y else .x

/-- The boundary entries at a place (R182). -/
def readEntries (memory : List Byte) (pos : Nat) : Nat → List (Nat × Side)
  | 0 => []
  | n + 1 =>
    let b := imageByte memory pos
    (b.toNat % 128, sideOf b) :: readEntries memory (pos + 1) n

/-- The slots at a place, and the place after them; `none` once a boundary count lies outside 2..8 (R39). -/
def readSlots (memory : List Byte) (pos : Nat) : Nat → Option (List ImageSlot × Nat)
  | 0 => some ([], pos)
  | n + 1 =>
    let a := imageByte memory pos
    let b := imageByte memory (pos + 1)
    let count := (imageByte memory (pos + 2)).toNat
    if 2 ≤ count ∧ count ≤ 8 then
      match readSlots memory (pos + 3 + count) n with
      | some (slots, fin) =>
        some ({ sectionNumber := a.toNat % 64 * 256 + b.toNat, side := sideOf a, direct := a.getLsbD 6,
                entries := readEntries memory (pos + 3) count } :: slots, fin)
      | none => none
    else none

/-- The image read from the start of the memory; `none` if its length cannot be determined (R37, R39, R40). -/
def readImage (memory : List Byte) : Option Image :=
  let byte := imageByte memory
  let slotCount := (byte 5).toNat
  if slotCount ≤ 4 then
    match readSlots memory 6 slotCount with
    | some (slots, fin) =>
      some { format := (byte 0).toNat, station := (byte 1).toNat, filterCode := (byte 2).toNat,
             spacing := (word (byte 3) (byte 4)).toNat, slots := slots,
             crcMatches := crc16 ((List.range fin).map byte) == word (byte fin) (byte (fin + 1)) }
    | none => none
  else none

/-- The boundary stations other than the own one, each once, in ascending order (R41 check 9, R44). -/
def Image.peers (im : Image) : List Nat :=
  (List.range 128).filter (fun n => n != im.station && im.slots.any (fun sl => sl.entries.any (fun e => e.1 == n)))

/-- Every field lies within its range (R38; R41 check 4). -/
def Image.inRange (im : Image) : Bool :=
  decide (1 ≤ im.station ∧ im.station ≤ 30 ∧ im.filterCode ≤ 2 ∧ 80 ≤ im.spacing ∧ im.spacing ≤ 400) &&
    im.slots.all (fun sl => decide (1 ≤ sl.sectionNumber ∧ sl.sectionNumber ≤ 1023) &&
      sl.entries.all (fun e => decide (1 ≤ e.1 ∧ e.1 ≤ 30)))

/-- The own number stands in exactly one entry of the slot, on the slot's side (R41 check 8). -/
def ImageSlot.ownOnce (sl : ImageSlot) (own : Nat) : Bool :=
  sl.entries.filter (fun e => e.1 == own) == [(own, sl.side)]

/-- The checks of R41 on an image whose length could be determined (check 2). -/
def Image.passes (im : Image) : Bool :=
  im.format == 21 && im.crcMatches && im.inRange &&
    decide ((im.slots.map (·.sectionNumber)).Nodup) &&
    decide ((im.slots.filter (fun sl => sl.side == .x)).length ≤ 2) &&
    decide ((im.slots.filter (fun sl => sl.side == .y)).length ≤ 2) &&
    im.slots.all (fun sl => decide ((sl.entries.map (·.1)).Nodup)) &&
    im.slots.all (fun sl => sl.ownOnce im.station) &&
    decide (im.peers.length ≤ 16)

/-- The image that passes, if the memory holds one (R41). -/
def passingImage (memory : List Byte) : Option Image :=
  match readImage memory with
  | some im => if im.passes then some im else none
  | none => none

end Sys2Proof.Machine
end

