-- ==== Sys2Proof/Machine/Lanes.lean ====
section
/-! DEFINITION. The two lanes (9.3): the evaluation, as lane P has it in the fields of the state and as lane Q holds it in
ones' complement; the values compared, which each lane computes from its own evaluation; how lane Q follows lane P; and the
difference times of the Lane Comparator. Lane Q's evaluation is what lane P had after the last event that lane Q has taken,
but for the items that a fault falsifies (notes/assumptions/6.md). -/

namespace Sys2Proof.Machine

/-! ### The content of a telegram -/

/-- The own count telegram, assembled from live state (R76, R80, R81). -/
def ownTelegram (s : State) : Telegram :=
  { sender := char8 s.own, sequence := s.builder.sequence, status := s.headStatus, txy := s.txy, tyx := s.tyx,
    viewCount := char8 s.slots.length, views := s.slots.map (fun sl => View.toPart (s.viewOf sl)), partialView := false }

/-- The LOCKDOWN telegram (R84). -/
def lockdownTelegram (s : State) : Telegram :=
  { sender := char8 s.own, sequence := s.builder.sequence, status := .lockdown, txy := 0, tyx := 0, viewCount := 0,
    views := [], partialView := false }

/-- The telegram a win of the line assembles (R76, R84). -/
def telegramAtWin (s : State) : Telegram := if s.lockdown then lockdownTelegram s else ownTelegram s

/-! ### Lane P -/

/-- A code of the model's own, for the comparison alone. -/
def LampPattern.code : LampPattern → Byte
  | .off => 0
  | .steady => 1
  | .flashSlow => 2
  | .flashMedium => 3
  | .flashFast => 4

/-- A code of the model's own, for the comparison alone. -/
def AlarmShow.code : AlarmShow → Byte
  | .silent => 0
  | .standing .lockdown => 1
  | .standing .configHalt => 2
  | .standing .lineFault => 3
  | .standing .headNotCounting => 4
  | .refusal => 5

/-- The compared values of an evaluation: of these slots and totals, and of the patterns commanded (R157, R158, R159). -/
def comparedOf (s : State) (lamps : Vector LampPattern 4) (statusToggles : Bool) (alarm : AlarmShow) : Compared :=
  { txy := s.txy
    tyx := s.tyx
    slotStates := s.slots.map (fun sl => SlotState.code sl.state)
    commands := .ofFn s.clearCommand
    lamps := lamps.map LampPattern.code
    status := statusToggles
    alarm := AlarmShow.code alarm
    content := encodeTelegram (telegramAtWin s) }

/-- The patterns that lane P commands for the lamps. -/
def State.lampPatterns (s : State) : Vector LampPattern 4 := .ofFn (fun i => s.outputs.lamps[i].pattern)

/-- The compared values as lane P has them. -/
def State.laneP (s : State) : Compared :=
  comparedOf s s.lampPatterns s.outputs.status.since.isSome s.outputs.alarm.shows

/-- The evaluation as lane P has it. -/
def State.evaluation (s : State) : Evaluation :=
  { phase := s.phase, restartHeld := s.restartHeld, restartFrom := s.restartFrom, reading := s.reading,
    selfTest := s.selfTest, selfTestSince := s.selfTestSince, silenceOver := s.silenceOver, config := s.config,
    passAt := s.passAt, lockdown := s.lockdown, lockdownRecord := s.lockdownRecord, head := s.head,
    detector := s.detector, txy := s.txy, tyx := s.tyx, log := s.log, line := s.line, builder := s.builder,
    peers := s.peers, slots := s.slots, operator := s.operator, lamps := s.lampPatterns,
    statusToggles := s.outputs.status.since.isSome, alarm := s.outputs.alarm.shows }

/-! ### Lane Q -/

/-- A state with this evaluation at this time, for the rules that read a state. -/
def Evaluation.asState (time : Tick) (e : Evaluation) : State :=
  { State.reset with
    now := time
    phase := e.phase, restartHeld := e.restartHeld, restartFrom := e.restartFrom, reading := e.reading,
    selfTest := e.selfTest, selfTestSince := e.selfTestSince, silenceOver := e.silenceOver, config := e.config,
    passAt := e.passAt, lockdown := e.lockdown, lockdownRecord := e.lockdownRecord, head := e.head,
    detector := e.detector, txy := e.txy, tyx := e.tyx, log := e.log, line := e.line, builder := e.builder,
    peers := e.peers, slots := e.slots, operator := e.operator }

/-- The compared values of an evaluation at a time, which each lane computes for itself (9.3). -/
def Evaluation.compared (time : Tick) (e : Evaluation) : Compared := comparedOf (e.asState time) e.lamps e.statusToggles e.alarm

/-- Every bit inverted (R157). -/
def Compared.inverse (c : Compared) : Compared :=
  { txy := ~~~c.txy
    tyx := ~~~c.tyx
    slotStates := c.slotStates.map (fun b => ~~~b)
    commands := c.commands.map (fun b => !b)
    lamps := c.lamps.map (fun b => ~~~b)
    status := !c.status
    alarm := ~~~c.alarm
    content := c.content.map (fun b => ~~~b) }

/-- The compared values as lane Q holds them, every bit inverted (R157). -/
def Lanes.laneQ (l : Lanes) : Compared := (l.copy.value.compared l.time.value).inverse

/-- The station time as lane Q holds it, every bit inverted (R29, R30, R157). -/
def Lanes.stationTime (l : Lanes) : Word32 := ~~~BitVec.ofNat 32 (l.time.value / 100)

/-- Lane Q's value of an item is the exact inverse of lane P's (R157, R158). -/
def Compared.inverts (q p : Compared) : LaneItem → Bool
  | .ownTotals => q.txy == ~~~p.txy && q.tyx == ~~~p.tyx
  | .slotState i => q.slotStates[i.val]? == (p.slotStates[i.val]?).map (fun b => ~~~b)
  | .clearCommand i => q.commands[i] == !p.commands[i]
  | .lampPattern i => q.lamps[i] == ~~~p.lamps[i]
  | .statusPattern => q.status == !p.status
  | .alarmPattern => q.alarm == ~~~p.alarm
  | .telegramContent => q.content == p.content.map (fun b => ~~~b)

/-- The command of a clear pair as lane Q has derived it; lockdown turns every command off on its entry, lane Q's with it
(R161, R167, R168; DEDUCED: notes/assumptions/32.md). -/
def State.laneQCommand (s : State) (i : Fin 4) : Bool := !s.lanes.laneQ.commands[i] && !s.lockdown

/-- Both lanes hold the same, as at a power-on and a restart. -/
def alignLanes (s : State) : State := { s with lanes := { s.lanes with copy := { value := s.evaluation } } }

/-! ### Comparison -/

/-- The four slot, pair, lamp and line numbers. -/
def four : List (Fin 4) := [0, 1, 2, 3]

/-- The items compared at every event in the present phase; a telegram's content is compared from a win on (R158). -/
def State.comparedItems (s : State) : List LaneItem :=
  (if s.configured then [.ownTotals] else []) ++
    (four.filter (fun i => decide (i.val < s.slots.length))).map .slotState ++ four.map .clearCommand ++
    four.map .lampPattern ++ [.statusPattern, .alarmPattern]

/-- The lanes differ in an item, against lane P's values (R157). -/
def Lanes.differs (p : Compared) (l : Lanes) (item : LaneItem) : Bool :=
  l.faulty.contains item || !l.laneQ.inverts p item

/-- The comparator holds the item as differing. -/
def Lanes.holds (l : Lanes) (item : LaneItem) : Bool := l.differing.any (fun d => d.item == item)

/-- The difference times after an item is found differing or agreeing at an event: a time starts from zero or runs on, or
it is discarded (R158, R159). -/
def noteDifference (at' : Tick) (item : LaneItem) (differs : Bool) (ds : List LaneDifference) : List LaneDifference :=
  if differs then
    if ds.any (fun d => d.item == item) then ds else ds ++ [{ item := item, since := some at' }]
  else ds.filter (fun d => d.item != item)

/-- The items compared at an event: a telegram's content as well, while the comparator holds it as differing (R159). -/
def Lanes.live (items : List LaneItem) (l : Lanes) : List LaneItem :=
  if l.holds .telegramContent then items ++ [.telegramContent] else items

/-- The comparison at an event (R158, R159). -/
def Lanes.compare (at' : Tick) (items : List LaneItem) (p : Compared) (l : Lanes) : Lanes :=
  { l with
    differing := (l.live items).foldl (fun ds item => noteDifference at' item (l.differs p item) ds) l.differing }

/-! ### How lane Q follows -/

/-- Lane Q takes, in their order, the events that have fallen due, each compared on its instant (R157, R158). -/
def Lanes.follow (now : Tick) (items : List LaneItem) (p : Compared) : List LaneEvent → Lanes → Lanes
  | [], l => { l with behind := [] }
  | e :: rest, l =>
    if e.due ≤ now then Lanes.follow now items p rest (Lanes.compare e.due items p { l with copy := e.copy })
    else { l with behind := e :: rest }

/-- Lane Q has taken what has fallen due by now. -/
def catchUp (s : State) : State :=
  { s with lanes := s.lanes.follow s.now s.comparedItems s.laneP s.lanes.behind }

/-- Lane P takes an event; lane Q will take it at most 1 ms later, and after those before it (R157). -/
def Lanes.enqueue (now : Tick) (e : Evaluation) (l : Lanes) : Lanes :=
  { l with
    behind := l.behind ++
      [{ due := max ((l.behind.getLast?.map (·.due)).getD 0) (now + Config.laneLag l.events % (ms 1 + 1))
         copy := { value := e } }]
    events := l.events + 1 }

/-- The lanes after an event that lane P has taken (R157, R158). -/
def noteLanes (s : State) : State :=
  { s with lanes := (s.lanes.enqueue s.now s.evaluation).compare s.now s.comparedItems s.laneP }

/-- A sample lengthens or ends a run that the lanes hold, which is no event of a compared value (R2, R51, R130, R157). -/
def noteRuns (before after : State) : State :=
  if before.evaluation = after.evaluation then after
  else { after with lanes := after.lanes.enqueue after.now after.evaluation }

/-- The lanes' copies of a telegram are compared at its win; a fault in lane Q's copy lasts until a win without one
(R159). -/
def Lanes.atWin (now : Tick) (fault : Bool) (p : Compared) (l : Lanes) : Lanes :=
  let others := l.faulty.filter (fun i => i != .telegramContent)
  let judged := { l with faulty := if fault then others ++ [LaneItem.telegramContent] else others }
  { judged with
    differing := noteDifference now .telegramContent (judged.differs p .telegramContent) judged.differing }

/-- The difference time of an item has exceeded its limit: it stops, and the item stays false in lane Q (R158). -/
def Lanes.handOver (item : LaneItem) (l : Lanes) : Lanes :=
  { l with
    faulty := l.faulty.filter (fun i => i != item) ++ [item]
    differing := l.differing.filter (fun d => d.item != item) ++ [{ item := item, since := none }] }

end Sys2Proof.Machine
end

