-- ==== Sys2Proof/Machine/Ops.lean ====
section
/-! DEFINITION. The named operations that the commands share: on a slot (recomputation, the clearing judgement, a
declared cause), on the station (a count, a reason for a telegram, lockdown), and what every event ends with. -/

namespace Sys2Proof.Machine

/-! ### Totals and contributions -/

/-- The current totals TXY, TYX of a point: the own ones, or those the peer's record holds (R105). -/
def State.totalsOf (s : State) (station : Nat) : Word16 × Word16 :=
  if station = s.own then (s.txy, s.tyx)
  else
    match s.peer? station with
    | some r => (r.txy, r.tyx)
    | none => (0, 0)

/-- The in-total of a point for a section on this side (R105). -/
def inTotal (side : Side) (totals : Word16 × Word16) : Word16 :=
  match side with
  | .y => totals.1
  | .x => totals.2

/-- The out-total of a point for a section on this side (R105). -/
def outTotal (side : Side) (totals : Word16 × Word16) : Word16 :=
  match side with
  | .y => totals.2
  | .x => totals.1

/-- The raw contributions of a boundary point: modular differences to its base (R106). -/
def rawContribution (s : State) (b : Boundary) : Contribution :=
  { inward := (inTotal b.side (s.totalsOf b.station) - b.inBase).toNat
    outward := (outTotal b.side (s.totalsOf b.station) - b.outBase).toNat }

/-- The contributions used: clamped to 4095 (R106). -/
def Contribution.clamp (c : Contribution) : Contribution :=
  { inward := min c.inward 4095, outward := min c.outward 4095 }

def inwardSum (cs : List Contribution) : Nat := (cs.map (·.inward)).sum
def outwardSum (cs : List Contribution) : Nat := (cs.map (·.outward)).sum

/-- In-contributions less out-contributions (R106). -/
def balanceOf (cs : List Contribution) : Int := (inwardSum cs : Int) - (outwardSum cs : Int)

/-- A raw contribution exceeds 4095 (R107). -/
def Contribution.outOfRange (c : Contribution) : Bool :=
  decide (4095 < c.inward) || decide (4095 < c.outward)

/-- The contributions the slot would have with the totals and bases as they stand (R106). -/
def usedContributions (s : State) (sl : Slot) : List Contribution :=
  sl.boundary.map (fun b => (rawContribution s b).clamp)

/-- The range condition as the totals and bases stand (R107). -/
def outOfRange (s : State) (sl : Slot) : Bool :=
  sl.boundary.any (fun b => (rawContribution s b).outOfRange)

/-- The negative hold after a recomputation: it starts when the balance becomes negative in an evaluating state,
stops when it is zero or positive, and else stays as it is (R109). -/
def negativeHold (now : Tick) (sl : Slot) (balance : Int) : Option Tick :=
  if 0 ≤ balance then none
  else if sl.state.evaluating = true ∧ 0 ≤ sl.balance then some now
  else sl.negativeSince

/-- A recomputation of the slot's contributions and balance, with the judgement of the range condition, of the
negative hold and of the entered flag (R106, R107, R109, R117). -/
def recompute (s : State) (sl : Slot) : Slot :=
  let used := usedContributions s sl
  { sl with
    contributions := used
    balance := balanceOf used
    range := outOfRange s sl
    negativeSince := negativeHold s.now sl (balanceOf used)
    entered := sl.entered || (sl.state == .sweep && decide (1 ≤ inwardSum used)) }

/-- The range condition comes to stand by a recomputation, on an event that found the slot in an evaluating state or not: a
cause of the same event that reached the slot before holds no other one back (R107, R127; notes/assumptions/35.md). -/
def rangeRises (s : State) (evaluating : Bool) (sl : Slot) : Bool :=
  evaluating && outOfRange s sl && !sl.range

/-! ### Moving among the evaluating states -/

/-- The slot enters CLEARING: the confirm timer starts from zero, and a SWEEP leaves its entered flag (R113, R117). -/
def Slot.startClearing (now : Tick) (sl : Slot) : Slot :=
  { sl with state := .clearing, confirmSince := some now, entered := false }

/-- The slot returns to OCCUPIED, the confirm timer stopped (R114, R116). -/
def Slot.toOccupied (sl : Slot) : Slot :=
  { sl with state := .occupied, confirmSince := none }

/-- The judgement of the clearing conditions, `holds`, on an event that may or may not have changed a boundary
total (R113, R114, R116, R117); one move an event. -/
def judgeClearing (now : Tick) (holds totalChanged : Bool) (sl : Slot) : Slot :=
  match sl.state with
  | .occupied => if holds then sl.startClearing now else sl
  | .clearing =>
    if holds then (if totalChanged then { sl with confirmSince := some now } else sl) else sl.toOccupied
  | .clear => if holds && !totalChanged then sl else sl.toOccupied
  | .sweep => if holds && sl.entered then sl.startClearing now else sl
  | .disturbed => sl
  | .agreeing => sl

/-- The clearing conditions of a slot judged on the state as it stands (R112). -/
def judge (s : State) (totalChanged : Bool) (sl : Slot) : Slot :=
  judgeClearing s.now (s.clearingConditions sl) totalChanged sl

/-- The judgement for every slot that `p` picks (R112). -/
def judgeSlots (p : Slot → Bool) (s : State) : State :=
  { s with slots := s.slots.map (fun sl => if p sl then judge s false sl else sl) }

/-- The judgement for every slot. -/
def judgeAll (s : State) : State := judgeSlots (fun _ => true) s

/-- The judgement for the slots using a peer. -/
def judgeUsing (station : Nat) (s : State) : State := judgeSlots (fun sl => sl.uses s.own station) s

/-! ### A declared cause -/

/-- The record of a slot that a cause moves into DISTURBED (R154). -/
def DisturbanceRecord.enter (r : DisturbanceRecord) (cause : Cause) (time : Word32) (station : Nat) :
    DisturbanceRecord :=
  { firstCause := some cause, firstTime := some time, firstStation := some station, further := false,
    lastFurther := none, count := min 255 (r.count + 1) }

/-- A cause finds the slot DISTURBED already (R155). -/
def DisturbanceRecord.addFurther (r : DisturbanceRecord) (cause : Cause) : DisturbanceRecord :=
  { r with further := true, lastFurther := some cause }

/-- The demand of an AGREEING slot is abandoned for a cause, and the linger of any other ends (R143, R145). -/
def SlotReset.abandonForCause (r : SlotReset) (state : SlotState) : SlotReset :=
  { r with
    demand := none, agreement := none, windowSince := none, lingerSince := none
    outcome := if state = .agreeing then .abandonedDisturbance else r.outcome }

/-- A cause is taken on a slot (R118, R145, R154, R155). -/
def disturb (cause : Cause) (time : Word32) (station : Nat) (sl : Slot) : Slot :=
  if sl.state = .disturbed then { sl with record := sl.record.addFurther cause }
  else
    { sl with
      state := .disturbed
      confirmSince := none
      negativeSince := none
      entered := false
      record := sl.record.enter cause time station
      reset := sl.reset.abandonForCause sl.state }

/-- A cause is declared on the slots that `p` picks; in lockdown it is not applied (R152). -/
def declareOn (cause : Cause) (station : Nat) (p : Slot → Bool) (s : State) : State :=
  if s.lockdown then s
  else { s with slots := s.slots.map (fun sl => if p sl then disturb cause s.stationTime station sl else sl) }

/-- A point-wide or station cause, on every slot (R152). -/
def declareAll (cause : Cause) (s : State) : State := declareOn cause s.own (fun _ => true) s

/-- A peer cause, on every slot using the peer (R152, R154). -/
def declareUsing (cause : Cause) (peer : Nat) (s : State) : State :=
  declareOn cause peer (fun sl => sl.uses s.own peer) s

/-- One slot changes, by its number. -/
def State.modifySlot (s : State) (i : Fin 4) (f : Slot → Slot) : State :=
  { s with slots := s.slots.modify i.val f }

/-- A section cause, on one slot (R152). -/
def declareAt (cause : Cause) (i : Fin 4) (s : State) : State :=
  if s.lockdown then s else s.modifySlot i (disturb cause s.stationTime s.own)

/-! ### Changes of totals -/

/-- A boundary total of the slot has changed: the settled time starts again, contributions and balance are computed
afresh, COUNT_RANGE is declared if the range condition comes to stand, and the clearing conditions are judged
(R106, R107, R110, R112). The event found the slot in an evaluating state, or not. -/
def takeTotals (s : State) (evaluating : Bool) (sl : Slot) : Slot :=
  let judged := judge s true (recompute s { sl with settledSince := some s.now })
  if rangeRises s evaluating sl && !s.lockdown then disturb .countRange s.stationTime s.own judged else judged

/-- A demand ends without agreement and without a cause: the slot returns to DISTURBED with its disturbance record
unchanged (R140, R144, R146). -/
def Slot.endDemand (sl : Slot) (outcome : ResetOutcome) : Slot :=
  { sl with
    state := .disturbed
    reset := { sl.reset with demand := none, agreement := none, windowSince := none, outcome := outcome } }

/-- An own count abandons the demand of an AGREEING slot (R144). -/
def abandonPassage (sl : Slot) : Slot :=
  if sl.state = .agreeing then sl.endDemand .abandonedPassage else sl

/-- The direction of a counted passage. -/
inductive Direction where
  | xy
  | yx
  deriving DecidableEq, Repr

/-- A count: one total advances by one modulo 65536, and the change reaches every slot (R25, R26, R27). -/
def count (direction : Direction) (s : State) : State :=
  let counted :=
    match direction with
    | .xy => { s with txy := s.txy + 1 }
    | .yx => { s with tyx := s.tyx + 1 }
  { counted with slots := counted.slots.map (fun sl => abandonPassage (takeTotals counted sl.state.evaluating sl)) }

/-! ### Passage Log -/

/-- An entry is appended, the oldest given up when 64 are held (R31). -/
def appendEntry (entries : List LogEntry) (e : LogEntry) : List LogEntry :=
  (if entries.length < 64 then entries else entries.drop (entries.length - 63)) ++ [e]

/-- The Passage Detector hands over an entry stamped with the current station time (R16, R18, R30). -/
def logPassage (kind : LogKind) (speed : Nat) (rocked : Bool) (s : State) : State :=
  { s with log := appendEntry s.log { kind := kind, time := s.stationTime, speed := some speed, rocked := rocked } }

/-! ### Telegram Builder and transmit slots -/

/-- A reason for a telegram is taken (R72). -/
def takeReason (s : State) : State :=
  if s.line.telegramSlot = true ∧ ¬(s.line.service = some .telegram ∧ s.line.isDriving = true) then s
  else { s with builder := { s.builder with request := true } }

/-- The telegram slot is filled when the request flag is set, the slot empty and the spacing timer not running (R73). -/
def fillSlot (s : State) : State :=
  if s.builder.request = true ∧ s.line.telegramSlot = false ∧ s.builder.spacingSince = none then
    { s with builder := { s.builder with request := false }, line := { s.line with telegramSlot := true } }
  else s

/-- The frame that is taken into service next: the telegram slot first (R60). -/
def Line.nextService (l : Line) : Option Service :=
  if l.telegramSlot then some .telegram
  else if l.answerSlot.isSome then some .answer
  else none

/-- With no frame in service, a filled slot that is allowed is taken into service with attempt counter 0, and waits
for the line or for its slot delay (R60, R61, R62). -/
def serve (s : State) : State :=
  if s.line.service = none ∧ s.mayServe = true then
    match s.line.nextService with
    | some frame =>
      { s with
        line := { s.line with
                  service := some frame, attempt := 0
                  transmitter := if s.lineIsIdle then .slotDelay s.now else .awaitIdle } }
    | none => s
  else s

/-! ### Outputs that follow the state -/

/-- A lamp takes a newly commanded pattern from the beginning of its first on time, and runs on with the same
(R171, R172). -/
def Lamp.command (now : Tick) (pattern : LampPattern) (l : Lamp) : Lamp :=
  if l.pattern = pattern then l else { pattern := pattern, lit := pattern != .off, since := now }

/-- The status line goes high at entry to RUN and low at lockdown or a restart (R173). -/
def StatusLine.command (now : Tick) (inService : Bool) (l : StatusLine) : StatusLine :=
  if inService then
    match l.since with
    | some _ => l
    | none => { high := true, since := some now }
  else { high := false, since := none }

/-- The alarm after an event: the highest standing condition starts its pattern, or runs on; without one a standing
pattern stops and a refusal pattern plays on (R175, R176). -/
def Alarm.command (now : Tick) (condition : Option AlarmCondition) (a : Alarm) : Alarm :=
  match condition with
  | some c =>
    if a.shows = .standing c then a
    else { shows := .standing c, place := 0, sounding := true, since := now }
  | none =>
    match a.shows with
    | .standing _ => { shows := .silent, place := 0, sounding := false, since := now }
    | .silent => a
    | .refusal => a

/-- Lamps, status line and alarm follow the state on every event (R167 to R175). -/
def showOutputs (s : State) : State :=
  { s with
    outputs := { s.outputs with
      lamps := .ofFn (fun i => s.outputs.lamps[i].command s.now (s.lampCommand i))
      status := s.outputs.status.command s.now s.inService
      alarm := s.outputs.alarm.command s.now s.alarmCondition } }

/-- The refusal pattern is requested: dropped while a condition stands, else played from its first pulse (R176). -/
def requestRefusal (s : State) : State :=
  match s.alarmCondition with
  | some _ => s
  | none =>
    { s with outputs := { s.outputs with alarm := { shows := .refusal, place := 0, sounding := true, since := s.now } } }

/-- In RUN outside lockdown, a change of what the station publishes is a reason for a telegram (R71, R108). -/
def noteChange (before after : State) : State :=
  if after.inService = true ∧ before.published ≠ after.published then takeReason after else after

/-- What every event ends with: the telegram reasons of its changes, the filling and taking into service of a transmit
slot, the outputs that follow the state, and the comparison of the lanes, of which lane Q takes the event later. -/
def finish (before after : State) : State :=
  noteLanes (showOutputs (serve (fillSlot (noteChange before after))))

/-- A part of an event has taken effect: what it changes is a reason and is shown, whatever the rest of the event does
(R71, R171). -/
def notice (before after : State) : State := showOutputs (noteChange before after)

/-! ### Lockdown -/

/-- The Passage Detector goes to IDLE, a passage in progress dropped (R19, R20). -/
def dropPassage (s : State) : State :=
  { s with detector := { s.detector with
      state := .idle, leadAt := none, heldCount := s.passageTicks, rocked := false } }

/-- The end of the character being driven at an instant: the next character boundary. The first character has begun with
the win; on the boundary between two characters the next one has not begun (R69; notes/assumptions/28.md). -/
def characterEnd (since now : Tick) : Tick :=
  since + characters (max 1 ((now - since + 1) / 2))

/-- The receiver is connected to the section line: the quiet time starts at zero, and reception idle has not held yet
(R46, R54, R55). -/
def joinLine (s : State) : State :=
  { s with
    line := { s.line with
      connected := true, quietSince := some s.now
      receiver := { s.line.receiver with state := .waiting, idleSeen := false } } }

/-- Lockdown ends a line loop test that runs, and with it the receiver joins the line; not so where the test has failed
(R46, R50, R53, R57, R61; notes/assumptions/15.md). -/
def endLoopTest (cause : LockdownCause) (s : State) : State :=
  if s.inLoopTest = true ∧ cause ≠ .selfTestFault then joinLine s else s

/-- The frame in service is abandoned and both transmit slots are emptied; a frame being driven is cut off at the
character boundary (R69). -/
def abandonFrames (s : State) : State :=
  { s with
    line := { s.line with
      telegramSlot := false, answerSlot := none, service := none, attempt := 0, transmitter := .noService
      quietSince :=
        match s.line.transmitter with
        | .driving since => some (characterEnd since s.now)
        | _ => s.line.quietSince } }

/-- The Builder at lockdown entry: the request flag cleared, the heartbeat stopped, the sequence number and the
spacing timer kept (R85). -/
def builderAtLockdown (s : State) : State :=
  { s with builder := { s.builder with request := false, heartbeatSince := none, lockdownSince := none } }

/-- The first LOCKDOWN telegram is due at lockdown entry: in RUN, or in SELF_TEST and SILENCE with the station time at
or past 5000 (R50, R85). -/
def firstLockdownTelegramDue (s : State) : Bool :=
  match s.phase with
  | .run => true
  | .selfTest | .silence => decide (silenceTicks ≤ s.now)
  | .configRead | .configHalt => false

/-- At lockdown entry, the first LOCKDOWN telegram if it is due then (R85). -/
def firstLockdownTelegram (s : State) : State :=
  if firstLockdownTelegramDue s then takeReason { s with silenceOver := true } else s

/-- A lockdown cause is taken: entry to lockdown in any start phase, or nothing while lockdown stands (R50, R126, R161,
R163). -/
def enterLockdown (cause : LockdownCause) (s : State) : State :=
  if s.lockdown then s
  else
    let locked := { endLoopTest cause s with
      lockdown := true, lockdownRecord := some { cause := cause, time := s.stationTime }, reading := false,
      selfTest := none }
    judgeAll (firstLockdownTelegram (builderAtLockdown (abandonFrames (dropPassage locked))))

/-! ### Frames handed on -/

/-- A valid frame is handed on behind those that wait for their blocks, or is ignored (R57). -/
def State.handOn (frame : Option Handed) (s : State) : State := { s with handed := s.handed ++ frame.toList }

/-- A block takes a frame handed to it: of several alike that wait, the oldest; the others go on waiting (R57). -/
def State.takeHanded (frame : Handed) (s : State) : State := { s with handed := s.handed.erase frame }

/-! ### How a command is taken -/

/-- The three outcomes of a step of this part. -/
abbrev Result := Host.Outcome State Fault Refusal

/-- An event takes the part from `before` to `after`, and ends as every event does. -/
def happens (before after : State) : Result := .next (finish before after)

/-- `dt` ticks pass, and lane Q takes what falls due (R157). -/
def State.pass (dt : Nat) (s : State) : State := catchUp (s.wait dt)

/-- Time passes up to `t`, if it still lies ahead, and lane Q takes what falls due (R157). -/
def State.reach (t : Tick) (s : State) : State := catchUp (s.upTo t)

/-- An event that a timer of the part causes: time passes up to the instant the timer runs out, and the event is
taken. While the timer does not run the event cannot arise, and nothing changes (notes/assumptions/2.md, 3.md). -/
def whenDue (due : Option Tick) (s : State) (f : State → State) : Result :=
  match due with
  | some t => happens (s.reach t) (f (s.reach t))
  | none => .next s

/-- An event from outside: `dt` ticks pass, and the event is taken where it can arise (notes/assumptions/2.md, 3.md). -/
def onInput (dt : Nat) (s : State) (arises : State → Bool) (f : State → State) : Result :=
  if arises (s.pass dt) then happens (s.pass dt) (f (s.pass dt)) else .next (s.pass dt)

end Sys2Proof.Machine
end

