-- ==== Sys2Proof/Machine/Drive.lean ====
section
/-! DEFINITION. The Output Driver's clear pairs, tick, watch and patterns (chapter 10). -/

namespace Sys2Proof.Machine

/-! ### Read-back -/

/-- The reading matches the command of the half-period just ended, as the lane that drives the line holds it: it is the
level set, and after a toggling half-period that follows a toggling one the line also read the other level at the
comparison before (R169). -/
def readingMatches (l : ClearLine) (reading : Bool) : Bool :=
  reading == l.level && (!(l.toggling && l.wasToggling) || l.lastRead == some (!l.level))

/-- The mismatch count after a comparison (R169). -/
def ClearLine.compare (reading : Bool) (l : ClearLine) : ClearLine :=
  { l with lastRead := some reading, mismatches := if readingMatches l reading then 0 else l.mismatches + 1 }

/-- Both lines of a pair are compared (R169). -/
def ClearPair.compare (reading : PairLevels) (c : ClearPair) : ClearPair :=
  { p := c.p.compare reading.p, q := c.q.compare reading.q }

/-- A count of the pair has reached 2 (R169). -/
def ClearPair.faulty (c : ClearPair) : Bool := decide (2 ≤ c.p.mismatches) || decide (2 ≤ c.q.mismatches)

/-- Every count of the pair returns to 0 (R169). -/
def ClearPair.forget (c : ClearPair) : ClearPair :=
  { p := { c.p with mismatches := 0 }, q := { c.q with mismatches := 0 } }

/-- After the counts have risen: if one has reached 2, all return to 0 and OUTPUT_READBACK is handed over (R169). -/
def judgeCounts (s : State) : State :=
  if s.outputs.pairs.any ClearPair.faulty then
    enterLockdown .outputReadback { s with outputs := { s.outputs with pairs := s.outputs.pairs.map ClearPair.forget } }
  else s

/-! ### Driving -/

/-- A line takes the level of the half-period that begins, and the command it was set from (R168). -/
def ClearLine.set (command level : Bool) (l : ClearLine) : ClearLine :=
  { l with level := level, toggling := command, wasToggling := l.toggling }

/-- The levels of the half-period that begins, from each lane's own command and the levels before: a lane Q that trails at
the start leaves CLP high with CLQ low, and one that trails at the end both low. Each line keeps the command of its own lane,
which the comparison goes by (R157, R168, R169). -/
def ClearPair.set (laneP laneQ : Bool) (c : ClearPair) : ClearPair :=
  { p := c.p.set laneP (laneP && !c.p.level), q := c.q.set laneQ (laneP && laneQ && c.p.level) }

/-- The levels of all pairs are set from the commands as each lane has them (R157, R167, R168). -/
def setLevels (s : State) : State :=
  { s with outputs := { s.outputs with
      pairs := .ofFn (fun i => s.outputs.pairs[i].set (s.clearCommand i) (s.laneQCommand i)) } }

/-- All pairs are compared with what was read at their pins (R169). -/
def compareAll (read : Vector PairLevels 4) (s : State) : State :=
  { s with outputs := { s.outputs with
      pairs := .ofFn (fun i => s.outputs.pairs[i].compare read[i]) } }

/-- HALF_PERIOD_TICK: the comparison, then the levels of the next half-period, and the watch starts again (R168, R169,
R170). -/
def execHalfPeriodTick (read : Vector PairLevels 4) (s : State) : Result :=
  whenDue (halfPeriodDue s) s fun s =>
    let ticked := { s with outputs := { s.outputs with
      tickSince := halfPeriodDue s, watch := 0 } }
    setLevels (judgeCounts (compareAll read ticked))

/-- A clear line is released low and a mismatch is counted on it. It then stands as a line that is off, which a tick that
comes later compares with (R170; the last is the model's choice: notes/assumptions/33.md). -/
def ClearLine.release (l : ClearLine) : ClearLine :=
  { l with level := false, toggling := false, wasToggling := false, mismatches := l.mismatches + 1 }

/-- Both lines of a pair are released (R170). -/
def ClearPair.release (c : ClearPair) : ClearPair := { p := c.p.release, q := c.q.release }

/-- The watch at its next expiry: 3 ms after the tick, then 2 ms more each time (R170). -/
def nextWatch (watch : Nat) : Nat := if watch = 0 then 3 else watch + 2

/-- TICK_WATCH_EXPIRY: timed by the check oscillator, so that no main-oscillator time passes (R170). -/
def execTickWatchExpiry (s : State) : Result :=
  whenDue (s.outputs.tickSince.map (fun _ => s.now)) s fun s =>
    judgeCounts { s with outputs := { s.outputs with
      watch := nextWatch s.outputs.watch, pairs := s.outputs.pairs.map ClearPair.release } }

/-! ### Patterns -/

/-- LAMP_PATTERN_STEP: a flashing lamp changes level at the end of its on or off time (R171, R172). -/
def execLampPatternStep (lamp : Fin 4) (s : State) : Result :=
  whenDue (lampDue s lamp) s fun s =>
    { s with outputs := { s.outputs with
        lamps := s.outputs.lamps.set lamp
          { s.outputs.lamps[lamp] with
            lit := !s.outputs.lamps[lamp].lit, since := (lampDue s lamp).getD s.now } } }

/-- STATUS_LINE_TOGGLE: STS changes level every 50 ms (R173). -/
def execStatusLineToggle (s : State) : Result :=
  whenDue (statusDue s) s fun s =>
    { s with outputs := { s.outputs with status := { high := !s.outputs.status.high, since := statusDue s } } }

/-- The alarm goes on to the next place of its pattern. -/
def Alarm.step (at' : Tick) (places : Nat) (a : Alarm) : Alarm :=
  let place := (a.place + 1) % places
  { a with place := place, sounding := place % 2 == 0, since := at' }

/-- ALARM_PATTERN_STEP: the standing pattern goes on, from its end to its beginning (R174). -/
def execAlarmPatternStep (s : State) : Result :=
  whenDue (alarmDue s) s fun s =>
    match s.outputs.alarm.shows with
    | .standing c =>
      { s with outputs := { s.outputs with
          alarm := s.outputs.alarm.step ((alarmDue s).getD s.now) (alarmTimes c).length } }
    | _ => s

/-- The alarm shows nothing. -/
def Alarm.silence (now : Tick) : Alarm :=
  { shows := .silent, place := 0, sounding := false, since := now }

/-- REFUSAL_PATTERN_STEP: the next pulse or gap; after the third pulse the alarm goes off (R176). -/
def execRefusalPatternStep (s : State) : Result :=
  whenDue (refusalDue s) s fun s =>
    { s with outputs := { s.outputs with
        alarm :=
          if s.outputs.alarm.place = 4 then Alarm.silence s.now
          else s.outputs.alarm.step ((refusalDue s).getD s.now) 5 } }

end Sys2Proof.Machine
end

