-- ==== Sys2Proof/Machine/Agreement.lean ====
section
/-! DEFINITION. The reset agreement of a slot: adoption, superseding, the agreement set and the application of an
agreed demand (8.3 to 8.6). -/

namespace Sys2Proof.Machine

/-! ### Application -/

/-- The reset base of a boundary point: the own one of the demand record, or the one in the demand part of the peer's
stored view of the section (R120, R142). -/
def resetBase (s : State) (sl : Slot) (demand : Demand) (station : Nat) : Option (Word16 × Word16) :=
  if station = s.own then some (demand.baseTxy, demand.baseTyx)
  else
    match s.peer? station with
    | some r =>
      match r.view? sl.sectionNumber with
      | some v => v.demand.map (fun d => (d.baseTxy, d.baseTyx))
      | none => none
    | none => none

/-- The base of a boundary record is set from the point's reset base by the record's side (R105, R120). -/
def Boundary.rebase (base : Option (Word16 × Word16)) (b : Boundary) : Boundary :=
  match base with
  | some totals => { b with inBase := inTotal b.side totals, outBase := outTotal b.side totals }
  | none => b

/-- The disturbance record at an application: no cause, the flag clear, the count kept (R156). -/
def DisturbanceRecord.clearCauses (r : DisturbanceRecord) : DisturbanceRecord :=
  { r with firstCause := none, firstTime := none, firstStation := none, further := false, lastFurther := none }

/-- The reset state at an application: window and agreement set gone, the linger started with the demand kept, the
expiry count 0, the outcome AGREED (R142). -/
def SlotReset.agree (now : Tick) (kind : ResetKind) (r : SlotReset) : SlotReset :=
  { r with
    agreement := none, windowSince := none, lingerSince := some now, expiries := 0
    outcome := match kind with | .sweep => .agreedSweep | .direct => .agreedDirect }

/-- The slot with the agreed bases, in SWEEP or OCCUPIED, recomputed (R120, R142, R156). -/
def rebased (s : State) (demand : Demand) (sl : Slot) : Slot :=
  recompute s { sl with
    boundary := sl.boundary.map (fun b => b.rebase (resetBase s sl demand b.station))
    state := match demand.kind with | .sweep => .sweep | .direct => .occupied
    entered := false
    record := sl.record.clearCauses
    reset := sl.reset.agree s.now demand.kind }

/-- The application of the slot's agreed demand: the negative hold starts if the balance is below zero, and the clearing
conditions are judged (R109, R120, R142). -/
def applyDemand (s : State) (demand : Demand) (sl : Slot) : Slot :=
  let based := rebased s demand sl
  judge s false { based with negativeSince := if based.balance < 0 then some s.now else none }

/-- COUNT_RANGE is declared on a slot that an application has brought from `before` into an evaluating state with the range
condition standing (R107). -/
def rangeAfter (s : State) (before sl : Slot) : Slot :=
  if !before.state.evaluating && sl.state.evaluating && sl.range && !s.lockdown then
    disturb .countRange s.stationTime s.own sl
  else sl

/-! ### The agreement set -/

/-- The set holds every station of the boundary list (R141). -/
def complete (sl : Slot) (members : List Nat) : Bool :=
  sl.boundary.all (fun b => members.contains b.station)

/-- A station joins the set, if it is not a member already (R141). -/
def addMember (members : List Nat) (station : Nat) : List Nat :=
  if members.contains station then members else members ++ [station]

/-- The slot's agreement set becomes `members`, and the demand is applied if the set is complete (R141). -/
def setAgreement (s : State) (demand : Demand) (members : List Nat) (sl : Slot) : Slot :=
  let set := { sl with reset := { sl.reset with agreement := some members } }
  if complete sl members then applyDemand s demand set else set

/-- A peer leaves the agreement set (R141). -/
def Slot.leave (station : Nat) (sl : Slot) : Slot :=
  { sl with reset := { sl.reset with agreement := sl.reset.agreement.map (fun ms => ms.filter (fun m => m != station)) } }

/-! ### Adoption and superseding -/

/-- The reset state of a slot that takes a demand, issued or adopted: demand record, last identity, agreement set and
window (R136, R138). -/
def SlotReset.takeDemand (now : Tick) (demand : Demand) (members : List Nat) (r : SlotReset) : SlotReset :=
  { r with demand := some demand, lastIdentity := some demand.identity, agreement := some members,
           windowSince := some now }

/-- The slot enters AGREEING with a demand (R119, R136, R138). -/
def Slot.takeDemand (now : Tick) (demand : Demand) (members : List Nat) (sl : Slot) : Slot :=
  { sl with state := .agreeing, reset := sl.reset.takeDemand now demand members }

/-- The demand record of a demand adopted from a view: the own current totals as reset base (R138). -/
def adoptedDemand (s : State) (d : ViewDemand) : Demand :=
  { identity := d.identity, kind := d.kind, baseTxy := s.txy, baseTyx := s.tyx, windowStart := s.stationTime }

/-- A DIRECT demand may be taken by the slot; a SWEEP always (R133 condition 5, R138 condition 4). -/
def Slot.admits (sl : Slot) (kind : ResetKind) : Bool :=
  match kind with
  | .sweep => true
  | .direct => sl.direct && sl.record.directEligible

/-- Conditions 1 to 3 of an adoption (R138). -/
def adoptable (s : State) (sl : Slot) (d : ViewDemand) : Bool :=
  s.headReady && sl.reset.coolDownSince == none && sl.reset.lastIdentity != some d.identity

/-- The slot, DISTURBED, is judged for adopting a demand from a view of `sender`: adopted, with the agreement set
judged at once; refused on eligibility alone; or left (R138). -/
def judgeAdoption (s : State) (sender : Nat) (d : ViewDemand) (sl : Slot) : Slot :=
  if adoptable s sl d then
    if sl.admits d.kind then
      let demand := adoptedDemand s d
      setAgreement s demand [s.own, sender] (sl.takeDemand s.now demand [s.own, sender])
    else { sl with reset := { sl.reset with outcome := .refused } }
  else sl

/-- The demand of a view supersedes the slot's one (R140). -/
def supersedes (sender : Nat) (d : ViewDemand) (held : Identity) : Bool :=
  decide (d.identity.originator < held.originator) ||
    (d.identity.originator == held.originator && d.identity.number != held.number && sender == held.originator)

/-- The slot's demand is superseded, and the new one judged as if the slot were DISTURBED (R140). -/
def supersede (s : State) (sender : Nat) (d : ViewDemand) (sl : Slot) : Slot :=
  judgeAdoption s sender d (sl.endDemand .superseded)

/-! ### A view is taken -/

/-- The demand a view offers: only a view whose own state is AGREEING offers one (R137). -/
def View.offer (v : View) : Option ViewDemand :=
  if v.state = .agreeing then v.demand else none

/-- A view, or a telegram without one, is taken for an AGREEING slot (R137, R140, R141). -/
def takeAgreeing (s : State) (sender : Nat) (view : Option View) (demand : Demand) (sl : Slot) : Slot :=
  match view with
  | none => sl.leave sender
  | some v =>
    if v.demand.map (·.identity) = some demand.identity then
      setAgreement s demand (addMember (sl.reset.agreement.getD [s.own]) sender) sl
    else
      match v.offer with
      | some d => if supersedes sender d demand.identity then supersede s sender d sl else sl.leave sender
      | none => sl.leave sender

/-- What the Reset Controller does for a slot with the view of its section in a telegram of a boundary station; `none`
is a telegram without such a view. In RUN and outside lockdown only (R137, R149). -/
def takeView (s : State) (sender : Nat) (view : Option View) (sl : Slot) : Slot :=
  if s.inService then
    match sl.state, sl.reset.demand with
    | .disturbed, _ =>
      match view with
      | some v =>
        match v.offer with
        | some d => judgeAdoption s sender d sl
        | none => sl
      | none => sl
    | .agreeing, some demand => takeAgreeing s sender view demand sl
    | .agreeing, none => sl
    | _, _ => sl
  else sl

end Sys2Proof.Machine
end

