-- ==== Sys2Proof/Machine/Evaluation.lean ====
section
/-! DEFINITION. The timers of the Section Evaluator (chapter 7): the negative hold, the settled time and the confirm
timer with the entry to CLEAR. -/

namespace Sys2Proof.Machine

/-- NEGATIVE_BALANCE: the hold stops and the cause is declared on the slot; in lockdown it only stops (R109, R126). -/
def execNegativeBalance (i : Fin 4) (s : State) : Result :=
  whenDue (negativeDue s i) s fun s =>
    declareAt .negativeBalance i (s.modifySlot i fun sl => { sl with negativeSince := none })

/-- SETTLED_TIME_EXPIRY: the settled time stops at 1200 ms, and the settled condition holds if every boundary peer is
FRESH (R110). -/
def execSettledTimeExpiry (i : Fin 4) (s : State) : Result :=
  whenDue (settledDue s i) s fun s => s.modifySlot i fun sl => { sl with settledSince := none }

/-- The bases at the entry to CLEAR: the current totals of every point (R115). -/
def rebaseToTotals (s : State) (b : Boundary) : Boundary :=
  b.rebase (some (s.totalsOf b.station))

/-- The entry to CLEAR: the confirm timer stops and the slot is rebased and recomputed (R115). -/
def enterClear (s : State) (sl : Slot) : Slot :=
  recompute s { sl with
    state := .clear, confirmSince := none, boundary := sl.boundary.map (rebaseToTotals s) }

/-- CONFIRM_EXPIRY: the CLEARING slot enters CLEAR (R115, R167, R171). -/
def execConfirmExpiry (i : Fin 4) (s : State) : Result :=
  whenDue (confirmDue s i) s fun s => s.modifySlot i (enterClear s)

end Sys2Proof.Machine
end

