-- ==== Sys2Proof/Machine/Startup.lean ====
section
/-! DEFINITION. Power-on, the restart line, the configuration image, the self-test and the start phases (chapter 3),
and the station time (2.2). -/

namespace Sys2Proof.Machine

/-! ### Building the tables -/

/-- The boundary record of an image entry, with base 0 (R43, R129). -/
def buildBoundary (e : Nat × Side) : Boundary :=
  { station := e.1, side := e.2, inBase := 0, outBase := 0 }

/-- The disturbance record at the build: first cause STARTUP at the pass (R153). -/
def DisturbanceRecord.atBuild (time : Word32) (own : Nat) : DisturbanceRecord :=
  { firstCause := some .startup, firstTime := some time, firstStation := some own, further := false,
    lastFurther := none, count := 1 }

/-- R151. -/
def SlotReset.atBuild : SlotReset :=
  { demand := none, agreement := none, windowSince := none, lingerSince := none, lastIdentity := none, expiries := 0,
    coolDownSince := none, outcome := .none }

/-- A section slot at the build (R43, R129, R151, R153). -/
def buildSlot (now : Tick) (time : Word32) (own : Nat) (im : ImageSlot) : Slot :=
  { sectionNumber := im.sectionNumber, side := im.side, direct := im.direct,
    boundary := im.entries.map buildBoundary, state := .disturbed,
    contributions := im.entries.map (fun _ => { inward := 0, outward := 0 }),
    balance := 0, range := false, entered := false, settledSince := some now, confirmSince := none,
    negativeSince := none, record := .atBuild time own, reset := .atBuild }

/-- A peer record at the build (R44, R87). -/
def buildPeer (slotCount station : Nat) : PeerRecord :=
  { station := station, state := .unheard, lastSequence := none, txy := 0, tyx := 0, status := none,
    acceptedAt := none, gaps := 0, views := [], missing := List.replicate slotCount false,
    foreign := List.replicate slotCount false }

/-- The health input on the first sample (R1, R7). -/
def HealthInput.first (now : Tick) (level : Bool) : HealthInput :=
  { level := some level, lowFrom := if level then none else some now }

/-- A spike has been handed over on this sample, on either channel: its quiet time starts here (R3, R4). -/
def Head.spikedOn (now : Tick) (h : Head) : Bool := h.a.quietSince == some now || h.b.quietSince == some now

/-- The first sample that a recovery time starting on this one counts: this sample, or the next one after a spike on it
(R8). -/
def Head.firstQuiet (now : Tick) (h : Head) : Tick := if h.spikedOn now then now + 1 else now

/-- The recovery time after a sample: it goes on or starts from `first` while the recovery condition holds, and is set
back to zero when it fails; it does not run in COUNTING (R8). -/
def Head.recover (first : Tick) (h : Head) : Head :=
  { h with
    recoverFrom :=
      if h.state = .counting then none
      else if h.quiet then (match h.recoverFrom with | some t => some t | none => some first)
      else none }

/-- The first sample after the head begins to be sampled: the filtered levels take the raw levels (R1). -/
def Head.firstSample (now : Tick) (levels : HeadLevels) (h : Head) : Head :=
  Head.recover (now + 1)
    { h with
      a := { h.a with filtered := some levels.hca, diffFrom := none }
      b := { h.b with filtered := some levels.hcb, diffFrom := none }
      healthA := .first now levels.hha
      healthB := .first now levels.hhb
      recoverFrom := none }

/-- The image passes: the configuration is frozen, the tables are built, and the station enters SELF_TEST with the
line loop test and the first head sample (R1, R41, R43, R44, R45, R46). -/
def passImage (im : Image) (levels : HeadLevels) (s : State) : State :=
  { s with
    phase := .selfTest
    reading := false
    selfTest := some .lineLoop
    selfTestSince := s.now
    config := some { station := im.station, filterCode := im.filterCode, spacing := im.spacing }
    passAt := s.now
    slots := im.slots.map (buildSlot s.now s.stationTime im.station)
    peers := im.peers.map (buildPeer im.slots.length)
    head := s.head.firstSample s.now levels
    pins := { s.pins with head := levels } }

/-- The image fails: it is discarded whole and the station halts (R41, R42). -/
def failImage (s : State) : State :=
  { s with phase := .configHalt, reading := false }

/-- Entry to RUN: the first telegram is requested and clearing condition 2 comes to hold (R49, R112). -/
def enterRun (s : State) : State :=
  judgeAll (takeReason { s with phase := .run, silenceOver := true })

/-- Entry to SILENCE: the half-period tick and its watch start; with the station time at or past 5000 the station goes
on to RUN at once (R47, R48, R168, R170). -/
def enterSilence (s : State) : State :=
  let silent := { s with phase := .silence, selfTest := none, outputs := { s.outputs with tickSince := some s.now, watch := 0 } }
  if silenceTicks ≤ s.now then enterRun silent else silent

/-! ### The commands -/

/-- POWER_ON: every block takes its start value, the log and the lockdown record among them; with the restart line
active the memory is not read until it is released, and that activation is taken as spent: it brings no RESTART and no
restart mark (R32, R51, R52; notes/assumptions/31.md). -/
def execPowerOn (restartActive : Bool) (s : State) : Result :=
  .next <| alignLanes { State.reset with
    restartHeld := restartActive
    reading := !restartActive
    pins := { s.pins with restart := restartActive }
    freeUses := s.freeUses
    pending := s.pending }

/-- The mark of a restart in the Passage Log (R33). -/
def restartMark : LogEntry :=
  { kind := .restartMark, time := 0, speed := none, rocked := false }

/-- RESTART: every block takes its start value but the log, which takes a mark, and the lockdown record; taken once in
each activation of the line (R33, R51, R52). -/
def execRestart (s : State) : Result :=
  if s.restartHeld then .next s
  else
    .next <| alignLanes { State.reset with
      restartHeld := true
      reading := false
      log := appendEntry s.log restartMark
      lockdownRecord := s.lockdownRecord
      pins := { s.pins with restart := true }
      freeUses := s.freeUses
      pending := s.pending }

/-- RESTART_RELEASE: the restart line returns to inactive and reading begins (R37, R51). -/
def execRestartRelease (dt : Nat) (s : State) : Result :=
  onInput dt s (·.restartHeld) fun s =>
    { s with
      restartHeld := false, restartFrom := none, pins := { s.pins with restart := false }
      reading := s.phase == .configRead && !s.lockdown }

/-- CONFIG_READ_END: the verdict on the image (R39, R40, R41, R42, R43, R44). -/
def execConfigReadEnd (dt : Nat) (memory : List Byte) (first : HeadLevels) (s : State) : Result :=
  onInput dt s (fun s => s.reading && s.phase == .configRead && !s.lockdown) fun s =>
    match passingImage memory with
    | some im => passImage im first s
    | none => failImage s

/-- The line loop test passes: each character matched, the frame is good, and its last character returned within 2 ms of
the start of the test (R46, test 1). -/
def loopTestPasses (s : State) (r : LoopResult) : Bool :=
  r.charactersMatch && r.frameGood && decide (r.ticks ≤ loopTestLimit) && decide (s.now ≤ s.selfTestSince + loopTestLimit)

/-- LINE_LOOP_TEST: on a pass the receiver joins the line and the lane test follows; on a failure lockdown (R46, R47,
R54, R70). -/
def execLineLoopTest (dt : Nat) (result : LoopResult) (s : State) : Result :=
  onInput dt s (·.inLoopTest) fun s =>
    if loopTestPasses s result then { joinLine s with selfTest := some .lane, selfTestSince := s.now }
    else enterLockdown .selfTestFault s

/-- LANE_TEST: on a pass the read-back test follows; on a failure lockdown, at the end of the 10 ms whichever comparison
disagreed (R46, R47; DESIGN CHOICE of that instant: notes/assumptions/40.md). -/
def execLaneTest (agree : Bool) (s : State) : Result :=
  whenDue (laneTestDue s) s fun s =>
    if agree then { s with selfTest := some .readBack, selfTestSince := s.now }
    else enterLockdown .selfTestFault s

/-- READ_BACK_TEST: passed when all forty readings are low, and the station enters SILENCE; else lockdown, at the end of the
10 ms whichever reading was high (R46, R47; DESIGN CHOICE of that instant: notes/assumptions/40.md). -/
def execReadBackTest (readings : List Bool) (s : State) : Result :=
  whenDue (readBackTestDue s) s fun s =>
    if readings.length = 40 ∧ readings.all (fun high => !high) = true then enterSilence s
    else enterLockdown .selfTestFault s

/-- SILENCE_END: the station time reaches 5000. SILENCE goes over to RUN; a station locked down in SELF_TEST or SILENCE
begins its LOCKDOWN telegrams; in the other phases nothing follows (R48, R50, R61, R85). -/
def execSilenceEnd (s : State) : Result :=
  whenDue (silenceEndDue s) s fun s =>
    let ended := { s with silenceOver := true }
    if s.lockdown then
      match s.phase with
      | .selfTest | .silence => takeReason ended
      | _ => ended
    else if s.phase = .silence then enterRun ended
    else ended

/-- STATION_TIME_WRAP: the station time passes 4294967295 and is 0; nothing else follows (R29). -/
def execStationTimeWrap (s : State) : Result :=
  whenDue (some (wrapDue s)) s id

end Sys2Proof.Machine
end

