-- ==== Sys2Proof/Machine/Head.lean ====
section
/-! DEFINITION. The Head Interface and the Passage Detector (chapter 1). -/

namespace Sys2Proof.Machine

/-! ### The passage automaton -/

/-- How an event of the automaton ends a passage. -/
inductive Ending where
  | goesOn
  /-- A wheel that drew back: no count, no log entry (R12, R13). -/
  | drawnBack
  /-- A completed passage with its skew and rocked flag (R17). -/
  | completes (direction : Direction) (skew : Nat) (rocked : Bool)
  /-- UNRESOLVED returns to IDLE (R16). -/
  | unresolved (rocked : Bool)
  deriving DecidableEq, Repr

/-- The lead stamp (R10). -/
def Detector.lead (now : Tick) (target : Automaton) (d : Detector) : Detector :=
  { d with state := target, leadAt := some now, trail := none }

/-- The trail stamp with the passage tick count `ticks` (R11). -/
def Detector.stampTrail (ticks : Nat) (target : Automaton) (d : Detector) : Detector :=
  { d with state := target, trail := some ticks }

/-- A move back over the head sets the rocked flag (R14). -/
def Detector.rock (target : Automaton) (d : Detector) : Detector :=
  { d with state := target, rocked := true }

/-- The return to IDLE: the passage tick count stops and the rocked flag is cleared (R10, R14). -/
def Detector.toIdle (ticks : Nat) (d : Detector) : Detector :=
  { d with state := .idle, leadAt := none, heldCount := ticks, rocked := false }

/-- A completed passage (R12, R13, R17). -/
def Detector.complete (ticks : Nat) (direction : Direction) (d : Detector) : Detector × Ending :=
  (d.toIdle ticks, .completes direction (d.trail.getD 0) d.rocked)

/-- The check made after each event taken in UNRESOLVED: IDLE again once the levels are 00 (R16). -/
def Detector.checkUnresolved (ticks : Nat) (a b : Bool) (d : Detector) : Detector × Ending :=
  if a || b then ({ d with state := .unresolved }, .goesOn)
  else (d.toIdle ticks, .unresolved d.rocked)

/-- A single change of channel A to the level `a` (R12, R13, R16); `b` is the level of the other channel. A change the
levels of the state do not allow does not arise and moves nothing. -/
def Detector.changeA (now : Tick) (ticks : Nat) (a b : Bool) (d : Detector) : Detector × Ending :=
  match d.state, a with
  | .idle, true => (d.lead now .x1, .goesOn)
  | .x1, false => (d.toIdle ticks, .drawnBack)
  | .x2, false => ({ d with state := .x3 }, .goesOn)
  | .x3, true => (d.rock .x2, .goesOn)
  | .y1, true => (d.stampTrail ticks .y2, .goesOn)
  | .y2, false => (d.rock .y1, .goesOn)
  | .y3, false => d.complete ticks .yx
  | .unresolved, _ => d.checkUnresolved ticks a b
  | _, _ => (d, .goesOn)

/-- A single change of channel B to the level `b` (R12, R13, R16). -/
def Detector.changeB (now : Tick) (ticks : Nat) (a b : Bool) (d : Detector) : Detector × Ending :=
  match d.state, b with
  | .idle, true => (d.lead now .y1, .goesOn)
  | .x1, true => (d.stampTrail ticks .x2, .goesOn)
  | .x2, false => (d.rock .x1, .goesOn)
  | .x3, false => d.complete ticks .xy
  | .y1, false => (d.toIdle ticks, .drawnBack)
  | .y2, false => ({ d with state := .y3 }, .goesOn)
  | .y3, true => (d.rock .y2, .goesOn)
  | .unresolved, _ => d.checkUnresolved ticks a b
  | _, _ => (d, .goesOn)

/-- The automaton takes the changes of one sample, `a` and `b` being the levels after them (R9, R12, R13, R16). -/
def Detector.take (now : Tick) (ticks : Nat) (changedA changedB a b : Bool) (d : Detector) : Detector × Ending :=
  match changedA, changedB with
  | true, true => d.checkUnresolved ticks a b
  | true, false => d.changeA now ticks a b
  | false, true => d.changeB now ticks a b
  | false, false => (d, .goesOn)

/-- The speed of a passage in km/h (R17). -/
def passageSpeed (spacing skew : Nat) : Nat := min 999 (spacing * 360 / skew)

/-- The passage is implausible (R17). -/
def implausible (spacing skew : Nat) : Bool := decide (5 * skew < spacing * 3)

/-- The sensor spacing of the configuration. -/
def State.spacing (s : State) : Nat :=
  match s.config with
  | some c => c.spacing
  | none => 0

/-- The log entry kind of a counted passage (R18). -/
def Direction.logKind : Direction → LogKind
  | .xy => .passageXY
  | .yx => .passageYX

/-- What a passage that ends brings about: a count and its entry, or a cause and its entry, or nothing; then the
clearing conditions are judged (R16, R18, R112). -/
def endPassage (ending : Ending) (s : State) : State :=
  match ending with
  | .goesOn => judgeAll s
  | .drawnBack => judgeAll s
  | .completes direction skew rocked =>
    let v := passageSpeed s.spacing skew
    if implausible s.spacing skew then
      judgeAll (declareAll .passageUnresolved (logPassage .unresolved v rocked s))
    else count direction (logPassage direction.logKind v rocked s)
  | .unresolved rocked => judgeAll (declareAll .passageUnresolved (logPassage .unresolved 0 rocked s))

/-! ### The Head Interface -/

/-- The filtered level of a channel changes (R2). -/
def HeadChannel.change (changed : Bool) (c : HeadChannel) : HeadChannel :=
  if changed then { c with filtered := c.filtered.map (fun l => !l), diffFrom := none } else c

/-- The filtered level, 0 before the first sample. -/
def HeadChannel.level (c : HeadChannel) : Bool := c.filtered.getD false

/-- The samples up to a filtered change whose difference run has begun (R2). -/
def filteredDue (s : State) (changed : Bool) (c : HeadChannel) : Tick :=
  match changed, c.diffFrom, s.config with
  | true, some t, some k => t + filterSamples k.filterCode - 1
  | _, _, _ => s.now

/-- The head after the filtered changes of one sample (R2, R8). -/
def Head.changeFiltered (now : Tick) (changedA changedB : Bool) (h : Head) : Head :=
  Head.recover (h.firstQuiet now) { h with a := h.a.change changedA, b := h.b.change changedB }

/-- The raw levels stand at the filtered levels of the channels that changed. -/
def Pins.followFiltered (h : Head) (changedA changedB : Bool) (p : Pins) : Pins :=
  { p with head := { p.head with
      hca := if changedA then h.a.level else p.head.hca
      hcb := if changedB then h.b.level else p.head.hcb } }

/-- The filtered changes of one sample reach the head and the pins. -/
def takeFiltered (changedA changedB : Bool) (s : State) : State :=
  let head := s.head.changeFiltered s.now changedA changedB
  { s with head := head, pins := s.pins.followFiltered head changedA changedB }

/-- The PD follows the channels: the head COUNTING, the station not in lockdown (R9). -/
def State.follows (s : State) : Bool := s.head.state == .counting && !s.lockdown

/-- The PD takes the changes of one sample, if it follows the channels (R9). -/
def followPassage (changedA changedB : Bool) (s : State) : State :=
  if s.follows then
    let taken := s.detector.take s.now s.passageTicks changedA changedB s.head.a.level s.head.b.level
    endPassage taken.2 { s with detector := taken.1 }
  else s

/-- FILTERED_CHANGE (R2, R9 to R18). -/
def execFilteredChange (dt : Nat) (a b : Bool) (s : State) : Result :=
  let w := s.wait dt
  onInput 0 (w.upTo (max (filteredDue w a w.head.a) (filteredDue w b w.head.b))) (fun s => s.configured && (a || b))
    fun s => followPassage a b (takeFiltered a b s)

/-- One channel of the head changes. -/
def Head.setChannel (c : Channel) (f : HeadChannel → HeadChannel) (h : Head) : Head :=
  match c with
  | .a => { h with a := f h.a }
  | .b => { h with b := f h.b }

/-- One health input of the head changes. -/
def Head.setHealth (c : Channel) (f : HealthInput → HealthInput) (h : Head) : Head :=
  match c with
  | .a => { h with healthA := f h.healthA }
  | .b => { h with healthB := f h.healthB }

/-- The channel after a spike: time stamped, quiet time restarted, counter raised if the PD is IDLE (R3). -/
def HeadChannel.spike (now : Tick) (time : Word32) (counted : Bool) (c : HeadChannel) : HeadChannel :=
  { c with
    diffFrom := none, lastSpike := some time, quietSince := some now
    spikes := if counted then min 255 (c.spikes + 1) else c.spikes }

/-- A spike counter rises to 8 while the head is STARTING or COUNTING (R5). -/
def reachesLimit (c : Channel) (s : State) : Bool :=
  s.detector.state == .idle && (s.head.channel c).spikes == 7 && s.head.state != .faulty

/-- The raw level is back at the filtered level after an excursion. -/
def Pins.endExcursion (c : Channel) (h : Head) (p : Pins) : Pins :=
  match c with
  | .a => { p with head := { p.head with hca := h.a.level } }
  | .b => { p with head := { p.head with hcb := h.b.level } }

/-- A spike reaches the channel, interrupts the recovery condition, and at the limit takes the head to FAULTY
(R3, R5, R8). -/
def takeSpike (c : Channel) (s : State) : State :=
  let spiked := s.head.setChannel c (·.spike s.now s.stationTime (s.detector.state == .idle))
  let state := if reachesLimit c s then .faulty else s.head.state
  { s with
    head := Head.recover (s.now + 1) { spiked with state := state, recoverFrom := none }
    pins := s.pins.endExcursion c s.head }

/-- SPIKE (R3, R5, R8, R22). -/
def execSpike (dt : Nat) (c : Channel) (s : State) : Result :=
  onInput dt s (·.configured) fun s =>
    if reachesLimit c s then judgeAll (declareAll .headInterference (takeSpike c s)) else takeSpike c s

/-- SPIKE_QUIET_EXPIRY: the spike counter returns to 0 and the quiet time stops (R4). -/
def execSpikeQuietExpiry (c : Channel) (s : State) : Result :=
  whenDue (spikeQuietDue s c) s fun s =>
    { s with head := s.head.setChannel c fun ch => { ch with spikes := 0, quietSince := none } }

/-- The head goes to FAULTY and a passage in progress is abandoned (R7, R8, R19). -/
def failHead (s : State) : State :=
  let failed := { s with head := Head.recover (s.now + 1) { s.head with state := .faulty, recoverFrom := none } }
  if s.detector.state = .idle then failed else dropPassage failed

/-- HEAD_FAULT: with the head STARTING or COUNTING it goes to FAULTY and HEAD_FAULT is declared; a FAULTY head stays
(R7, R19, R22). -/
def execHeadFault (c : Channel) (s : State) : Result :=
  whenDue (headFaultDue s c) s fun s =>
    if s.head.state = .faulty then s else judgeAll (declareAll .headFault (failHead s))

/-- HEAD_RECOVERY: the head goes to COUNTING and the recovery time stops (R8). -/
def execHeadRecovery (s : State) : Result :=
  whenDue (headRecoveryDue s) s fun s =>
    judgeAll { s with head := { s.head with state := .counting, recoverFrom := none } }

/-- The health input takes a sampled level: a low level starts its low run, a high one sets it to zero (R7). -/
def HealthInput.take (now : Tick) (high : Bool) (i : HealthInput) : HealthInput :=
  { level := some high
    lowFrom := if high then none else (match i.lowFrom with | some t => some t | none => some now) }

/-- The level of a health pin. -/
def Pins.setHealth (c : Channel) (high : Bool) (p : Pins) : Pins :=
  match c with
  | .a => { p with head := { p.head with hha := high } }
  | .b => { p with head := { p.head with hhb := high } }

/-- HEALTH_LEVEL_CHANGE (R7, R8). -/
def execHealthLevelChange (dt : Nat) (c : Channel) (high : Bool) (s : State) : Result :=
  onInput dt s (·.configured) fun s =>
    { s with
      head := Head.recover (s.head.firstQuiet s.now) (s.head.setHealth c (·.take s.now high))
      pins := s.pins.setHealth c high }

end Sys2Proof.Machine
end

