-- ==== Sys2Proof/Machine/LineAccess.lean ====
section
/-! DEFINITION. The section line: reception, the access wait, listen-back, and the Telegram Builder's timers
(chapters 4 and 5). -/

namespace Sys2Proof.Machine

/-! ### Reception -/

/-- The receiver takes one character of a burst, its data bits and its stop bit (R53, R55). -/
def takeCharacter (r : Receiver) (c : LineChar) : Receiver :=
  match r.state with
  | .waiting =>
    if c.bits.value = sync ∧ c.bits.framingError = false then
      { r with state := .assembling, buffer := [c.bits.value], overlong := false, framingError := false, badFirst := false }
    else { r with state := .skipping, badFirst := true }
  | .assembling =>
    let marked := { r with framingError := r.framingError || c.bits.framingError }
    if r.buffer.length < 68 then { marked with buffer := r.buffer ++ [c.bits.value] } else { marked with overlong := true }
  | .skipping => r

/-- The ticks from the first start bit of a burst to the end of its last character (R53, R55). -/
def burstTicks (burst : List LineChar) : Tick :=
  characters burst.length + (burst.tail.map (·.gap)).sum

/-- Reception idle held before a burst that ended `receptionIdleTicks` ago: then its first character is the first after
reception idle (R55). -/
def idleBeforeBurst (now : Tick) (burst : List LineChar) (quietSince : Option Tick) : Bool :=
  match quietSince with
  | some t => decide (t + receptionIdleTicks + burstTicks burst + receptionIdleTicks ≤ now)
  | none => false

/-- Reception idle ends assembly and skipping (R55). -/
def Receiver.toWaiting (r : Receiver) : Receiver :=
  { r with state := .waiting, badFirst := false, idleSeen := true }

/-- The receiver at the start of a burst. WAITING if reception idle has held since it was connected and since the
station's own driving; else the characters are skipped (R55). -/
def Receiver.beforeBurst (idleBefore : Bool) (r : Receiver) : Receiver :=
  if idleBefore then r.toWaiting
  else if r.idleSeen then r
  else { r with state := .skipping, badFirst := false }

/-- The judgement of a burst at its end (R56). -/
inductive Verdict where
  /-- Skipped after connection or own transmission: not counted. -/
  | notJudged
  | invalid
  | valid (body : List Byte)
  deriving DecidableEq, Repr

def judgeBurst (r : Receiver) : Verdict :=
  match r.state with
  | .waiting => .notJudged
  | .skipping => if r.badFirst then .invalid else .notJudged
  | .assembling =>
    if r.framingError || r.overlong then .invalid
    else
      match frameBody r.buffer with
      | some body => .valid body
      | none => .invalid

/-- A counter that saturates at 65535 (R59, R91). -/
def countUp (n : Nat) : Nat := min 65535 (n + 1)

/-- Own-number detection is armed: from entry to SILENCE, and in lockdown (R58). -/
def State.ownNumberArmed (s : State) : Bool :=
  s.phase == .silence || s.phase == .run || s.lockdown

/-- A valid frame carries the own number as its sender (R58, R181). -/
def isOwnNumber (s : State) (body : List Byte) : Bool :=
  match senderField body with
  | some n => n.toNat == s.own && s.ownNumberArmed
  | none => false

/-- What a valid frame is handed on as, by its kind, its sender and the phase; ignored frames give nothing (R57). -/
def handedOn (s : State) (body : List Byte) : Option Handed :=
  match parseBody body with
  | .telegram t => if (s.peer? t.sender.toNat).isSome then some (.telegram t) else none
  | .query target kind parameter =>
    if target.toNat = s.own ∧ s.takesQueries = true then some (.query kind parameter) else none
  | .answer => none
  | .unlisted => none

/-- A valid frame: counted, then own-number detection, then the hand-over behind the frames handed on before (R56, R57,
R58). -/
def receiveFrame (body : List Byte) (s : State) : State :=
  let counted := { s with line := { s.line with framesGood := countUp s.line.framesGood } }
  if isOwnNumber s body then enterLockdown .duplicateStation counted
  else counted.handOn (handedOn s body)

/-- The verdict on a burst takes effect (R56). -/
def takeVerdict (v : Verdict) (s : State) : State :=
  match v with
  | .notJudged => s
  | .invalid => { s with line := { s.line with framesBad := countUp s.line.framesBad } }
  | .valid body => receiveFrame body s

/-- A start bit seen during the slot delay sends the transmitter back to AWAIT_IDLE (R63). -/
def Line.defer (l : Line) : Line :=
  match l.transmitter with
  | .slotDelay _ => { l with transmitter := .awaitIdle }
  | _ => l

/-- A burst of one character or more has ended, and reception idle holds (R54, R55, R56). -/
def endBurst (burst : List LineChar) (s : State) : State :=
  let before := s.line.receiver.beforeBurst (idleBeforeBurst s.now burst s.line.quietSince)
  let taken := burst.foldl takeCharacter before
  takeVerdict (judgeBurst taken)
    { s with line := { s.line.defer with receiver := taken.toWaiting, quietSince := some (s.now - receptionIdleTicks) } }

/-- The instant reception idle comes to hold with no character seen; while one is on the line it does not (R54). -/
def quietDue (s : State) : Tick :=
  match s.line.quietSince with
  | some t => t + receptionIdleTicks
  | none => s.now

/-- Reception idle can come to hold: the receiver takes what is on the line, and without a burst no character is on it
(R54, R55). -/
def idleArises (burst : List LineChar) (s : State) : Bool :=
  s.line.connected && !s.line.isDriving && (!burst.isEmpty || s.line.quietSince.isSome)

/-- RECEPTION_IDLE (R54 to R58, R181). -/
def execReceptionIdle (dt : Nat) (burst : List LineChar) (s : State) : Result :=
  let w := s.wait dt
  let at' := if burst.isEmpty then w.upTo (quietDue w) else w
  onInput 0 at' (idleArises burst) fun s =>
    if burst.isEmpty then { s with line := { s.line with receiver := s.line.receiver.toWaiting } }
    else endBurst burst s

/-! ### The access wait -/

/-- LINE_IDLE: the slot delay starts from zero (R62). -/
def execLineIdle (s : State) : Result :=
  whenDue (lineIdleDue s) s fun s => { s with line := { s.line with transmitter := .slotDelay s.now } }

/-- Reception idle holds (R54). -/
def State.receptionIsIdle (s : State) : Bool :=
  match s.line.quietSince with
  | some t => decide (t + receptionIdleTicks ≤ s.now)
  | none => false

/-- A start bit is seen: the quiet time is held at zero from here, a slot delay is discarded with the same frame in service
and the same attempt counter, and after reception idle the character is the first of a burst (R54, R55, R63). -/
def startBit (s : State) : State :=
  { s with line := { s.line.defer with
      quietSince := none
      receiver := if s.receptionIsIdle then s.line.receiver.toWaiting else s.line.receiver } }

/-- DEFERRAL: a start bit of another station, with the receiver on the line and the station not driving (R54, R63;
notes/assumptions/14.md). -/
def execDeferral (dt : Nat) (s : State) : Result :=
  onInput dt s (fun s => s.line.connected && !s.line.isDriving) startBit

/-! ### Assembling and driving -/

/-- The body driven at a win (R64). -/
def bodyAtWin (s : State) : List Byte :=
  match s.line.service with
  | some .telegram => encodeTelegram (telegramAtWin s)
  | some .answer => s.line.answerSlot.getD []
  | none => []

/-- The bits the station drives on the line, those of each character following at once on those before (R53). -/
def Line.drivenBits (l : Line) : List CharBits := if l.isDriving then l.driven.map charBits else []

/-- The lanes' copies of a telegram are compared at the win; an answer is not a compared item (R159). -/
def compareCopies (fault : Bool) (s : State) : State :=
  match s.line.service with
  | some .telegram => { s with lanes := s.lanes.atWin s.now fault s.laneP }
  | _ => s

/-- LINE_WIN: the frame is assembled and driven (R62, R64, R76, R77, R84, R159). -/
def execLineWin (laneQDiffers : Bool) (s : State) : Result :=
  whenDue (lineWinDue s) s fun s =>
    compareCopies laneQDiffers
      { s with line := { s.line with
          transmitter := .driving s.now
          driven := frameOf (bodyAtWin s)
          quietSince := none
          receiver := { s.line.receiver with state := .skipping, badFirst := false } } }

/-- The own frame has left the line: the quiet time runs from its last character (R54, R64). -/
def releaseLine (s : State) : State :=
  { s with line := { s.line with quietSince := some s.now } }

/-- The frame in service leaves it: its slot is emptied, the attempt counter returns to 0 (R66, R67). -/
def leaveService (s : State) : State :=
  { s with line := { s.line with
      telegramSlot := s.line.telegramSlot && s.line.service != some .telegram
      answerSlot := if s.line.service = some .answer then none else s.line.answerSlot
      service := none, attempt := 0, transmitter := .noService } }

/-- The Builder is told that a telegram was dropped: in RUN it is a reason for a telegram; in lockdown the 200 ms to the
next LOCKDOWN telegram start (R79, R85). -/
def telegramDropped (s : State) : State :=
  if s.lockdown then { s with builder := { s.builder with lockdownSince := some s.now } }
  else if s.inService then takeReason s
  else s

/-- The drop counters; the third consecutive drop starts the line-fault condition (R67, R68). -/
def countDrop (s : State) : State :=
  { s with line := { s.line with
      dropped := countUp s.line.dropped
      consecutiveDrops := min 255 (s.line.consecutiveDrops + 1)
      lineFault := s.line.lineFault || s.line.consecutiveDrops + 1 == 3 } }

/-- A frame is dropped after its eighth attempt (R67, R68, R79, R85). -/
def dropFrame (s : State) : State :=
  let left := leaveService (countDrop s)
  let told := if s.line.service = some .telegram then telegramDropped left else left
  if s.line.consecutiveDrops + 1 = 3 then declareAll .lineFault told else told

/-- The driver is released on a listen-back difference, and collision and attempt counters rise (R65). -/
def countCollision (s : State) : State :=
  { s with line := { s.line with
      collisions := countUp s.line.collisions, attempt := s.line.attempt + 1, transmitter := .awaitIdle } }

/-- COLLISION (R65, R67, R68, R77). A character past the end of the frame is taken as its last, and character 0 as its first
(DESIGN CHOICE: notes/assumptions/3.md). -/
def execCollision (character : Nat) (s : State) : Result :=
  whenDue (readBackDue s character) s fun s =>
    let collided := countCollision (releaseLine s)
    if 8 ≤ collided.line.attempt then dropFrame collided else collided

/-- The next sequence number: 65535 is followed by 1 (R78). -/
def nextSequence (n : Word16) : Word16 := if n = 65535 then 1 else n + 1

/-- A telegram completes: the sequence number advances, and the spacing timer and the heartbeat, or in lockdown the
200 ms timer, start (R74, R75, R78, R85). -/
def telegramCompleted (s : State) : State :=
  { s with builder := { s.builder with
      sequence := nextSequence s.builder.sequence
      spacingSince := some s.now
      heartbeatSince := if s.lockdown then none else some s.now
      lockdownSince := if s.lockdown then some s.now else none } }

/-- A completed attempt ends the run of drops and the line-fault condition (R66, R68). -/
def endLineFault (s : State) : State :=
  { s with line := { s.line with consecutiveDrops := 0, lineFault := false } }

/-- ATTEMPT_COMPLETION (R66, R68, R78). -/
def execAttemptCompletion (s : State) : Result :=
  whenDue (readBackDue s s.line.driven.length) s fun s =>
    let left := endLineFault (leaveService (releaseLine s))
    if s.line.service = some .telegram then telegramCompleted left else left

/-! ### The Builder's timers -/

/-- SPACING_END: the spacing timer stops, and a set request flag may fill the slot (R73, R74). -/
def execSpacingEnd (s : State) : Result :=
  whenDue (spacingDue s) s fun s => { s with builder := { s.builder with spacingSince := none } }

/-- HEARTBEAT_EXPIRY: the heartbeat timer stops, and its expiry is a reason for a telegram in RUN outside lockdown
(R71, R75). -/
def execHeartbeatExpiry (s : State) : Result :=
  whenDue (heartbeatDue s) s fun s =>
    let stopped := { s with builder := { s.builder with heartbeatSince := none } }
    if s.inService then takeReason stopped else stopped

/-- LOCKDOWN_TELEGRAM_TIMER: the next LOCKDOWN telegram is due (R85). -/
def execLockdownTelegramTimer (s : State) : Result :=
  whenDue (lockdownTelegramDue s) s fun s =>
    takeReason { s with builder := { s.builder with lockdownSince := none } }

end Sys2Proof.Machine
end

