-- ==== Sys2Proof/Machine/Maintenance.lean ====
section
/-! DEFINITION. The maintenance responder: the judgement of a query and the layouts of the answers (chapter 11). -/

namespace Sys2Proof.Machine

/-! ### Codes (9.1, 11.2) -/

def Phase.code : Phase → Nat
  | .configRead => 1
  | .configHalt => 2
  | .selfTest => 3
  | .silence => 4
  | .run => 5

def HeadState.code : HeadState → Nat
  | .starting => 1
  | .counting => 2
  | .faulty => 3

def Automaton.code : Automaton → Nat
  | .idle => 0
  | .x1 => 1
  | .x2 => 2
  | .x3 => 3
  | .y1 => 4
  | .y2 => 5
  | .y3 => 6
  | .unresolved => 7

def LockdownCause.code : LockdownCause → Nat
  | .laneMismatch => 1
  | .clockFault => 2
  | .outputReadback => 3
  | .duplicateStation => 4
  | .selfTestFault => 5

def Cause.code : Cause → Nat
  | .startup => 1
  | .headFault => 2
  | .headInterference => 3
  | .passageUnresolved => 4
  | .peerHead => 5
  | .peerLost => 6
  | .peerRestart => 7
  | .countJump => 8
  | .countRange => 9
  | .negativeBalance => 10
  | .viewMismatch => 11
  | .peerDisturbed => 12
  | .boundaryMismatch => 13
  | .lineFault => 14

def ResetOutcome.code : ResetOutcome → Nat
  | .none => 0
  | .agreedSweep => 1
  | .agreedDirect => 2
  | .expired => 3
  | .abandonedPassage => 4
  | .abandonedDisturbance => 5
  | .superseded => 6
  | .refused => 7

def PeerState.code : PeerState → Nat
  | .unheard => 0
  | .fresh => 1
  | .stale => 2
  | .lost => 3

def LogKind.code : LogKind → Nat
  | .passageXY => 0
  | .passageYX => 1
  | .unresolved => 2
  | .restartMark => 3

/-- An absent cause is 0 (11.2). -/
def causeCode (c : Option Cause) : Nat := (c.map Cause.code).getD 0

/-! ### STATUS -/

/-- The presence character (11.2). -/
def presence (s : State) : Byte :=
  char8 (flag s.head.a.lastSpike.isSome 1 + flag s.head.b.lastSpike.isSome 2 + flag s.lockdown 4 +
    flag s.lockdownRecord.isSome 8 + flag s.line.lineFault 16)

/-- The lockdown record, 0 and 0 when absent (R165). -/
def lockdownChars (r : Option LockdownRecord) : List Byte :=
  match r with
  | some r => char8 r.cause.code :: chars32 r.time
  | none => char8 0 :: chars32 0

/-- A counter of 0..65535 in two characters. -/
def counterChars (n : Nat) : List Byte := chars16 (BitVec.ofNat 16 n)

/-- The STATUS data (R178, 11.2). -/
def statusData (s : State) : List Byte :=
  [char8 s.phase.code, char8 s.head.state.code, char8 s.detector.state.code, HeadStatus.code s.headStatus] ++
    chars16 s.txy ++ chars16 s.tyx ++ [char8 s.head.a.spikes, char8 s.head.b.spikes, presence s] ++
    chars32 (s.head.a.lastSpike.getD 0) ++ chars32 (s.head.b.lastSpike.getD 0) ++ chars32 s.stationTime ++
    lockdownChars s.lockdownRecord ++ counterChars s.line.framesGood ++ counterChars s.line.framesBad ++
    counterChars s.line.collisions ++ counterChars s.line.dropped ++ [char8 s.line.consecutiveDrops]

/-! ### SECTION -/

/-- Milliseconds left of a running time: its limit less the whole milliseconds elapsed (R150); 0 when it does not run.
DESIGN CHOICE of the rounding: notes/assumptions/11.md. -/
def remaining (now : Tick) (limit : Nat) (since : Option Tick) : Nat :=
  match since with
  | some t => limit - (now - t) / 100
  | none => 0

/-- State code and flags (11.2). -/
def sectionState (s : State) (sl : Slot) : Byte :=
  char8 (sl.state.code.toNat + flag (s.settled sl) 8 + flag sl.record.further 16 + flag sl.reset.demand.isSome 32 +
    flag sl.reset.coolDownSince.isSome 64)

/-- The disturbance record (R165). The first cause time is 0 when it is absent, as the station beside it in its row of the
layout (DEDUCED: notes/assumptions/38.md). -/
def recordChars (r : DisturbanceRecord) : List Byte :=
  [char8 (causeCode r.firstCause * 16 + causeCode r.lastFurther)] ++ chars32 (r.firstTime.getD 0) ++
    [char8 (r.firstStation.getD 0), char8 r.count]

/-- The demand with the window or linger remaining (R150). -/
def demandChars (now : Tick) (sl : Slot) : List Byte :=
  match sl.reset.demand with
  | some d =>
    [char8 d.identity.originator, demandNumberCode d.identity.number d.kind] ++ chars16 d.baseTxy ++
      chars16 d.baseTyx ++ chars32 d.windowStart ++
      counterChars (if sl.state = .agreeing then remaining now 10000 sl.reset.windowSince
        else remaining now 2000 sl.reset.lingerSince)
  | none => []

/-- 2 to the power of its position for each boundary station in the agreement set (11.2). -/
def agreementBits (members : List Nat) : Nat → List Boundary → Nat
  | _, [] => 0
  | i, b :: bs => flag (members.contains b.station) (2 ^ i) + agreementBits members (i + 1) bs

/-- The agreement set of an AGREEING slot (R150). -/
def agreementChars (sl : Slot) : List Byte :=
  if sl.state = .agreeing then [char8 (agreementBits (sl.reset.agreement.getD []) 0 sl.boundary)] else []

/-- The boundary records with their clamped contributions (R128). -/
def boundaryChars (sl : Slot) : List Byte :=
  (sl.boundary.zip sl.contributions).flatMap fun (b, c) => char8 b.station :: chars24 (c.inward * 4096 + c.outward)

/-- The cool-down remaining, while it runs (R150). -/
def coolDownChars (now : Tick) (sl : Slot) : List Byte :=
  match sl.reset.coolDownSince with
  | some t => chars24 (remaining now 120000 (some t))
  | none => []

/-- The SECTION data of a slot (R128, R150, R165, 11.2). -/
def sectionData (s : State) (index : Nat) (sl : Slot) : List Byte :=
  [char8 index, sectionState s sl] ++ chars16 (BitVec.ofInt 16 sl.balance) ++ recordChars sl.record ++
    [char8 (sl.reset.outcome.code + 16 * sl.reset.expiries)] ++ coolDownChars s.now sl ++ demandChars s.now sl ++
    agreementChars sl ++ boundaryChars sl

/-! ### PEERS and LOG -/

/-- The age in ms, saturating at 65535 (R179). -/
def ageMs (now accepted : Tick) : Nat := min 65535 ((now - accepted) / 100)

/-- The PEERS entry of a record (R102); `use` numbers the free values of the fields that are absent. -/
def peerEntry (now : Tick) (use : Nat) (r : PeerRecord) : List Byte :=
  [char8 r.station, char8 (r.state.code + flag r.lastSequence.isSome 4 + flag r.acceptedAt.isSome 8),
      match r.status with | some st => HeadStatus.code st | none => 0] ++
    chars16 (r.lastSequence.getD (Config.absentSequence use)) ++ chars16 r.txy ++ chars16 r.tyx ++
    chars16 (match r.acceptedAt with
      | some t => BitVec.ofNat 16 (ageMs now t)
      | none => Config.undefinedAge use) ++ counterChars r.gaps

/-- The entries of a list of records, each with the number of its free values. -/
def peerEntries (now : Tick) : Nat → List PeerRecord → List Byte
  | _, [] => []
  | use, r :: rs => peerEntry now use r ++ peerEntries now (use + 1) rs

/-- The PEERS data from a position on (R179). -/
def peersData (s : State) (start : Nat) : List Byte :=
  char8 s.peers.length :: peerEntries s.now s.freeUses ((s.peers.drop start).take 4)

/-- The LOG entry (11.2). -/
def logChars (e : LogEntry) : List Byte :=
  char8 (e.kind.code + flag e.rocked 128) :: chars32 e.time ++ counterChars (e.speed.getD 65535)

/-- The copy of up to 8 entries from a position on (R36). -/
def logCopy (entries : List LogEntry) (start : Nat) : List LogEntry := (entries.drop start).take 8

/-- The LOG data (R36, R179). -/
def logData (s : State) (start : Nat) : List Byte :=
  char8 s.log.length :: (logCopy s.log start).flatMap logChars

/-! ### Answering -/

/-- The body of an answer: the kind character, then the data (11.2). -/
def answerBody (own : Nat) (kind : Byte) (data : List Byte) : List Byte :=
  bodyHeader 3 (char8 own) 31 ++ kind :: data

/-- The kind character of a refused answer: the kind received plus 128, where it fits a character (11.2). -/
def refusedKind (kind : Byte) : Byte :=
  if kind.toNat < 128 then kind + 128 else Config.refusedKind kind

/-- An answer is placed in the answer slot, in the place of any held there (R60, R178). -/
def placeAnswer (kind : Byte) (data : List Byte) (s : State) : State :=
  { s with line := { s.line with answerSlot := some (answerBody s.own kind data) } }

/-- A query is refused: the kind received, marked, and no data (R178). -/
def refuseQuery (kind : Byte) (s : State) : State := placeAnswer (refusedKind kind) [] s

/-- A query is taken from its hand-over and judged (R57, R178). -/
def onQuery (dt : Nat) (kind parameter : Byte) (s : State) (f : State → State) : Result :=
  onInput dt (s.takeHanded (.query kind parameter)) (·.takesQueries) f

/-- A query of a kind other than STATUS with its parameter in range or not: refused in lockdown and out of range, else
answered (R178). -/
def judgeQuery (kind : Byte) (inRange : Bool) (answer : State → State) (s : State) : State :=
  if s.lockdown || !inRange then refuseQuery kind s else answer s

/-- STATUS_QUERY: answered in RUN and in lockdown; the parameter is not read (R178, R179). -/
def execStatusQuery (dt : Nat) (parameter : Byte) (s : State) : Result :=
  onQuery dt 1 parameter s fun s => placeAnswer 1 (statusData s) s

/-- The slot index is in range (R179). -/
def State.slotIndex (s : State) (parameter : Byte) : Bool := decide (parameter.toNat < s.slots.length)

/-- The SECTION answer for a slot index. -/
def answerSection (parameter : Byte) (s : State) : State :=
  match s.slots[parameter.toNat]? with
  | some sl => placeAnswer 2 (sectionData s parameter.toNat sl) s
  | none => refuseQuery 2 s

/-- SECTION_QUERY (R128, R150, R165, R178, R179). -/
def execSectionQuery (dt : Nat) (parameter : Byte) (s : State) : Result :=
  onQuery dt 2 parameter s fun s => judgeQuery 2 (s.slotIndex parameter) (answerSection parameter) s

/-- The PEERS answer; the free values of its entries are used up. -/
def answerPeers (parameter : Byte) (s : State) : State :=
  { placeAnswer 3 (peersData s parameter.toNat) s with freeUses := s.freeUses + 4 }

/-- PEERS_QUERY (R102, R178, R179). -/
def execPeersQuery (dt : Nat) (parameter : Byte) (s : State) : Result :=
  onQuery dt 3 parameter s fun s => judgeQuery 3 (decide (parameter.toNat ≤ 15)) (answerPeers parameter) s

/-- LOG_QUERY (R36, R178, R179). -/
def execLogQuery (dt : Nat) (parameter : Byte) (s : State) : Result :=
  onQuery dt 4 parameter s fun s =>
    judgeQuery 4 (decide (parameter.toNat ≤ 63)) (fun s => placeAnswer 4 (logData s parameter.toNat) s) s

/-- The four line diagnostic counters and the gap counters return to 0 (R59, R180). -/
def clearCounters (s : State) : State :=
  { s with
    line := { s.line with framesGood := 0, framesBad := 0, collisions := 0, dropped := 0 }
    peers := s.peers.map fun r => { r with gaps := 0 } }

/-- CLEAR_DIAG: the counters are zeroed and an answer without data is placed; refused in lockdown it changes nothing
else (R178, R179, R180). -/
def execClearDiag (dt : Nat) (parameter : Byte) (s : State) : Result :=
  onQuery dt 5 parameter s fun s => judgeQuery 5 true (fun s => placeAnswer 5 [] (clearCounters s)) s

/-- The kind is not one of the five (11.2). -/
def unknownKind (kind : Byte) : Bool := decide (kind.toNat < 1) || decide (5 < kind.toNat)

/-- QUERY_OF_UNKNOWN_KIND: refused, in lockdown as well; a query of one of the five kinds is not this command (R178). -/
def execQueryOfUnknownKind (dt : Nat) (kind parameter : Byte) (s : State) : Result :=
  if unknownKind kind then onQuery dt kind parameter s (refuseQuery kind) else .next (s.pass dt)

end Sys2Proof.Machine
end

