-- ==== Sys2Proof/Machine/Peers.lean ====
section
/-! DEFINITION. The Peer Table (chapter 6): judging and accepting count telegrams, freshness, and what the Section
Evaluator and the Reset Controller take from an accepted telegram (7.8, 7.9, 8.4). -/

namespace Sys2Proof.Machine

/-! ### Judgement of the sequence number -/

/-- R89. -/
inductive Judgement where
  | firstHearing
  | duplicate
  | restart
  | inOrder
  | gap
  deriving DecidableEq, Repr

/-- The successor of a sequence number: 1 after 65535 (R78, R89). -/
def successor (n : Word16) : Word16 := if n = 65535 then 1 else n + 1

/-- R89. A LOST record has no duplicate. -/
def judgeSequence (r : PeerRecord) (sequence : Word16) : Judgement :=
  if r.state = .unheard then .firstHearing
  else if r.state ≠ .lost ∧ r.lastSequence = some sequence then .duplicate
  else if sequence = 0 then .restart
  else if r.lastSequence.map successor = some sequence then .inOrder
  else .gap

/-! ### The record after an accepted telegram -/

/-- The step check fails: a step of either total exceeds 4095; made in order and at a gap, not for LOCKDOWN (R95). -/
def jumps (r : PeerRecord) (j : Judgement) (t : Telegram) : Bool :=
  (j == .inOrder || j == .gap) && t.status != .lockdown &&
    (decide (4095 < (t.txy - r.txy).toNat) || decide (4095 < (t.tyx - r.tyx).toNat))

/-- The head status changes to FAULTY or LOCKDOWN, whatever was held before. A held LOCKDOWN followed by FAULTY declares as
well, by R96's first sentence and R101 (DEDUCED: notes/assumptions/37.md). -/
def headFails (r : PeerRecord) (t : Telegram) : Bool :=
  (t.status == .faulty || t.status == .lockdown) && r.status != some t.status

/-- The telegram carries a view of the section. -/
def carriesView (t : Telegram) (sl : Slot) : Bool :=
  (storedViews t).any (fun v => v.sectionNumber == sl.sectionNumber)

/-- The missing-view conditions after an accepted telegram (R98); a LOCKDOWN telegram leaves them as they stood. -/
def missingAfter (own : Nat) (slots : List Slot) (r : PeerRecord) (t : Telegram) : List Bool :=
  if t.status = .lockdown then r.missing
  else slots.map (fun sl => sl.uses own r.station && !carriesView t sl)

/-- The foreign-view conditions after an accepted telegram (R99). -/
def foreignAfter (own : Nat) (slots : List Slot) (r : PeerRecord) (t : Telegram) : List Bool :=
  slots.map (fun sl => !sl.uses own r.station && carriesView t sl)

/-- The record after an accepted telegram (R91, R92, R95, R96, R97, R98, R99, R100). -/
def PeerRecord.accept (now : Tick) (own : Nat) (slots : List Slot) (j : Judgement) (t : Telegram) (r : PeerRecord) :
    PeerRecord :=
  { r with
    state := .fresh
    lastSequence := some t.sequence
    txy := if t.status = .lockdown then r.txy else t.txy
    tyx := if t.status = .lockdown then r.tyx else t.tyx
    status := some t.status
    acceptedAt := some now
    gaps := if j = .gap then min 65535 (r.gaps + 1) else r.gaps
    views := storedViews t
    missing := missingAfter own slots r t
    foreign := foreignAfter own slots r t }

/-- The record of a station changes. -/
def State.modifyPeer (s : State) (station : Nat) (f : PeerRecord → PeerRecord) : State :=
  { s with peers := s.peers.map (fun r => if r.station == station then f r else r) }

/-- The last identities of a restarted originator become absent (R139). -/
def forgetIdentities (originator : Nat) (s : State) : State :=
  { s with slots := s.slots.map (fun sl =>
      if sl.reset.lastIdentity.map (·.originator) = some originator then
        { sl with reset := { sl.reset with lastIdentity := none } }
      else sl) }

/-- A condition that stands where it did not stand before. -/
def comesToStand (before after : List Bool) (i : Nat) : Bool :=
  after[i]?.getD false && !(before[i]?.getD false)

/-- The slots on which a missing-view or foreign-view condition comes to stand (R98, R99). -/
def newMismatch (before after : PeerRecord) (i : Nat) : Bool :=
  comesToStand before.missing after.missing i || comesToStand before.foreign after.foreign i

/-! ### What a telegram hands on without an order among themselves (R100) -/

inductive Item where
  | peerRestart
  | countJump
  | peerHead
  | boundaryMismatch
  /-- The changes of totals, head status and peer state for the Section Evaluator. -/
  | changes
  deriving DecidableEq, Repr

/-- The held totals change (R95). -/
def totalsChange (before after : PeerRecord) : Bool :=
  before.txy != after.txy || before.tyx != after.tyx

/-- The Section Evaluator takes the telegram's changes on a slot using the peer: it is recomputed if a held total changed,
and its clearing conditions are judged (R95, R106, R112). A return from STALE with other totals is one change, through which
the settled condition stays false (R82, R100; the model's choice: notes/assumptions/30.md). -/
def takeChanges (before after : PeerRecord) (s : State) (evaluating : Bool) (sl : Slot) : Slot :=
  if totalsChange before after then takeTotals s evaluating sl else judge s false sl

/-- A cause of an accepted telegram on one slot; in lockdown it is not applied (R152). -/
def declareSlot (s : State) (cause : Cause) (station : Nat) (sl : Slot) : Slot :=
  if s.lockdown then sl else disturb cause s.stationTime station sl

/-- One item reaches the slot of number `i`, which the telegram found as `found` (R90, R95, R96, R98, R99, R101). -/
def Item.take (before after : PeerRecord) (s : State) (i : Nat) (found sl : Slot) (item : Item) : Slot :=
  match item with
  | .peerRestart => if sl.uses s.own after.station then declareSlot s .peerRestart after.station sl else sl
  | .countJump => if sl.uses s.own after.station then declareSlot s .countJump after.station sl else sl
  | .peerHead => if sl.uses s.own after.station then declareSlot s .peerHead after.station sl else sl
  | .boundaryMismatch => if newMismatch before after i then declareSlot s .boundaryMismatch s.own sl else sl
  | .changes => if sl.uses s.own after.station then takeChanges before after s found.state.evaluating sl else sl

/-- The items an accepted telegram raises (R90, R95, R96, R98, R99, R100). -/
def itemsOf (r : PeerRecord) (j : Judgement) (t : Telegram) : List Item :=
  (if j = .restart then [Item.peerRestart] else []) ++ (if jumps r j t then [Item.countJump] else []) ++
    (if headFails r t then [Item.peerHead] else []) ++ [.boundaryMismatch, .changes]

/-- Every order of a list, by number: 0 is the list as it stands, and each order has a number (R100). -/
def arrange {α : Type} (n : Nat) : List α → List α
  | [] => []
  | x :: xs => (arrange (n / (xs.length + 1)) xs).insertIdx (n % (xs.length + 1)) x

/-- The items reach each slot in the order taken there (R100; notes/assumptions/8.md). -/
def takeItems (order : TakingOrder) (before after : PeerRecord) (items : List Item) (s : State) : State :=
  { s with
    slots := s.slots.mapIdx fun i sl =>
      (arrange (order.causes[i]?.getD 0) items).foldl (Item.take before after s i sl) sl }

/-! ### Views -/

/-- The view shows the section disturbed, or agreeing on a demand other than the slot's own (R123). -/
def showsDisturbed (sl : Slot) (v : View) : Bool :=
  match v.state with
  | .disturbed => true
  | .agreeing =>
    match v.demand, sl.reset.demand with
    | some d, some held => d.identity != held.identity
    | _, _ => true
  | _ => false

/-- The cross-check finds a difference (R121). -/
def crossCheckFails (s : State) (sl : Slot) (v : View) : Bool :=
  v.settled && v.state.evaluating && s.settled sl && sl.state.evaluating && v.balance != sl.balance

/-- The Section Evaluator takes a handed view: propagation and cross-check, in an evaluating state and outside
lockdown (R121, R123, R126). -/
def evaluateView (s : State) (view : Option View) (sl : Slot) : Slot :=
  match view with
  | some v =>
    if s.lockdown || !sl.state.evaluating then sl
    else if showsDisturbed sl v then disturb .peerDisturbed s.stationTime s.own sl
    else if crossCheckFails s sl v then disturb .viewMismatch s.stationTime s.own sl
    else sl
  | none => sl

/-- The Section Evaluator's part of a handed view, with the judgement of condition 6 unless the event's change of totals
has been judged already (R112, R121, R123; one move an event, notes/assumptions/7.md). -/
def evaluatorTakes (s : State) (judged : Bool) (view : Option View) (sl : Slot) : Slot :=
  let seen := evaluateView s view sl
  if judged then seen else judge s false seen

/-- The view of a slot reaches its first reader, or its second: the Section Evaluator and the Reset Controller, in either
order on each slot (R124). -/
def readView (order : TakingOrder) (first : Bool) (after : PeerRecord) (judged : Bool) (s : State) (i : Nat) (sl : Slot) :
    Slot :=
  let view := after.view? sl.sectionNumber
  if sl.uses s.own after.station then
    if (order.resetFirst[i]?.getD false) = first then takeView s after.station view sl
    else evaluatorTakes s judged view sl
  else sl

/-- The views reach the slots' first readers, or their second ones. -/
def readViews (order : TakingOrder) (first : Bool) (after : PeerRecord) (judged : Bool) (s : State) : State :=
  { s with slots := s.slots.mapIdx (readView order first after judged s) }

/-- COUNT_RANGE is declared where an application has just brought it about (R107). -/
def rangesAfter (before s : State) : State :=
  { s with slots := before.slots.zipWith (rangeAfter s) s.slots }

/-- One round of readers, each change noticed as it comes (R71, R107, R124). -/
def readRound (order : TakingOrder) (first : Bool) (after : PeerRecord) (judged : Bool) (s : State) : State :=
  let read := notice s (readViews order first after judged s)
  notice read (rangesAfter s read)

/-- The stored views are handed on, last (R97, R100). -/
def handViews (order : TakingOrder) (before after : PeerRecord) (s : State) : State :=
  readRound order false after (totalsChange before after) (readRound order true after (totalsChange before after) s)

/-! ### The commands -/

/-- An accepted telegram: the record first, then causes and changes in the order taken, then the views, each part noticed
as it comes (R71, R100; notes/assumptions/30.md). -/
def acceptTelegram (r : PeerRecord) (j : Judgement) (t : Telegram) (order : TakingOrder) (s : State) : State :=
  let accepted := r.accept s.now s.own s.slots j t
  let recorded := s.modifyPeer r.station (fun _ => accepted)
  let known := if j = .restart then forgetIdentities r.station recorded else recorded
  handViews order r accepted (notice s (takeItems order r accepted (itemsOf r j t) known))

/-- A count telegram from a peer is judged: discarded if it is not well formed or a duplicate, else accepted (R88,
R89). -/
def judgeTelegram (r : PeerRecord) (t : Telegram) (order : TakingOrder) (s : State) : State :=
  if wellFormedTelegram t then
    match judgeSequence r t.sequence with
    | .duplicate => s
    | j => acceptTelegram r j t order s
  else s

/-- COUNT_TELEGRAM: taken by the Peer Table if its sender has a record, else ignored (R57, R88 to R101). -/
def execCountTelegram (dt : Nat) (t : Telegram) (order : TakingOrder) (s : State) : Result :=
  onInput dt (s.takeHanded (.telegram t)) (fun s => s.line.connected && s.configured) fun s =>
    match s.peer? t.sender.toNat with
    | some r => judgeTelegram r t order s
    | none => s

/-- PEER_STALE: the record becomes STALE; no cause is declared, and the slots using the peer are judged (R92, R93). -/
def execPeerStale (station : Nat) (s : State) : Result :=
  whenDue (peerStaleDue s station) s fun s =>
    judgeUsing station (s.modifyPeer station fun r => { r with state := .stale })

/-- The record enters LOST, and its missing-view and foreign-view conditions end (R94, R98, R99). -/
def PeerRecord.lose (r : PeerRecord) : PeerRecord :=
  { r with
    state := .lost, missing := List.replicate r.missing.length false, foreign := List.replicate r.foreign.length false }

/-- The peer leaves the agreement set of every AGREEING slot using it; in lockdown no set is updated (R94, R141, R149;
notes/assumptions/34.md). -/
def leaveSets (station : Nat) (s : State) : State :=
  { s with slots := s.slots.map (fun sl =>
      if s.lockdown = false ∧ sl.uses s.own station = true ∧ sl.state = .agreeing then sl.leave station else sl) }

/-- PEER_LOST: the record becomes LOST, the peer leaves the agreement sets, PEER_LOST is declared on every slot using it,
and those slots are judged (R92, R94, R98, R99, R141, R145). -/
def execPeerLost (station : Nat) (s : State) : Result :=
  whenDue (peerLostDue s station) s fun s =>
    judgeUsing station (declareUsing .peerLost station (leaveSets station (s.modifyPeer station PeerRecord.lose)))

end Sys2Proof.Machine
end

