-- ==== Sys2Proof/Machine/Reset.lean ====
section
/-! DEFINITION. The Reset Controller's operator sequence and timers (8.1, 8.2, 8.3, 8.6, 8.7). -/

namespace Sys2Proof.Machine

/-! ### The operator lines -/

/-- The debounced level of a request line. -/
def requestLevel (l : OperatorLevels) (i : Fin 4) : Bool :=
  match i with
  | 0 => l.rq1
  | 1 => l.rq2
  | 2 => l.rq3
  | 3 => l.rq4

/-- The start of a request line's 500 ms after a sample: an active edge starts it, an inactive level ends it (R131). -/
def requestAfter (now : Tick) (was is : Bool) (since : Option Tick) : Option Tick :=
  if is then (if was then since else some now) else none

/-- The run of a line after a change of debounced levels: zero for a line that changed (R130). -/
def runAfter (was is : Bool) (run : Nat) : Nat := if was = is then run else 0

/-- The pin of a line whose debounced level changed stands at the new level. -/
def pinAfter (was is pin : Bool) : Bool := if was = is then pin else is

/-- The runs after a change of debounced levels (R130). -/
def OperatorRuns.after (was is : OperatorLevels) (r : OperatorRuns) : OperatorRuns :=
  { rq1 := runAfter was.rq1 is.rq1 r.rq1, rq2 := runAfter was.rq2 is.rq2 r.rq2, rq3 := runAfter was.rq3 is.rq3 r.rq3,
    rq4 := runAfter was.rq4 is.rq4 r.rq4, cfs := runAfter was.cfs is.cfs r.cfs, cfd := runAfter was.cfd is.cfd r.cfd }

/-- The operator pins after a change of debounced levels. -/
def OperatorLevels.after (was is : OperatorLevels) (p : OperatorLevels) : OperatorLevels :=
  { rq1 := pinAfter was.rq1 is.rq1 p.rq1, rq2 := pinAfter was.rq2 is.rq2 p.rq2, rq3 := pinAfter was.rq3 is.rq3 p.rq3,
    rq4 := pinAfter was.rq4 is.rq4 p.rq4, cfs := pinAfter was.cfs is.cfs p.cfs, cfd := pinAfter was.cfd is.cfd p.cfd }

/-- The debounced levels change together on one sample (R130, R131). -/
def takeLevels (levels : OperatorLevels) (s : State) : State :=
  { s with
    operator := { s.operator with
      debounced := levels
      runs := OperatorRuns.after s.operator.debounced levels s.operator.runs
      requestSince := .ofFn (fun i =>
        requestAfter s.now (requestLevel s.operator.debounced i) (requestLevel levels i) s.operator.requestSince[i]) }
    pins := { s.pins with operator := OperatorLevels.after s.operator.debounced levels s.pins.operator } }

/-! ### Confirmation -/

/-- A confirmation of the slot with this kind is refused (R133). -/
def refusedConfirmation (s : State) (sl : Slot) (kind : ResetKind) : Bool :=
  !s.inService || sl.state != .disturbed || !s.headReady || sl.reset.coolDownSince != none || !sl.admits kind

/-- The demand issued by an accepted confirmation (R135, R136). -/
def issuedDemand (s : State) (kind : ResetKind) : Demand :=
  { identity := { originator := s.own, number := s.operator.demandNumber }, kind := kind,
    baseTxy := s.txy, baseTyx := s.tyx, windowStart := s.stationTime }

/-- The demand number counter after an issue: 15 is followed by 1 (R135). -/
def nextDemandNumber (n : Nat) : Nat := if n = 15 then 1 else n + 1

/-- An accepted confirmation issues a demand (R136). -/
def issueDemand (i : Fin 4) (kind : ResetKind) (s : State) : State :=
  let issued := s.modifySlot i (·.takeDemand s.now (issuedDemand s kind) [s.own])
  { issued with operator := { s.operator with demandNumber := nextDemandNumber s.operator.demandNumber } }

/-- A confirmation is refused: the outcome is REFUSED and the refusal pattern is requested (R132, R133). -/
def refuseConfirmation (i : Fin 4) (s : State) : State :=
  requestRefusal (s.modifySlot i fun sl => { sl with reset := { sl.reset with outcome := .refused } })

/-- A confirmation of a slot is judged (R133). -/
def confirm (i : Fin 4) (kind : ResetKind) (s : State) : State :=
  match s.slot? i with
  | some sl => if refusedConfirmation s sl kind then refuseConfirmation i s else issueDemand i kind s
  | none => s

/-- What an active edge of a confirm line does on its sample, with the debounced levels of both on it (R132). -/
def judgeEdge (cfs cfd : Bool) (s : State) : State :=
  match s.operator.selection with
  | none => s
  | some sel =>
    let judged :=
      match cfs, cfd with
      | true, false => confirm sel.slot .sweep s
      | false, true => confirm sel.slot .direct s
      | _, _ => refuseConfirmation sel.slot s
    { judged with operator := { judged.operator with selection := none } }

/-- One sample of the operator lines that changes debounced levels: an active edge of CFS or CFD is judged with the
levels of that sample (R130, R132). -/
def takeOperatorSample (levels : OperatorLevels) (s : State) : State :=
  let edge := (levels.cfs && !s.operator.debounced.cfs) || (levels.cfd && !s.operator.debounced.cfd)
  let taken := takeLevels levels s
  if edge then judgeEdge levels.cfs levels.cfd taken else taken

/-- DEBOUNCED_LEVEL_CHANGE (R130, R131, R132). -/
def execDebouncedLevelChange (dt : Nat) (levels : OperatorLevels) (s : State) : Result :=
  onInput dt s (·.configured) (takeOperatorSample levels)

/-- CONFIRM_SWEEP: the sample on which CFS goes active (R132, R133, R136). -/
def execConfirmSweep (dt : Nat) (cfd : Bool) (s : State) : Result :=
  onInput dt s (·.configured) fun s =>
    takeOperatorSample { s.operator.debounced with cfs := true, cfd := cfd } s

/-- CONFIRM_DIRECT: the sample on which CFD goes active (R132, R133, R134, R136). -/
def execConfirmDirect (dt : Nat) (cfs : Bool) (s : State) : Result :=
  onInput dt s (·.configured) fun s =>
    takeOperatorSample { s.operator.debounced with cfs := cfs, cfd := true } s

/-- SELECTION: the line's slot is selected, any earlier selection cancelled; a line without a slot selects nothing (R43,
R131). -/
def execSelection (line : Fin 4) (s : State) : Result :=
  whenDue (selectionDue s line) s fun s =>
    { s with operator := { s.operator with
        requestSince := s.operator.requestSince.set line none
        selection := match s.slot? line with
          | some _ => some { slot := line, since := s.now }
          | none => s.operator.selection } }

/-- SELECTION_TIMEOUT: the selection becomes none (R131). -/
def execSelectionTimeout (s : State) : Result :=
  whenDue (selectionTimeoutDue s) s fun s => { s with operator := { s.operator with selection := none } }

/-! ### The slot's timers -/

/-- The expiry counted: the fourth in a row starts the cool-down and returns the count to 0 (R146, R147). -/
def SlotReset.countExpiry (now : Tick) (r : SlotReset) : SlotReset :=
  if 4 ≤ r.expiries + 1 then { r with expiries := 0, coolDownSince := some now }
  else { r with expiries := r.expiries + 1 }

/-- The demand of an AGREEING slot expires (R146). -/
def expireDemand (now : Tick) (sl : Slot) : Slot :=
  let ended := sl.endDemand .expired
  { ended with reset := ended.reset.countExpiry now }

/-- WINDOW_EXPIRY, in lockdown as well (R146, R147, R149). -/
def execWindowExpiry (i : Fin 4) (s : State) : Result :=
  whenDue (windowDue s i) s fun s => s.modifySlot i (expireDemand s.now)

/-- LINGER_END: the demand record is removed, the last identity kept (R143). -/
def execLingerEnd (i : Fin 4) (s : State) : Result :=
  whenDue (lingerDue s i) s fun s =>
    s.modifySlot i fun sl => { sl with reset := { sl.reset with demand := none, lingerSince := none } }

/-- COOL_DOWN_END: the slot accepts confirmations and adoptions again (R147). -/
def execCoolDownEnd (i : Fin 4) (s : State) : Result :=
  whenDue (coolDownDue s i) s fun s =>
    s.modifySlot i fun sl => { sl with reset := { sl.reset with coolDownSince := none } }

end Sys2Proof.Machine
end

