-- ==== Sys2Proof/Machine/Supervision.lean ====
section
/-! DEFINITION. The Lane Comparator's findings (9.3, 9.4). -/

namespace Sys2Proof.Machine

/-- The tick from which the values of an item are compared; a telegram's content is compared from a differing win on
(R158, R159). -/
def comparedFrom (s : State) (item : LaneItem) : Option Tick :=
  match item with
  | .ownTotals => if s.configured then some s.passAt else none
  | .slotState i => (s.slot? i).map (fun _ => s.passAt)
  | .clearCommand _ => some 0
  | .lampPattern _ => some 0
  | .statusPattern => some 0
  | .alarmPattern => some 0
  | .telegramContent => none

/-- The difference time of an item exceeds 5 ms: from its start, if the comparator holds the item as differing, and not
again once it has been handed over; else the item differs by a fault that the command reports, which began 5 ms before and
no earlier than the item is compared (R158, R159; notes/assumptions/22.md). -/
def laneMismatchDue (s : State) (item : LaneItem) : Option Tick :=
  match s.lanes.differing.find? (fun d => d.item == item) with
  | some d => after d.since laneMismatchTicks
  | none => after (comparedFrom s item) laneMismatchTicks

/-- LANE_MISMATCH: the difference time stops and the cause is handed to the Disturbance Unit (R158, R159, R161, R163). -/
def execLaneMismatch (item : LaneItem) (s : State) : Result :=
  whenDue (laneMismatchDue s item) s fun s =>
    enterLockdown .laneMismatch { s with lanes := s.lanes.handOver item }

/-- The oscillators disagree: the check oscillator measures the period below 98 ms or above 102 ms (R160). -/
def clockDisagrees (measured : Nat) : Bool := decide (measured < 98000) || decide (102000 < measured)

/-- CLOCK_CHECK_PERIOD_END: the period is judged, and the next one starts where it ended (R160). -/
def execClockCheckPeriodEnd (measured : Nat) (s : State) : Result :=
  whenDue (some (clockPeriodDue s)) s fun s =>
    let next := { s with lanes := { s.lanes with periodSince := clockPeriodDue s } }
    if clockDisagrees measured then enterLockdown .clockFault next else next

end Sys2Proof.Machine
end

