-- ==== Sys2Proof/Machine/Dispatch.lean ====
section
/-! DEFINITION. The meaning of every command, one arm for each. -/

namespace Sys2Proof.Machine

def exec (i : Instr) (s : State) : Host.Outcome State Fault Refusal :=
  match i with
  | .powerOn restartActive => Sys2Proof.Machine.execPowerOn restartActive s
  | .restart => Sys2Proof.Machine.execRestart s
  | .restartRelease dt => Sys2Proof.Machine.execRestartRelease dt s
  | .configReadEnd dt memory first => Sys2Proof.Machine.execConfigReadEnd dt memory first s
  | .lineLoopTest dt result => Sys2Proof.Machine.execLineLoopTest dt result s
  | .laneTest agree => Sys2Proof.Machine.execLaneTest agree s
  | .readBackTest readings => Sys2Proof.Machine.execReadBackTest readings s
  | .silenceEnd => Sys2Proof.Machine.execSilenceEnd s
  | .stationTimeWrap => Sys2Proof.Machine.execStationTimeWrap s
  | .filteredChange dt a b => Sys2Proof.Machine.execFilteredChange dt a b s
  | .spike dt channel => Sys2Proof.Machine.execSpike dt channel s
  | .spikeQuietExpiry channel => Sys2Proof.Machine.execSpikeQuietExpiry channel s
  | .headFault system => Sys2Proof.Machine.execHeadFault system s
  | .headRecovery => Sys2Proof.Machine.execHeadRecovery s
  | .receptionIdle dt burst => Sys2Proof.Machine.execReceptionIdle dt burst s
  | .countTelegram dt telegram order => Sys2Proof.Machine.execCountTelegram dt telegram order s
  | .statusQuery dt parameter => Sys2Proof.Machine.execStatusQuery dt parameter s
  | .sectionQuery dt parameter => Sys2Proof.Machine.execSectionQuery dt parameter s
  | .peersQuery dt parameter => Sys2Proof.Machine.execPeersQuery dt parameter s
  | .logQuery dt parameter => Sys2Proof.Machine.execLogQuery dt parameter s
  | .clearDiag dt parameter => Sys2Proof.Machine.execClearDiag dt parameter s
  | .lineIdle => Sys2Proof.Machine.execLineIdle s
  | .deferral dt => Sys2Proof.Machine.execDeferral dt s
  | .lineWin laneQDiffers => Sys2Proof.Machine.execLineWin laneQDiffers s
  | .collision character => Sys2Proof.Machine.execCollision character s
  | .attemptCompletion => Sys2Proof.Machine.execAttemptCompletion s
  | .spacingEnd => Sys2Proof.Machine.execSpacingEnd s
  | .heartbeatExpiry => Sys2Proof.Machine.execHeartbeatExpiry s
  | .lockdownTelegramTimer => Sys2Proof.Machine.execLockdownTelegramTimer s
  | .peerStale station => Sys2Proof.Machine.execPeerStale station s
  | .peerLost station => Sys2Proof.Machine.execPeerLost station s
  | .negativeBalance slot => Sys2Proof.Machine.execNegativeBalance slot s
  | .settledTimeExpiry slot => Sys2Proof.Machine.execSettledTimeExpiry slot s
  | .confirmExpiry slot => Sys2Proof.Machine.execConfirmExpiry slot s
  | .debouncedLevelChange dt levels => Sys2Proof.Machine.execDebouncedLevelChange dt levels s
  | .confirmSweep dt cfd => Sys2Proof.Machine.execConfirmSweep dt cfd s
  | .confirmDirect dt cfs => Sys2Proof.Machine.execConfirmDirect dt cfs s
  | .selection line => Sys2Proof.Machine.execSelection line s
  | .selectionTimeout => Sys2Proof.Machine.execSelectionTimeout s
  | .windowExpiry slot => Sys2Proof.Machine.execWindowExpiry slot s
  | .lingerEnd slot => Sys2Proof.Machine.execLingerEnd slot s
  | .coolDownEnd slot => Sys2Proof.Machine.execCoolDownEnd slot s
  | .laneMismatch item => Sys2Proof.Machine.execLaneMismatch item s
  | .clockCheckPeriodEnd measured => Sys2Proof.Machine.execClockCheckPeriodEnd measured s
  | .halfPeriodTick read => Sys2Proof.Machine.execHalfPeriodTick read s
  | .tickWatchExpiry => Sys2Proof.Machine.execTickWatchExpiry s
  | .lampPatternStep lamp => Sys2Proof.Machine.execLampPatternStep lamp s
  | .statusLineToggle => Sys2Proof.Machine.execStatusLineToggle s
  | .alarmPatternStep => Sys2Proof.Machine.execAlarmPatternStep s
  | .refusalPatternStep => Sys2Proof.Machine.execRefusalPatternStep s
  | .healthLevelChange dt system high => Sys2Proof.Machine.execHealthLevelChange dt system high s
  | .queryOfUnknownKind dt kind parameter => Sys2Proof.Machine.execQueryOfUnknownKind dt kind parameter s

end Sys2Proof.Machine
end

