-- ==== Sys2Proof/Machine/Idle.lean ====
section
/-! DEFINITION. What the part does when no command waits: the oldest frame handed on goes to its block, or it raises the
event of a timer that has run out, or it takes the samples of its input pins on the tick reached, or it lets one tick of
the head time base pass. Each event it finds is put in the queue as the command of that name and takes effect when that
command is taken. DESIGN CHOICE: notes/assumptions/5.md. -/

namespace Sys2Proof.Machine

/-! ### Hand-over (R57, R178) -/

/-- The command of a query handed over, by its kind. -/
def queryCommand (kind parameter : Byte) : Instr :=
  match kind.toNat with
  | 1 => .statusQuery 0 parameter
  | 2 => .sectionQuery 0 parameter
  | 3 => .peersQuery 0 parameter
  | 4 => .logQuery 0 parameter
  | 5 => .clearDiag 0 parameter
  | _ => .queryOfUnknownKind 0 kind parameter

/-- The command of a frame handed on; the orders the manual leaves open are free. -/
def Handed.command (use : Nat) : Handed → Instr
  | .telegram t =>
    .countTelegram 0 t
      { causes := .ofFn (fun i => Config.causeOrder use i.val), resetFirst := .ofFn (fun i => Config.resetFirst use i.val) }
  | .query kind parameter => queryCommand kind parameter

/-! ### Timers that have run out -/

/-- An event with the instant its timer runs out. -/
structure TimedEvent where
  event : Instr
  due : Tick
  deriving DecidableEq, Repr

def timed (event : Instr) (due : Option Tick) : List TimedEvent :=
  match due with
  | some t => [{ event := event, due := t }]
  | none => []

/-- Reception idle comes to hold without a burst, which the receiver is still to take (R54, R55). -/
def skipEndDue (s : State) : Option Tick :=
  if s.line.connected = true ∧ s.line.isDriving = false ∧
      (s.line.receiver.state ≠ .waiting ∨ s.line.receiver.idleSeen = false) then
    after s.line.quietSince receptionIdleTicks
  else none

/-- The levels set at the clear lines: what is read at the pins when nothing outside forces them (R168). -/
def drivenLevels (s : State) : Vector PairLevels 4 :=
  .ofFn fun i => { p := s.outputs.pairs[i].p.level, q := s.outputs.pairs[i].q.level }

/-- The timers of a slot. -/
def slotEvents (s : State) (i : Fin 4) : List TimedEvent :=
  timed (.negativeBalance i) (negativeDue s i) ++ timed (.settledTimeExpiry i) (settledDue s i) ++
    timed (.confirmExpiry i) (confirmDue s i) ++ timed (.windowExpiry i) (windowDue s i) ++
    timed (.lingerEnd i) (lingerDue s i) ++ timed (.coolDownEnd i) (coolDownDue s i)

/-- The ages of a record. -/
def peerEvents (s : State) (r : PeerRecord) : List TimedEvent :=
  timed (.peerStale r.station) (peerStaleDue s r.station) ++ timed (.peerLost r.station) (peerLostDue s r.station)

/-- The head's timers; a low run reaching 20 ms changes nothing with the head FAULTY (R7). -/
def headEvents (s : State) : List TimedEvent :=
  timed (.spikeQuietExpiry .a) (spikeQuietDue s .a) ++ timed (.spikeQuietExpiry .b) (spikeQuietDue s .b) ++
    (if s.head.state = .faulty then []
     else timed (.headFault .a) (headFaultDue s .a) ++ timed (.headFault .b) (headFaultDue s .b)) ++
    timed .headRecovery (headRecoveryDue s)

/-- The line's and the Builder's timers; the own characters are read back as driven unless a COLLISION comes first. -/
def lineEvents (s : State) : List TimedEvent :=
  timed (.receptionIdle 0 []) (skipEndDue s) ++ timed .lineIdle (lineIdleDue s) ++ timed (.lineWin false) (lineWinDue s) ++
    timed .attemptCompletion (readBackDue s s.line.driven.length) ++ timed .spacingEnd (spacingDue s) ++
    timed .heartbeatExpiry (heartbeatDue s) ++ timed .lockdownTelegramTimer (lockdownTelegramDue s)

/-- The difference time of an item the comparator holds (R158). -/
def differenceDue (d : LaneDifference) : Option Tick := after d.since laneMismatchTicks

/-- The line loop test finds no fault, its frame returning without a pause, unless another result comes first (R46). -/
def loopTestDue (s : State) : Option Tick :=
  if s.inLoopTest then some (s.selfTestSince + loopTestTicks) else none

/-- The comparator's timers; the oscillators agree unless another measurement comes first. -/
def laneEvents (s : State) : List TimedEvent :=
  (s.lanes.differing.flatMap fun d => timed (.laneMismatch d.item) (differenceDue d)) ++
    timed (.clockCheckPeriodEnd 100000) (some (clockPeriodDue s))

/-- The Output Driver's timers. -/
def outputEvents (s : State) : List TimedEvent :=
  timed (.halfPeriodTick (drivenLevels s)) (halfPeriodDue s) ++
    (four.flatMap fun i => timed (.lampPatternStep i) (lampDue s i)) ++ timed .statusLineToggle (statusDue s) ++
    timed .alarmPatternStep (alarmDue s) ++ timed .refusalPatternStep (refusalDue s)

/-- Every event that a timer of the part itself brings about. The self-tests find no fault unless another result comes
first; the wrap of the station time changes nothing but the time. -/
def timedEvents (s : State) : List TimedEvent :=
  timed .silenceEnd (silenceEndDue s) ++
    timed (.lineLoopTest 0 { charactersMatch := true, frameGood := true, ticks := loopTestTicks }) (loopTestDue s) ++
    timed (.laneTest true) (laneTestDue s) ++
    timed (.readBackTest (List.replicate 40 false)) (readBackTestDue s) ++ headEvents s ++ lineEvents s ++
    s.peers.flatMap (peerEvents s) ++ four.flatMap (slotEvents s) ++
    (four.flatMap fun i => timed (.selection i) (selectionDue s i)) ++
    timed .selectionTimeout (selectionTimeoutDue s) ++ laneEvents s ++ outputEvents s

/-- An event is put in the empty queue. -/
def State.raise (s : State) (events : List Instr) : State := { s with pending := events }

/-- One of the events is raised; which one, of several, is free. -/
def raiseOne (events : List TimedEvent) (s : State) : State :=
  match events with
  | [] => s
  | [e] => s.raise [e.event]
  | e :: rest =>
    { s.raise [((e :: rest)[Config.eventChoice s.freeUses % (e :: rest).length]?.getD e).event] with
      freeUses := s.freeUses + 1 }

/-! ### One sample -/

/-- What one sample of a channel brings (R2). -/
inductive Sampled where
  | nothing
  | runs
  | spike
  | filteredChange
  deriving DecidableEq, Repr

/-- The difference run of a channel before this sample (R2). -/
def HeadChannel.run (now : Tick) (c : HeadChannel) : Nat :=
  match c.diffFrom with
  | some t => now - t
  | none => 0

/-- The table of R2, with N samples of filter time. -/
def sampleChannel (n : Nat) (now : Tick) (raw : Bool) (c : HeadChannel) : Sampled :=
  if c.filtered = some raw then
    if c.diffFrom = none then .nothing else .spike
  else if n ≤ c.run now + 1 then .filteredChange
  else .runs

/-- A run that goes on or starts (R2). -/
def HeadChannel.extend (now : Tick) (found : Sampled) (c : HeadChannel) : HeadChannel :=
  if found = .runs ∧ c.diffFrom = none then { c with diffFrom := some now } else c

/-- N of the configuration (R2). -/
def State.filterSamples (s : State) : Nat :=
  match s.config with
  | some k => Machine.filterSamples k.filterCode
  | none => 80

/-- The filtered changes of a sample, as one event (R2, R9). -/
def filteredEvents (a b : Sampled) : List Instr :=
  if a = .filteredChange ∨ b = .filteredChange then
    [.filteredChange 0 (a == .filteredChange) (b == .filteredChange)]
  else []

def spikeEvents (a b : Sampled) : List Instr :=
  (if a = .spike then [Instr.spike 0 .a] else []) ++ (if b = .spike then [.spike 0 .b] else [])

/-- The sampled health levels that changed (R7). -/
def healthEvents (s : State) : List Instr :=
  (if s.head.healthA.level = some s.pins.head.hha then [] else [Instr.healthLevelChange 0 .a s.pins.head.hha]) ++
    (if s.head.healthB.level = some s.pins.head.hhb then [] else [.healthLevelChange 0 .b s.pins.head.hhb])

/-- The four head inputs are sampled (R1, R2, R7). -/
def sampleHead (s : State) : State × List Instr :=
  if s.configured then
    let a := sampleChannel s.filterSamples s.now s.pins.head.hca s.head.a
    let b := sampleChannel s.filterSamples s.now s.pins.head.hcb s.head.b
    ({ s with head := { s.head with a := s.head.a.extend s.now a, b := s.head.b.extend s.now b } },
      filteredEvents a b ++ spikeEvents a b ++ healthEvents s)
  else (s, [])

/-- The debounced level of a line and its run after a sample (R130). -/
def debounce (level : Bool) (run : Nat) (sample : Bool) : Bool × Nat :=
  if sample = level then (level, 0)
  else if 5 ≤ run + 1 then (sample, 0)
  else (level, run + 1)

/-- The operator lines are sampled on this tick: every 10 ms from the pass, the first time 10 ms after it (R130; the phase
is the model's choice: notes/assumptions/36.md). -/
def operatorSampled (s : State) : Bool :=
  s.configured && decide (s.passAt < s.now) && (s.now - s.passAt) % ms 10 == 0

/-- The six operator lines are sampled together (R130). -/
def sampleOperator (s : State) : State × List Instr :=
  if operatorSampled s then
    let d := s.operator.debounced
    let r := s.operator.runs
    let p := s.pins.operator
    let rq1 := debounce d.rq1 r.rq1 p.rq1
    let rq2 := debounce d.rq2 r.rq2 p.rq2
    let rq3 := debounce d.rq3 r.rq3 p.rq3
    let rq4 := debounce d.rq4 r.rq4 p.rq4
    let cfs := debounce d.cfs r.cfs p.cfs
    let cfd := debounce d.cfd r.cfd p.cfd
    let levels : OperatorLevels :=
      { rq1 := rq1.1, rq2 := rq2.1, rq3 := rq3.1, rq4 := rq4.1, cfs := cfs.1, cfd := cfd.1 }
    ({ s with operator := { s.operator with
        runs := { rq1 := rq1.2, rq2 := rq2.2, rq3 := rq3.2, rq4 := rq4.2, cfs := cfs.2, cfd := cfd.2 } } },
      if levels = d then [] else [.debouncedLevelChange 0 levels])
  else (s, [])

/-- The restart line is sampled: RESTART on the tenth consecutive active sample, once in each activation (R51). -/
def sampleRestart (s : State) : State × List Instr :=
  if s.pins.restart then
    let start := s.restartFrom.getD s.now
    ({ s with restartFrom := some start },
      if s.restartHeld = false ∧ start + 9 ≤ s.now then [.restart] else [])
  else ({ s with restartFrom := none }, if s.restartHeld then [.restartRelease 0] else [])

/-- The events of one sample in a free order, if there are several. -/
def raiseSampled (events : List Instr) (s : State) : State :=
  match events with
  | [] => s
  | [e] => s.raise [e]
  | e :: rest =>
    { s.raise (arrange (Config.sampleOrder s.freeUses) (e :: rest)) with freeUses := s.freeUses + 1 }

/-- The pins are sampled on the tick reached (R1, R51, R130). -/
def sample (s : State) : State :=
  let head := sampleHead { s with sampleDue := false }
  let operator := sampleOperator head.1
  let restart := sampleRestart operator.1
  raiseSampled (head.2 ++ operator.2 ++ restart.2) (noteRuns s restart.1)

/-- One tick passes; its samples are then to be taken. -/
def tick (s : State) : State := { s.pass 1 with sampleDue := true }

/-- The recovery condition fails on this tick's sample whatever the order: a health level is low, or the sample brings a
spike (R8). -/
def sampleBreaks (s : State) : Bool :=
  !s.pins.head.hha || !s.pins.head.hhb ||
    sampleChannel s.filterSamples s.now s.pins.head.hca s.head.a == .spike ||
    sampleChannel s.filterSamples s.now s.pins.head.hcb s.head.b == .spike

/-- The level a health pin stands at. -/
def Pins.health (c : Channel) (p : Pins) : Bool :=
  match c with
  | .a => p.head.hha
  | .b => p.head.hhb

/-- An event that this tick's sample forestalls waits for it: a low run does not reach 20 ms if the sample is high (R7), nor
the recovery time 2000 ms if the condition fails on it, a filtered rise apart (R8). A head fault with the sample low may come
before or after the filtered change of the sample (R19). -/
def waitsForSample (s : State) (e : TimedEvent) : Bool :=
  s.sampleDue && e.due == s.now &&
    match e.event with
    | .headFault c => s.pins.health c
    | .headRecovery => sampleBreaks s
    | _ => false

/-- The events whose timers have run out and that do not wait for the sample, those of the earliest instant. -/
def dueEvents (s : State) : List TimedEvent :=
  let past := (timedEvents s).filter fun e => decide (e.due ≤ s.now) && !waitsForSample s e
  past.filter fun e => past.all fun f => decide (e.due ≤ f.due)

/-- The events have run out on this tick and not before. -/
def fallNow (now : Tick) (events : List TimedEvent) : Bool := events.all fun e => e.due == now

/-- The samples of this tick or a timer that has run out on it, in a free order (R4, R8, R19, R72, R132). -/
def sampleOrRaise (events : List TimedEvent) (s : State) : State :=
  if fallNow s.now events && Config.sampleFirst s.freeUses then sample { s with freeUses := s.freeUses + 1 }
  else raiseOne events { s with freeUses := s.freeUses + 1 }

/-- What the part does when no command waits. A frame handed on waits until its command takes it. -/
def idle (s : State) : State :=
  match s.handed with
  | h :: _ => { s.raise [h.command s.freeUses] with freeUses := s.freeUses + 1 }
  | [] =>
    match dueEvents s, s.sampleDue with
    | [], true => sample s
    | [], false => tick s
    | events, true => sampleOrRaise events s
    | events, false => raiseOne events s

end Sys2Proof.Machine
end

