-- ==== Sys2Proof/Safety.lean ====
section
/-! DEFINITION. The terms that claims about the part use: what an event may end with beside its own effect, and the
conditions that every step keeps. -/

namespace Sys2Proof.Machine

/-! ### The end of an event -/

/-- `t` is `u` but for what every event ends with: the Telegram Builder's request and the filling of the telegram slot (R71,
R72, R73), a frame taken into service (R60, R61, R62), the lamps, the status line and the alarm, which follow the state
(R171 to R175), and lane Q's time and what it has taken and has still to take, with the differences found (R157, R158). A
frame already in service and a filled telegram slot stay. -/
structure Ends (u t : State) : Prop where
  rest : t = { u with
    builder := { u.builder with request := t.builder.request }
    line := { u.line with
      telegramSlot := t.line.telegramSlot, service := t.line.service, transmitter := t.line.transmitter,
      attempt := t.line.attempt }
    outputs := { u.outputs with
      lamps := t.outputs.lamps, status := t.outputs.status, alarm := t.outputs.alarm }
    lanes := { u.lanes with
      copy := t.lanes.copy, time := t.lanes.time, behind := t.lanes.behind, events := t.lanes.events,
      differing := t.lanes.differing } }
  slotKept : u.line.telegramSlot = true → t.line.telegramSlot = true
  serviceKept : u.line.service ≠ none →
    t.line.service = u.line.service ∧ t.line.transmitter = u.line.transmitter ∧ t.line.attempt = u.line.attempt

/-! ### Commands that start the part afresh -/

/-- The commands that put every block at its start value (R51). -/
def Starts : Instr → Prop
  | .powerOn _ => True
  | .restart => True
  | _ => False

/-- Every block but the log and the lockdown record at its start value, and CONFIG_READ begun (R23, R24, R25, R29, R51,
R70, R86, R103, R129, R151, R166, R177): the head with no filtered level, no run and no time running, the receive buffer
empty and the receiver to be WAITING when it is connected, no operator line active, and every output as it starts. -/
structure AtStart (t : State) : Prop where
  phase : t.phase = .configRead ∧ t.selfTest = none ∧ t.silenceOver = false ∧ t.lockdown = false
  time : t.now = 0 ∧ t.stationTime = 0
  tables : t.config = none ∧ t.slots = [] ∧ t.peers = []
  head : t.head.state = .starting ∧ t.head.a.spikes = 0 ∧ t.head.b.spikes = 0 ∧ t.head.a.lastSpike = none ∧
    t.head.b.lastSpike = none ∧ t.head.recoverFrom = none
  inputs : t.head.a.filtered = none ∧ t.head.b.filtered = none ∧ t.head.a.diffFrom = none ∧ t.head.b.diffFrom = none ∧
    t.head.a.quietSince = none ∧ t.head.b.quietSince = none ∧ t.head.healthA.lowFrom = none ∧
    t.head.healthB.lowFrom = none
  detector : t.detector.state = .idle ∧ t.detector.rocked = false ∧ t.passageTicks = 0 ∧ t.detector.trail = none
  totals : t.txy = 0 ∧ t.tyx = 0
  line : t.line.connected = false ∧ t.line.telegramSlot = false ∧ t.line.answerSlot = none ∧ t.line.service = none ∧
    t.line.transmitter = .noService ∧ t.line.attempt = 0 ∧ t.line.consecutiveDrops = 0 ∧ t.line.lineFault = false ∧
    t.line.framesGood = 0 ∧ t.line.framesBad = 0 ∧ t.line.collisions = 0 ∧ t.line.dropped = 0
  receiver : t.line.receiver.state = .waiting ∧ t.line.receiver.buffer = [] ∧ t.line.receiver.idleSeen = false ∧
    t.line.quietSince = none ∧ t.handed = []
  builder : t.builder.sequence = 0 ∧ t.builder.request = false ∧ t.builder.spacingSince = none ∧
    t.builder.heartbeatSince = none ∧ t.builder.lockdownSince = none
  operator : t.operator.debounced = operatorInactive ∧ t.operator.selection = none ∧ t.operator.demandNumber = 1 ∧
    ∀ line : Fin 4, t.operator.requestSince[line] = none
  lanes : t.lanes.differing = [] ∧ t.lanes.behind = [] ∧ t.lanes.faulty = [] ∧ t.lanes.copy = ⟨t.evaluation⟩ ∧
    t.lanes.time = ⟨0⟩ ∧ t.lanes.periodSince = 0
  pairs : ∀ i : Fin 4, t.outputs.pairs[i].p.level = false ∧ t.outputs.pairs[i].q.level = false ∧
    t.outputs.pairs[i].p.toggling = false ∧ t.outputs.pairs[i].q.toggling = false ∧
    t.outputs.pairs[i].p.mismatches = 0 ∧ t.outputs.pairs[i].q.mismatches = 0
  lamps : ∀ i : Fin 4, t.outputs.lamps[i].pattern = .steady ∧ t.outputs.lamps[i].lit = true
  status : t.outputs.status.high = false ∧ t.outputs.status.since = none ∧ t.outputs.alarm.sounding = false ∧
    t.outputs.alarm.shows = .silent ∧ t.outputs.tickSince = none ∧ t.outputs.watch = 0

/-! ### Changes of slots -/

/-- A slot whose clearing conditions fail: out of CLEARING and CLEAR into OCCUPIED, the confirm timer stopped (R114,
R116). -/
def Slot.unclear (sl : Slot) : Slot :=
  match sl.state with
  | .clearing | .clear => { sl with state := .occupied, confirmSince := none }
  | _ => sl

/-- Two lists of slots differ at most in what a judgement of the clearing conditions moves: the state among the
evaluating states, the confirm timer and the entered flag (R112 to R117). -/
def JudgedOnly (before after : List Slot) : Prop :=
  before.length = after.length ∧ ∀ (i : Nat) (sl sl' : Slot), before[i]? = some sl → after[i]? = some sl' →
    sl' = { sl with state := sl'.state, confirmSince := sl'.confirmSince, entered := sl'.entered } ∧
      (sl.state.evaluating = false → sl' = sl) ∧ sl'.state.evaluating = sl.state.evaluating

/-! ### Views -/

/-- A telegram accepted in RUN outside lockdown, of a peer that the slot uses, that declares no cause on the slot, which is
DISTURBED or AGREEING; `view` is its view of the section. Where the Reset Controller comes first, the view is AGREEING or
absent, so that the Section Evaluator leaves the slot as it finds it then (R88 to R100, R124, R137). -/
structure BringsView (s : State) (tel : Telegram) (order : TakingOrder) (r : PeerRecord) (i : Nat) (sl : Slot)
    (view : Option View) : Prop where
  service : s.line.connected = true ∧ s.phase = .run ∧ s.lockdown = false
  sender : s.peer? tel.sender.toNat = some r ∧ tel.sender.toNat ≠ s.own
  wellFormed : wellFormedTelegram tel = true
  accepted : ¬((r.state = .fresh ∨ r.state = .stale) ∧ r.lastSequence = some tel.sequence)
  noRestart : tel.sequence ≠ 0
  noHeadCause : tel.status ≠ .lockdown ∧ (tel.status = .faulty → r.status = some .faulty)
  noJump : r.state = .unheard ∨ ((tel.txy - r.txy).toNat ≤ 4095 ∧ (tel.tyx - r.tyx).toNat ≤ 4095)
  slot : s.slots[i]? = some sl ∧ (sl.state = .disturbed ∨ sl.state = .agreeing)
  uses : ∃ b ∈ sl.boundary, b.station = tel.sender.toNat
  shown : view = (tel.views.filterMap ViewPart.read).find? (fun v => v.sectionNumber == sl.sectionNumber)
  noMismatch : view = none → r.missing[i]? = some true
  order : order.resetFirst[i]? ≠ some true ∨ ∀ v, view = some v → v.state = .agreeing

/-- A slot as the views of an accepted telegram find it at `w`: recomputed, its settled time started again, if the telegram
changes a held total (R95, R100, R106, R110). -/
def Slot.atViews (w : State) (r : PeerRecord) (tel : Telegram) (sl : Slot) : Slot :=
  if tel.txy = r.txy ∧ tel.tyx = r.tyx then sl else recompute w { sl with settledSince := some w.now }

/-! ### Lockdown -/

/-- Entry to lockdown from `w`: the condition and its record, the passage dropped, the frames abandoned, the Builder's
request cleared but for a first LOCKDOWN telegram, clearing condition 2 failed, and the outputs of lockdown; all else as it
stood (R161), lane Q's time and what it has taken and has still to take apart (R157). A frame being driven is cut off at its
next character boundary (R69), and a line loop test that has not failed ends with the receiver on the line (R46, R50, R61;
notes/assumptions/15.md). -/
structure EntersLockdown (cause : LockdownCause) (w t : State) : Prop where
  rest : t = { w with
    lockdown := true
    lockdownRecord := some { cause := cause, time := w.stationTime }
    reading := false
    selfTest := none
    silenceOver := t.silenceOver
    detector := { w.detector with state := .idle, leadAt := none, heldCount := w.passageTicks, rocked := false }
    slots := w.slots.map Slot.unclear
    builder := { w.builder with request := t.builder.request, heartbeatSince := none, lockdownSince := none }
    line := { w.line with
      connected := t.line.connected, receiver := t.line.receiver
      telegramSlot := t.line.telegramSlot, answerSlot := none, service := t.line.service, attempt := 0,
      transmitter := t.line.transmitter, quietSince := t.line.quietSince }
    outputs := { w.outputs with
      lamps := t.outputs.lamps, status := { high := false, since := none }, alarm := t.outputs.alarm }
    lanes := { w.lanes with
      copy := t.lanes.copy, time := t.lanes.time, behind := t.lanes.behind, events := t.lanes.events,
      differing := t.lanes.differing } }
  joins : w.selfTest = some .lineLoop → w.phase = .selfTest → cause ≠ .selfTestFault →
    t.line.connected = true ∧ t.line.receiver = { w.line.receiver with state := .waiting, idleSeen := false }
  stays : ¬(w.selfTest = some .lineLoop ∧ w.phase = .selfTest ∧ cause ≠ .selfTestFault) →
    t.line.connected = w.line.connected ∧ t.line.receiver = w.line.receiver
  cutOff : ∀ since, w.line.transmitter = .driving since →
    ∃ n, 1 ≤ n ∧ t.line.quietSince = some (since + 2 * n) ∧ (n = 1 ∨ since + 2 * (n - 1) < w.now) ∧
      w.now ≤ since + 2 * n
  answers : t.line.service ≠ some .answer
  telegram : w.phase = .run → t.builder.request = true ∨ t.line.telegramSlot = true
  lamps : ∀ i : Fin 4, t.outputs.lamps[i].pattern = .flashFast
  alarm : t.outputs.alarm.shows = .standing .lockdown

/-! ### The passage automaton -/

/-- What a transition of the automaton does beside its move (R10 to R14). -/
inductive Mark where
  | plain
  | lead
  | trail
  | rocks
  | drawsBack
  | completes
  deriving DecidableEq, Repr

/-- A row of the tables of R10, R12 and R13. -/
structure TableRow where
  state : Automaton
  channel : Channel
  rises : Bool
  next : Automaton
  mark : Mark
  deriving DecidableEq, Repr

/-- The transitions of R10, R12 and R13. -/
def automatonTable : List TableRow :=
  [⟨.idle, .a, true, .x1, .lead⟩, ⟨.idle, .b, true, .y1, .lead⟩,
   ⟨.x1, .a, false, .idle, .drawsBack⟩, ⟨.x1, .b, true, .x2, .trail⟩,
   ⟨.x2, .a, false, .x3, .plain⟩, ⟨.x2, .b, false, .x1, .rocks⟩,
   ⟨.x3, .a, true, .x2, .rocks⟩, ⟨.x3, .b, false, .idle, .completes⟩,
   ⟨.y1, .a, true, .y2, .trail⟩, ⟨.y1, .b, false, .idle, .drawsBack⟩,
   ⟨.y2, .a, false, .y1, .rocks⟩, ⟨.y2, .b, false, .y3, .plain⟩,
   ⟨.y3, .a, false, .idle, .completes⟩, ⟨.y3, .b, true, .y2, .rocks⟩]

/-! ### Passage detection (R8, R9) -/

/-- The filtered levels that a state of the automaton stands for (1.5); UNRESOLVED stands for any. -/
def Automaton.levels : Automaton → Option (Bool × Bool)
  | .idle => some (false, false)
  | .x1 => some (true, false)
  | .x2 => some (true, true)
  | .x3 => some (false, true)
  | .y1 => some (false, true)
  | .y2 => some (true, true)
  | .y3 => some (true, false)
  | .unresolved => none

/-- While the Passage Detector follows the channels, its state stands for the filtered levels; while it does not follow
them it is IDLE; the recovery time has begun only with both levels 0 and both health levels high; and the head is
STARTING before it is sampled (R6, R8, R9). -/
structure DetectorSound (s : State) : Prop where
  levels : s.follows = true → ∀ l, s.detector.state.levels = some l →
    s.head.a.filtered = some l.1 ∧ s.head.b.filtered = some l.2
  sampled : s.follows = true → s.head.a.filtered ≠ none ∧ s.head.b.filtered ≠ none
  idle : s.follows = false → s.detector.state = .idle
  recovery : s.head.recoverFrom ≠ none →
    s.head.a.filtered = some false ∧ s.head.b.filtered = some false ∧
      s.head.healthA.level = some true ∧ s.head.healthB.level = some true
  starting : s.configured = false → s.head.state = .starting

/-! ### Sections -/

/-- The peer has shown the section sound: FRESH, head IDLE, and a stored view of the section that is neither DISTURBED nor
AGREEING (R111, conditions 4 to 6). -/
def ShowsSound (s : State) (sectionNumber station : Nat) : Prop :=
  ∃ r v, s.peer? station = some r ∧ r.state = .fresh ∧ r.status = some .idle ∧
    r.views.find? (fun w => w.sectionNumber == sectionNumber) = some v ∧ v.state ≠ .disturbed ∧ v.state ≠ .agreeing

/-- The six clearing conditions of a slot (R111). -/
structure InputsTrusted (s : State) (sl : Slot) : Prop where
  balance : sl.balance = 0
  phase : s.phase = .run
  lockdown : s.lockdown = false
  head : s.head.state = .counting
  detector : s.detector.state = .idle
  peers : ∀ b ∈ sl.boundary, b.station ≠ s.own → ShowsSound s sl.sectionNumber b.station

/-- Every slot in CLEARING or CLEAR meets the clearing conditions, and the contributions of a CLEAR slot are all zero
(R112 to R116). -/
structure ClearingSound (s : State) : Prop where
  trusted : ∀ sl ∈ s.slots, sl.state = .clearing ∨ sl.state = .clear → InputsTrusted s sl
  zero : ∀ sl ∈ s.slots, sl.state = .clear → ∀ c ∈ sl.contributions, c.inward = 0 ∧ c.outward = 0

/-- A slot that the clearing conditions move when they come to hold: OCCUPIED, or SWEEP with the entered flag (R113,
R117). -/
def Slot.awaits (sl : Slot) : Prop := sl.state = .occupied ∨ (sl.state = .sweep ∧ sl.entered = true)

/-- Between two states a total that the slot uses has changed: one of its boundary points (R110, R114). -/
def UsedTotalChanges (s t : State) (sl : Slot) : Prop :=
  ∃ b ∈ sl.boundary, t.totalsOf b.station ≠ s.totalsOf b.station

/-- Between two states no total of the own point or of a boundary point has changed. -/
def TotalsStay (s t : State) (sl : Slot) : Prop :=
  t.txy = s.txy ∧ t.tyx = s.tyx ∧ ∀ b ∈ sl.boundary, t.totalsOf b.station = s.totalsOf b.station

/-- How a step moves a slot into CLEARING and keeps it there. Where the conditions come to hold, a slot that awaits them is
in CLEARING after the step; only one that has just left CLEAR, or that awaited them with all of them holding, may go on
awaiting them. The confirm timer starts from zero at the entry and at a change of a used total, and else runs on (R113,
R114, R116, R117). -/
structure ClearingStep (s t : State) (sl sl' : Slot) : Prop where
  enters : sl'.awaits → InputsTrusted t sl' → sl.state = .clear ∨ (sl.awaits ∧ InputsTrusted s sl)
  starts : sl.state ≠ .clearing → sl'.state = .clearing → sl'.confirmSince = some t.now ∧ sl'.entered = false
  restarts : sl.state = .clearing → sl'.state = .clearing → UsedTotalChanges s t sl → sl'.confirmSince = some t.now
  runsOn : sl.state = .clearing → sl'.state = .clearing → TotalsStay s t sl → sl'.confirmSince = sl.confirmSince

/-- The contributions, the balance and the range condition of every slot are those of the totals and bases as they stand
(R106, R107); before the pass of the image there are neither totals nor slots (R28, R42). -/
structure BalancesCurrent (s : State) : Prop where
  contributions : ∀ sl ∈ s.slots, sl.contributions = usedContributions s sl
  balance : ∀ sl ∈ s.slots, sl.balance = balanceOf sl.contributions
  range : ∀ sl ∈ s.slots, sl.range = outOfRange s sl
  unconfigured : s.configured = false → s.txy = 0 ∧ s.tyx = 0 ∧ s.slots = [] ∧ s.peers = []

/-- The negative hold runs only in an evaluating state with a negative balance, and outside lockdown, where its run-out
leaves the slot DISTURBED, always then (R109, R118, R126); the entered flag is set only in SWEEP, and there whenever an axle
has entered (R117). -/
structure HoldsSound (s : State) : Prop where
  running : ∀ sl ∈ s.slots, sl.negativeSince ≠ none → sl.state.evaluating = true ∧ sl.balance < 0
  negative : s.lockdown = false → ∀ sl ∈ s.slots, sl.state.evaluating = true → sl.balance < 0 → sl.negativeSince ≠ none
  entered : ∀ sl ∈ s.slots, sl.entered = true → sl.state = .sweep
  swept : ∀ sl ∈ s.slots, sl.state = .sweep → 1 ≤ inwardSum sl.contributions → sl.entered = true

/-- How a step moves the times and the flag of a slot. The negative hold starts from zero, stops or runs on; it starts anew
only with an application, whose linger then starts on the same instant. The settled time starts from zero at a change of a
used total, in every slot state, and else runs on to its run-out. The entered flag stays set in SWEEP but for an application,
and is set only where an axle has entered (R109, R110, R117). -/
structure SlotTimersStep (s t : State) (sl sl' : Slot) : Prop where
  hold : sl'.negativeSince = none ∨ sl'.negativeSince = some t.now ∨ sl'.negativeSince = sl.negativeSince
  holdRunsOn : sl.negativeSince ≠ none → sl'.negativeSince ≠ none → sl'.reset.lingerSince ≠ some t.now →
    sl'.negativeSince = sl.negativeSince
  settledStarts : UsedTotalChanges s t sl → sl'.settledSince = some t.now
  settledRunsOn : TotalsStay s t sl → sl'.settledSince = sl.settledSince ∨
    (sl'.settledSince = none ∧ ∃ i rest, s.pending = .settledTimeExpiry i :: rest)
  enteredStays : sl.state = .sweep → sl.entered = true → sl'.state = .sweep → sl'.reset.lingerSince ≠ some t.now →
    sl'.entered = true
  enteredRises : sl'.entered = true → sl.entered = true ∨ 1 ≤ inwardSum sl'.contributions

/-! ### Outputs -/

/-- No clear pair shows both lines high (R168); every lamp shows the pattern commanded (R171, R172); the status line
toggles just in RUN outside lockdown (R173); the alarm shows the highest standing condition, if one stands (R174, R175). -/
structure OutputsFollow (s : State) : Prop where
  pairs : ∀ i : Fin 4, ¬(s.outputs.pairs[i].p.level = true ∧ s.outputs.pairs[i].q.level = true)
  lamps : ∀ i : Fin 4, s.outputs.lamps[i].pattern = s.lampCommand i
  status : s.outputs.status.since.isSome = s.inService
  statusLow : s.inService = false → s.outputs.status.high = false
  alarm : ∀ c, s.outputs.alarm.shows = .standing c ↔ s.alarmCondition = some c

/-- The event at the front of the queue is a telegram with a view of a section AGREEING: the one event that can take a slot to
another lamp pattern and back (R100, R107, R123, R138). -/
def ShowsAgreeing (s : State) : Prop :=
  ∃ dt tel order rest, s.pending = .countTelegram dt tel order :: rest ∧ ∃ v ∈ tel.views, v.state = 2

/-- The commands on which an active edge of a confirm line is judged (R132). -/
def Confirms : Instr → Prop
  | .debouncedLevelChange .. => True
  | .confirmSweep .. => True
  | .confirmDirect .. => True
  | _ => False

/-- How a step moves the patterns. A pattern newly commanded starts from its first on time; one that stays commanded runs on,
but for the command that steps it; so does a refusal pattern while no condition stands, unless it is asked for again (R171,
R172, R173, R175, R176). A lamp whose slot goes to another pattern and back on one telegram may start its pattern again. -/
structure PatternsRunOn (s t : State) : Prop where
  lampStarts : ∀ i : Fin 4, t.outputs.lamps[i].pattern ≠ s.outputs.lamps[i].pattern →
    t.outputs.lamps[i].lit = (t.outputs.lamps[i].pattern != .off) ∧ t.outputs.lamps[i].since = t.now
  lampRunsOn : ∀ i : Fin 4, t.outputs.lamps[i].pattern = s.outputs.lamps[i].pattern →
    t.outputs.lamps[i] = s.outputs.lamps[i] ∨ s.pending.head? = some (.lampPatternStep i) ∨
      (ShowsAgreeing s ∧ t.outputs.lamps[i].lit = (t.outputs.lamps[i].pattern != .off) ∧
        t.outputs.lamps[i].since = t.now)
  statusStarts : s.outputs.status.since = none → t.outputs.status.since ≠ none →
    t.outputs.status = { high := true, since := some t.now }
  statusRunsOn : s.outputs.status.since ≠ none → t.outputs.status.since ≠ none →
    t.outputs.status = s.outputs.status ∨ s.pending.head? = some .statusLineToggle
  alarmStarts : ∀ c, s.outputs.alarm.shows ≠ .standing c → t.outputs.alarm.shows = .standing c →
    t.outputs.alarm = { shows := .standing c, place := 0, sounding := true, since := t.now }
  alarmRunsOn : ∀ c, s.outputs.alarm.shows = .standing c → t.outputs.alarm.shows = .standing c →
    t.outputs.alarm = s.outputs.alarm ∨ s.pending.head? = some .alarmPatternStep
  refusalStarts : s.outputs.alarm.shows ≠ .refusal → t.outputs.alarm.shows = .refusal →
    t.outputs.alarm = { shows := .refusal, place := 0, sounding := true, since := t.now } ∧
      ∃ c rest, s.pending = c :: rest ∧ Confirms c
  refusalRunsOn : s.outputs.alarm.shows = .refusal → t.alarmCondition = none →
    t.outputs.alarm = s.outputs.alarm ∨ s.pending.head? = some .refusalPatternStep ∨
      (t.outputs.alarm = { shows := .refusal, place := 0, sounding := true, since := t.now } ∧
        ∃ c rest, s.pending = c :: rest ∧ Confirms c)
  silent : s.outputs.alarm.shows = .silent → t.outputs.alarm.shows = .silent → t.outputs.alarm = s.outputs.alarm

/-! ### The lanes -/

/-- Lane Q holds the time and the evaluation of lane P, every bit inverted, or will hold it once it has taken the events it
is behind by, the last of them within 1 ms and in their order; and the comparator holds an item as differing, once, just
when it is compared and lane Q's value is not the exact inverse of lane P's or a fault falsifies it (R157, R158, R159). -/
structure LanesSound (s : State) : Prop where
  time : s.lanes.time = ⟨s.now⟩
  follows : (s.lanes.behind.getLast?.map (·.copy)).getD s.lanes.copy = ⟨s.evaluation⟩
  soon : ∀ e ∈ s.lanes.behind, e.due ≤ s.now + 100
  ordered : (s.lanes.behind.map (·.due)).Pairwise (· ≤ ·)
  differing : ∀ item ∈ s.comparedItems, (∃ d ∈ s.lanes.differing, d.item = item) ↔
    item ∈ s.lanes.faulty ∨ s.lanes.laneQ.inverts s.laneP item = false
  content : (∃ d ∈ s.lanes.differing, d.item = .telegramContent) →
    LaneItem.telegramContent ∈ s.lanes.faulty ∨ s.lanes.laneQ.inverts s.laneP .telegramContent = false
  once : (s.lanes.differing.map (·.item)).Nodup

/-! ### The line -/

/-- A set request flag with the telegram slot empty waits for the spacing timer (R73); a frame is in service just when the
transmitter is at work, only from a filled slot, and only where the manual allows it (R60, R61); the attempt counter stays
below 8 (R67). -/
structure AccessSound (s : State) : Prop where
  request : s.builder.request = true → s.line.telegramSlot = false → s.builder.spacingSince ≠ none
  working : s.line.service = none ↔ s.line.transmitter = .noService
  telegram : s.line.service = some .telegram → s.line.telegramSlot = true
  answer : s.line.service = some .answer → s.line.answerSlot ≠ none
  allowed : s.line.service ≠ none → s.mayServe = true
  waits : s.line.service = none → s.phase = .run → s.line.telegramSlot = false ∧ s.line.answerSlot = none
  attempts : s.line.attempt < 8

/-- A frame has been taken into service: the telegram slot before the answer slot, the attempt counter at 0, and awaiting line
idle unless the line is idle, else in its slot delay from now (R60, R62). -/
structure TakenUp (t : State) : Prop where
  frame : t.line.service = some (if t.line.telegramSlot then .telegram else .answer)
  attempt : t.line.attempt = 0
  idle : (∃ q, t.line.quietSince = some q ∧ q + 8 ≤ t.now) → t.line.transmitter = .slotDelay t.now
  busy : (∀ q, t.line.quietSince = some q → t.now < q + 8) → t.line.transmitter = .awaitIdle

/-! ### Frames handed on -/

/-- The frame that a command takes from those handed on, if it was received (R57, R100, R178); a kind from 1 to 5 is not an
unknown one. -/
def frameTaken : Instr → Option Handed
  | .countTelegram _ tel _ => some (.telegram tel)
  | .statusQuery _ parameter => some (.query 1 parameter)
  | .sectionQuery _ parameter => some (.query 2 parameter)
  | .peersQuery _ parameter => some (.query 3 parameter)
  | .logQuery _ parameter => some (.query 4 parameter)
  | .clearDiag _ parameter => some (.query 5 parameter)
  | .queryOfUnknownKind _ kind parameter =>
    if 1 ≤ kind.toNat ∧ kind.toNat ≤ 5 then none else some (.query kind parameter)
  | _ => none

/-- The receiver is on the line only from SELF_TEST on (R53), and every frame handed on is one that its block takes: a
telegram whose sender is in the Peer Table, and a query in RUN or in lockdown (R57). -/
structure ReceptionSound (s : State) : Prop where
  connected : s.line.connected = true → s.configured = true
  telegrams : ∀ tel, .telegram tel ∈ s.handed → s.line.connected = true ∧ ∃ r, s.peer? tel.sender.toNat = some r
  queries : ∀ kind parameter, .query kind parameter ∈ s.handed →
    s.line.connected = true ∧ (s.phase = .run ∨ s.lockdown = true)

/-- What a step other than a power-on or a restart does to the frames handed on: none is lost. A command takes its own one,
the oldest of several alike; the end of a burst may put one behind them; and with no command waiting the oldest is queued as
the command that takes it (R57). -/
structure HandedStep (s t : State) : Prop where
  taken : ∀ c rest frame, s.pending = c :: rest → frameTaken c = some frame → t.handed = s.handed.erase frame
  joined : ∀ c rest, s.pending = c :: rest → ¬Starts c → frameTaken c = none → t.handed = s.handed ∨
    ∃ dt burst frame, c = .receptionIdle dt burst ∧ t.handed = s.handed ++ [frame]
  raised : s.pending = [] → t.handed = s.handed ∧
    ∀ frame rest, s.handed = frame :: rest → ∃ c, t.pending = [c] ∧ frameTaken c = some frame

/-! ### Ranges of the counters -/

/-- The counters stay in the ranges the manual gives them (R3, R31, R59, R67, R135, R147, R154, R169). -/
structure InRange (s : State) : Prop where
  log : s.log.length ≤ 64
  spikes : s.head.a.spikes ≤ 255 ∧ s.head.b.spikes ≤ 255
  counters : s.line.framesGood ≤ 65535 ∧ s.line.framesBad ≤ 65535 ∧ s.line.collisions ≤ 65535 ∧
    s.line.dropped ≤ 65535 ∧ s.line.consecutiveDrops ≤ 255
  gaps : ∀ r ∈ s.peers, r.gaps ≤ 65535
  demandNumber : 1 ≤ s.operator.demandNumber ∧ s.operator.demandNumber ≤ 15
  slots : ∀ sl ∈ s.slots, sl.record.count ≤ 255 ∧ sl.reset.expiries ≤ 3
  mismatches : ∀ i : Fin 4, s.outputs.pairs[i].p.mismatches ≤ 1 ∧ s.outputs.pairs[i].q.mismatches ≤ 1

/-- What ties a slot's reset state to its state: an agreement set and a window just while AGREEING, with the demand
record; a linger only with its demand record; and a first cause while DISTURBED or AGREEING (R119, R136, R138, R141 to
R146, R156). -/
def ResetSound (s : State) : Prop :=
  ∀ sl ∈ s.slots,
    (sl.state = .agreeing ↔ sl.reset.agreement.isSome = true) ∧
    (sl.state = .agreeing → sl.reset.demand.isSome = true ∧ sl.reset.windowSince.isSome = true) ∧
    (sl.reset.lingerSince.isSome = true →
      sl.reset.demand.isSome = true ∧ sl.state ≠ .disturbed ∧ sl.state ≠ .agreeing) ∧
    (sl.state = .disturbed → sl.reset.demand = none) ∧
    (sl.state = .disturbed ∨ sl.state = .agreeing → sl.record.firstCause.isSome = true)

/-- The Peer Table holds one record a station; a record has a sequence number, a head status and an age just when a
telegram has been accepted for it; and a LOST record shows no missing or foreign view (R44, R87, R92, R98, R99). -/
structure PeersSound (s : State) : Prop where
  stations : (s.peers.map (·.station)).Nodup
  heard : ∀ r ∈ s.peers, r.lastSequence.isSome = (r.state != .unheard) ∧ r.status.isSome = (r.state != .unheard) ∧
    r.acceptedAt.isSome = (r.state != .unheard)
  lost : ∀ r ∈ s.peers, r.state = .lost → true ∉ r.missing ∧ true ∉ r.foreign

end Sys2Proof.Machine
end

