-- ==== Sys2Proof/WellFormed.lean ====
section
/-! DEFINITION. The commands whose operands describe something that can reach the part. A meaning is total and does not
rely on it. -/

namespace Sys2Proof

/-- The characters a view fills in a telegram body (11.2). -/
def ViewPart.length (v : ViewPart) : Nat := if v.demand.isSome then 12 else 6

/-- The characters a count telegram fills: 14 and its views, and at least one more for a view that is not whole (11.2). -/
def Telegram.length (t : Telegram) : Nat :=
  14 + (t.views.map ViewPart.length).sum + if t.partialView then 1 else 0

/-- A frame's body holds at most 64 characters (R56, 11.2). -/
def Telegram.fits (t : Telegram) : Bool := decide (t.length ≤ 64)

/-- A station number of a peer (R38). -/
def isStation (n : Nat) : Bool := decide (1 ≤ n ∧ n ≤ 30)

/-- The operands of a command describe something that can reach the part: forty readings of the read-back test (R46), a
filtered change of at least one channel (R2), a telegram that fits a frame (R56), a character of a frame of at most 68
(R65, 11.2), characters that begin with a start bit at the driven level (R53) and follow one another with less than 40 microseconds of
quiet (R55), a peer's station number
(R44), a query kind other than the five (R178). -/
def Instr.wellFormed : Instr → Bool
  | .powerOn _ => true
  | .restart => true
  | .restartRelease _ => true
  | .configReadEnd _ _ _ => true
  | .lineLoopTest _ _ => true
  | .laneTest _ => true
  | .readBackTest readings => readings.length == 40
  | .silenceEnd => true
  | .stationTimeWrap => true
  | .filteredChange _ a b => a || b
  | .spike _ _ => true
  | .spikeQuietExpiry _ => true
  | .headFault _ => true
  | .headRecovery => true
  | .receptionIdle _ burst => burst.all fun c => decide (c.gap < 4) && c.bits.start == .driven
  | .countTelegram _ t _ => t.fits
  | .statusQuery _ _ => true
  | .sectionQuery _ _ => true
  | .peersQuery _ _ => true
  | .logQuery _ _ => true
  | .clearDiag _ _ => true
  | .lineIdle => true
  | .deferral _ => true
  | .lineWin _ => true
  | .collision n => decide (1 ≤ n ∧ n ≤ 68)
  | .attemptCompletion => true
  | .spacingEnd => true
  | .heartbeatExpiry => true
  | .lockdownTelegramTimer => true
  | .peerStale n => isStation n
  | .peerLost n => isStation n
  | .negativeBalance _ => true
  | .settledTimeExpiry _ => true
  | .confirmExpiry _ => true
  | .debouncedLevelChange _ _ => true
  | .confirmSweep _ _ => true
  | .confirmDirect _ _ => true
  | .selection _ => true
  | .selectionTimeout => true
  | .windowExpiry _ => true
  | .lingerEnd _ => true
  | .coolDownEnd _ => true
  | .laneMismatch _ => true
  | .clockCheckPeriodEnd _ => true
  | .halfPeriodTick _ => true
  | .tickWatchExpiry => true
  | .lampPatternStep _ => true
  | .statusLineToggle => true
  | .alarmPatternStep => true
  | .refusalPatternStep => true
  | .healthLevelChange _ _ _ => true
  | .queryOfUnknownKind _ kind _ => decide (kind.toNat < 1) || decide (5 < kind.toNat)

end Sys2Proof
end

