-- ==== Sys2Proof/Certificates/Slice0/Obligations.lean ====
section
/-! DEFINITION. The statements about the part, for the provers. -/

open Sys2Proof Sys2Proof.Machine

/-! ### The queue and the part's own clock -/

/-- A step takes the command at the front of the queue, and its effect falls on the state with the queue's rest. -/
def Obligations.StepTakesTheFrontCommand : Prop :=
  ∀ (c : Instr) (rest : List Instr) (s : State),
    step { s with pending := c :: rest } = exec c { s with pending := rest }

/-- With no command waiting the part runs on its own clock, which is the model's choice (notes/assumptions/5.md and 12.md):
the oldest frame handed on, a query or a telegram, is queued as its command; of its timers the only one that has run out is
queued as its command, or, on the tick it runs out with the samples of that tick still to be taken, these may come first,
and do come first where the event turns on them: a low run that the sample ends with a high level before it reaches 20 ms
(R7), and the recovery time reaching 2000 ms on a sample with a low health level or a spike (R8); a head fault with the
sample low may come before or after it (R19). With none the samples are taken, and else one tick of 10 microseconds passes,
which each lane counts, and in which lane Q takes what falls due. -/
def Obligations.IdleStepRaisesTheNextEvent : Prop :=
  (∀ (s : State) (kind parameter : Byte) (rest : List Handed), s.pending = [] → s.handed = .query kind parameter :: rest →
    step s = .next { s with
      freeUses := s.freeUses + 1
      pending := [if kind = 1 then .statusQuery 0 parameter else if kind = 2 then .sectionQuery 0 parameter
        else if kind = 3 then .peersQuery 0 parameter else if kind = 4 then .logQuery 0 parameter
        else if kind = 5 then .clearDiag 0 parameter else .queryOfUnknownKind 0 kind parameter] }) ∧
  (∀ (s : State) (tel : Telegram) (rest : List Handed), s.pending = [] → s.handed = .telegram tel :: rest →
    ∃ order, step s = .next { s with freeUses := s.freeUses + 1, pending := [.countTelegram 0 tel order] }) ∧
  (∀ (s : State) (e : TimedEvent), s.pending = [] → s.handed = [] →
    (timedEvents s).filter (fun f => decide (f.due ≤ s.now)) = [e] →
    (s.sampleDue = false → step s = .next { s with pending := [e.event] }) ∧
    (s.sampleDue = true → e.due < s.now →
      step s = .next { s with freeUses := s.freeUses + 1, pending := [e.event] }) ∧
    (s.sampleDue = true → e.due = s.now → ∀ turns : Prop,
      (turns ↔ (e.event = .headFault .a ∧ s.pins.head.hha = true) ∨ (e.event = .headFault .b ∧ s.pins.head.hhb = true) ∨
        (e.event = .headRecovery ∧
        (s.pins.head.hha = false ∨ s.pins.head.hhb = false ∨
          (s.head.a.filtered = some s.pins.head.hca ∧ s.head.a.diffFrom ≠ none) ∨
          (s.head.b.filtered = some s.pins.head.hcb ∧ s.head.b.diffFrom ≠ none)))) →
      (turns → step s = .next (sample s)) ∧
      (¬turns → step s = .next { s with freeUses := s.freeUses + 1, pending := [e.event] } ∨
        step s = .next (sample { s with freeUses := s.freeUses + 1 })))) ∧
  (∀ s : State, s.pending = [] → s.handed = [] → (∀ e ∈ timedEvents s, s.now < e.due) →
    (s.sampleDue = true → step s = .next (sample s)) ∧
    (s.sampleDue = false → ∃ t, step s = .next t ∧
      (s.lanes.behind = [] → t.lanes = { s.lanes with time := ⟨s.lanes.time.value + 1⟩ }) ∧
      t = { s with
        now := s.now + 1, sampleDue := true
        lanes := { s.lanes with
          time := ⟨s.lanes.time.value + 1⟩, copy := t.lanes.copy, behind := t.lanes.behind, differing := t.lanes.differing } }))

/-- What one sample brings when the part takes it on its own clock, which is the model's choice (notes/assumptions/5.md).
Head: each channel follows the input filter's table (1.2): an equal sample without a run changes nothing, an equal sample
after a run is a spike, a differing one lengthens the run, and the one that makes it N, 20, 40 or 80 by the filter code, is
a filtered change, both channels' changes being one event; a health level that changed is an event. Operator lines, every
10 ms from the pass, the first time 10 ms after it (the phase is the model's: notes/assumptions/36.md): a line's debounced
level changes on the fifth sample in a row that differs, and an equal one ends the run. Restart line, in every start phase: RESTART on the tenth active sample in a row, once in an activation, and its release.
The events of one sample come in an order that is free, and lane Q takes what a sample does to a run within 1 ms. -/
def Obligations.SamplesFollowTheFilterTable : Prop :=
  (∀ (s : State) (k : StationConfig) (a b : Bool) (n : Nat),
    s.pending = [] → s.handed = [] → s.sampleDue = true → (∀ e ∈ timedEvents s, s.now < e.due) →
    s.configured = true → s.config = some k →
    (k.filterCode = 0 ∧ n = 20 ∨ k.filterCode = 1 ∧ n = 40 ∨ k.filterCode = 2 ∧ n = 80) →
    s.pins.restart = false → s.restartHeld = false → (s.now - s.passAt) % 1000 ≠ 0 →
    s.head.a.filtered = some a → s.head.b.filtered = some b →
    ∀ runA runB, runA = (match s.head.a.diffFrom with | some first => s.now - first | none => 0) →
    runB = (match s.head.b.diffFrom with | some first => s.now - first | none => 0) →
    ∃ t, step s = .next t ∧
      t.pending.Perm
        ((if (s.pins.head.hca ≠ a ∧ n ≤ runA + 1) ∨ (s.pins.head.hcb ≠ b ∧ n ≤ runB + 1) then
            [.filteredChange 0 (decide (s.pins.head.hca ≠ a ∧ n ≤ runA + 1))
              (decide (s.pins.head.hcb ≠ b ∧ n ≤ runB + 1))] else []) ++
          (if s.pins.head.hca = a ∧ s.head.a.diffFrom ≠ none then [.spike 0 .a] else []) ++
          (if s.pins.head.hcb = b ∧ s.head.b.diffFrom ≠ none then [.spike 0 .b] else []) ++
          (if s.head.healthA.level = some s.pins.head.hha then [] else [.healthLevelChange 0 .a s.pins.head.hha]) ++
          (if s.head.healthB.level = some s.pins.head.hhb then [] else [.healthLevelChange 0 .b s.pins.head.hhb])) ∧
      t = { s with
        sampleDue := false, restartFrom := none, pending := t.pending
        freeUses := if t.pending.length ≤ 1 then s.freeUses else s.freeUses + 1
        lanes := { s.lanes with behind := t.lanes.behind, events := t.lanes.events }
        head := { s.head with
          a := { s.head.a with
            diffFrom := if s.pins.head.hca ≠ a ∧ s.head.a.diffFrom = none then some s.now else s.head.a.diffFrom }
          b := { s.head.b with
            diffFrom := if s.pins.head.hcb ≠ b ∧ s.head.b.diffFrom = none then some s.now else s.head.b.diffFrom } } }) ∧
  (∀ s : State, s.pending = [] → s.handed = [] → s.sampleDue = true → (∀ e ∈ timedEvents s, s.now < e.due) →
    s.configured = true → s.pins.restart = false → s.restartHeld = false →
    s.passAt < s.now → (s.now - s.passAt) % 1000 = 0 →
    s.head.a.filtered = some s.pins.head.hca → s.head.a.diffFrom = none →
    s.head.b.filtered = some s.pins.head.hcb → s.head.b.diffFrom = none →
    s.head.healthA.level = some s.pins.head.hha → s.head.healthB.level = some s.pins.head.hhb →
    ∃ t levels, step s = .next t ∧
      (∀ (level : OperatorLevels → Bool) (run : OperatorRuns → Nat),
        (level, run) ∈ ([(OperatorLevels.rq1, OperatorRuns.rq1), (OperatorLevels.rq2, OperatorRuns.rq2),
          (OperatorLevels.rq3, OperatorRuns.rq3), (OperatorLevels.rq4, OperatorRuns.rq4),
          (OperatorLevels.cfs, OperatorRuns.cfs), (OperatorLevels.cfd, OperatorRuns.cfd)] :
          List ((OperatorLevels → Bool) × (OperatorRuns → Nat))) →
        level levels = (if 4 ≤ run s.operator.runs then level s.pins.operator else level s.operator.debounced) ∧
        run t.operator.runs = (if level s.pins.operator = level s.operator.debounced ∨ 4 ≤ run s.operator.runs then 0
          else run s.operator.runs + 1)) ∧
      t = { s with
        sampleDue := false, restartFrom := none, operator := { s.operator with runs := t.operator.runs }
        lanes := { s.lanes with behind := t.lanes.behind, events := t.lanes.events }
        pending := if levels = s.operator.debounced then [] else [.debouncedLevelChange 0 levels] }) ∧
  (∀ s : State, s.pending = [] → s.handed = [] → s.sampleDue = true → (∀ e ∈ timedEvents s, s.now < e.due) →
    (s.configured = false ∨
      ((s.now - s.passAt) % 1000 ≠ 0 ∧
        s.head.a.filtered = some s.pins.head.hca ∧ s.head.a.diffFrom = none ∧
        s.head.b.filtered = some s.pins.head.hcb ∧ s.head.b.diffFrom = none ∧
        s.head.healthA.level = some s.pins.head.hha ∧ s.head.healthB.level = some s.pins.head.hhb)) →
    ∃ t, step s = .next t ∧
      (∀ first, s.pins.restart = true → first = s.restartFrom.getD s.now →
        t = { s with
          sampleDue := false, restartFrom := some first
          lanes := { s.lanes with behind := t.lanes.behind, events := t.lanes.events }
          pending := if s.restartHeld = false ∧ 9 ≤ s.now - first then [.restart] else [] }) ∧
      (s.pins.restart = false →
        t = { s with
          sampleDue := false, restartFrom := none
          lanes := { s.lanes with behind := t.lanes.behind, events := t.lanes.events }
          pending := if s.restartHeld = true then [.restartRelease 0] else [] }))

/-! ### Power-on, restart and the start phases -/

/-- Power-on puts every block at its start value, the log empty and the lockdown record absent; the memory is read at once
unless the restart line is active.
That a line active at power-on counts as an activation already taken is the model's choice (notes/assumptions/31.md). -/
def Obligations.PowerOnStartsAfresh : Prop :=
  ∀ (active : Bool) (s : State), ∃ t, exec (.powerOn active) s = .next t ∧ AtStart t ∧ t.log = [] ∧
    t.lockdownRecord = none ∧ t.reading = !active ∧ t.restartHeld = active ∧ t.pending = s.pending

/-- A restart puts every block at its start value but for the log, which keeps its newest 63 entries and takes a restart
mark with station time 0, and the lockdown record, which is kept; it is taken once in an activation of the line; and
reading begins when the line is released. -/
def Obligations.RestartKeepsLogAndRecord : Prop :=
  (∀ s : State, s.restartHeld = false → ∃ t, exec .restart s = .next t ∧ AtStart t ∧
    t.log = (if s.log.length < 64 then s.log else s.log.drop (s.log.length - 63)) ++
      [{ kind := .restartMark, time := 0, speed := none, rocked := false }] ∧
    t.lockdownRecord = s.lockdownRecord ∧ t.reading = false ∧ t.restartHeld = true ∧ t.pending = s.pending) ∧
  (∀ s : State, s.restartHeld = true → exec .restart s = .next s) ∧
  (∀ (dt : Nat) (s : State), s.restartHeld = true → s.phase = .configRead → s.lockdown = false →
    ∃ t, exec (.restartRelease dt) s = .next t ∧
      Ends { s with
        now := s.now + dt, restartHeld := false, restartFrom := none, reading := true
        pins := { s.pins with restart := false } } t)

/-- Where the image's fields stand, and when it passes. Reading begins at the start of the memory, and what does not answer
reads as bytes with every bit set. The length cannot be determined, and the image fails, just when the slot count lies above
4 or a boundary count outside 2 to 8. Else byte 0 is the format code, 1 the station, 2 the filter code, 3 and 4 the spacing, 5
the slot count; a slot's first bytes are the side, the direct flag and the upper section bits, the lower section bits and the
boundary count, with a byte for each entry after them, its side and its station; and the CRC over every byte before it
follows the last. Such an image passes just when all the checks on its fields find no fault: the format code, the CRC, the
ranges, distinct sections, at most two slots on a side, distinct stations in a slot, the own station once and on the slot's
side, and at most 16 peers. -/
def Obligations.ImageChecksDecide : Prop :=
  (∀ (memory : List Byte) (byte start : Nat → Nat), (∀ i, byte i = (memory[i]?.getD 255).toNat) →
    start 0 = 6 → (∀ k, start (k + 1) = start k + 3 + byte (start k + 2)) →
    ((readImage memory = none ↔
      4 < byte 5 ∨ ∃ k, k < byte 5 ∧ (byte (start k + 2) < 2 ∨ 8 < byte (start k + 2))) ∧
    (readImage memory = none → passingImage memory = none) ∧
    ∀ im : Image, readImage memory = some im →
      im.format = byte 0 ∧ im.station = byte 1 ∧ im.filterCode = byte 2 ∧ im.spacing = 256 * byte 3 + byte 4 ∧
      im.slots.length = byte 5 ∧
      (im.crcMatches = true ↔
        (crc16 ((List.range (start (byte 5))).map fun i => memory[i]?.getD 255)).toNat =
          256 * byte (start (byte 5)) + byte (start (byte 5) + 1)) ∧
      ∀ (k : Nat) (sl : ImageSlot), im.slots[k]? = some sl →
        sl.sectionNumber = byte (start k) % 64 * 256 + byte (start k + 1) ∧
        (sl.side = .y ↔ 128 ≤ byte (start k)) ∧ (sl.direct = true ↔ 64 ≤ byte (start k) % 128) ∧
        sl.entries.length = byte (start k + 2) ∧
        ∀ (j : Nat) (e : Nat × Side), sl.entries[j]? = some e →
          e.1 = byte (start k + 3 + j) % 128 ∧ (e.2 = .y ↔ 128 ≤ byte (start k + 3 + j)))) ∧
  ∀ (memory : List Byte) (im : Image), readImage memory = some im →
    (passingImage memory = some im ↔
      im.format = 21 ∧ im.crcMatches = true ∧
      (1 ≤ im.station ∧ im.station ≤ 30) ∧ im.filterCode ≤ 2 ∧ (80 ≤ im.spacing ∧ im.spacing ≤ 400) ∧
      (∀ sl ∈ im.slots, 1 ≤ sl.sectionNumber ∧ sl.sectionNumber ≤ 1023) ∧
      (∀ sl ∈ im.slots, ∀ e ∈ sl.entries, 1 ≤ e.1 ∧ e.1 ≤ 30) ∧
      (im.slots.map (·.sectionNumber)).Nodup ∧
      (∀ side : Side, (im.slots.filter (fun sl => sl.side == side)).length ≤ 2) ∧
      (∀ sl ∈ im.slots, (sl.entries.map (·.1)).Nodup) ∧
      (∀ sl ∈ im.slots, sl.entries.filter (fun e => e.1 == im.station) = [(im.station, sl.side)]) ∧
      ((List.range 31).filter fun n =>
        n != im.station && im.slots.any (fun sl => sl.entries.any (fun e => e.1 == n))).length ≤ 16)

/-- The verdict on the image: a passing one is frozen as the configuration, one slot for each of its slots and one record
for each peer station, in ascending order of the stations, are built, and the station enters SELF_TEST with the first head sample; any other halts the
station.
The bytes of the memory and the instant of the verdict are operands (notes/assumptions/20.md). -/
def Obligations.ImageVerdictIsTaken : Prop :=
  (∀ (dt : Nat) (memory : List Byte) (first : HeadLevels) (s : State) (im : Image),
    s.reading = true → s.phase = .configRead → s.lockdown = false → passingImage memory = some im →
    ∃ t, exec (.configReadEnd dt memory first) s = .next t ∧
      Ends { s with
        now := s.now + dt, phase := .selfTest, reading := false, selfTest := some .lineLoop, selfTestSince := s.now + dt,
        config := some { station := im.station, filterCode := im.filterCode, spacing := im.spacing },
        passAt := s.now + dt, slots := t.slots, peers := t.peers, head := t.head
        pins := { s.pins with head := first } } t ∧
      t.head.a.filtered = some first.hca ∧ t.head.b.filtered = some first.hcb ∧ t.head.a.diffFrom = none ∧
      t.head.b.diffFrom = none ∧ t.head.healthA.level = some first.hha ∧ t.head.healthB.level = some first.hhb ∧
      t.head.state = s.head.state ∧
      t.slots.length = im.slots.length ∧
      (∀ (i : Nat) (sl : Slot) (e : ImageSlot), t.slots[i]? = some sl → im.slots[i]? = some e →
        sl.sectionNumber = e.sectionNumber ∧ sl.side = e.side ∧ sl.direct = e.direct ∧
        sl.boundary = e.entries.map (fun x => { station := x.1, side := x.2, inBase := 0, outBase := 0 }) ∧
        sl.state = .disturbed ∧ sl.balance = 0 ∧ sl.reset.demand = none ∧ sl.reset.outcome = .none ∧
        sl.record = { firstCause := some .startup, firstTime := some t.stationTime, firstStation := some im.station,
                      further := false, lastFurther := none, count := 1 }) ∧
      (∀ n : Nat, (∃ r ∈ t.peers, r.station = n) ↔
        n ≠ im.station ∧ ∃ e ∈ im.slots, ∃ x ∈ e.entries, x.1 = n) ∧
      (t.peers.map (·.station)).Pairwise (· < ·) ∧
      (∀ r ∈ t.peers, r.state = .unheard ∧ r.lastSequence = none ∧ r.txy = 0 ∧ r.tyx = 0 ∧ r.status = none ∧
        r.gaps = 0 ∧ r.views = [])) ∧
  (∀ (dt : Nat) (memory : List Byte) (first : HeadLevels) (s : State),
    s.reading = true → s.phase = .configRead → s.lockdown = false → passingImage memory = none →
    ∃ t, exec (.configReadEnd dt memory first) s = .next t ∧
      Ends { s with now := s.now + dt, phase := .configHalt, reading := false } t)

/-- The three self-tests follow one another when they pass: the line loop, ending within 2 ms of its start, connects the
receiver and leads to the lane test, this to the read-back test, and this to SILENCE, or with the station time at 5000 to
RUN.
That the read-back test ends 10 ms after the lane test is read from the start-up sequence (notes/assumptions/10.md). -/
def Obligations.SelfTestsPass : Prop :=
  (∀ (dt : Nat) (r : LoopResult) (s : State), s.selfTest = some .lineLoop → s.phase = .selfTest → s.lockdown = false →
    r.charactersMatch = true → r.frameGood = true → r.ticks ≤ 200 → s.now + dt ≤ s.selfTestSince + 200 →
    ∃ t, exec (.lineLoopTest dt r) s = .next t ∧
      Ends { s with
        now := s.now + dt, selfTest := some .lane, selfTestSince := s.now + dt
        line := { s.line with
          connected := true, quietSince := some (s.now + dt)
          receiver := { s.line.receiver with state := .waiting, idleSeen := false } } } t) ∧
  (∀ s : State, s.selfTest = some .lane → s.phase = .selfTest → s.lockdown = false →
    ∃ t, exec (.laneTest true) s = .next t ∧
      Ends { s with
        now := max s.now (s.selfTestSince + 1000), selfTest := some .readBack
        selfTestSince := max s.now (s.selfTestSince + 1000) } t) ∧
  (∀ s : State, s.selfTest = some .readBack → s.phase = .selfTest → s.lockdown = false →
    ∃ t, exec (.readBackTest (List.replicate 40 false)) s = .next t ∧
      t.now = max s.now (s.selfTestSince + 1000) ∧ t.selfTest = none ∧ t.lockdown = false ∧
      t.phase = (if t.now < 500000 then .silence else .run) ∧ t.outputs.tickSince = some t.now ∧ t.outputs.watch = 0 ∧
      t.outputs.pairs = s.outputs.pairs ∧ t.txy = s.txy ∧ t.tyx = s.tyx ∧ t.head = s.head ∧ t.detector = s.detector ∧
      t.log = s.log ∧ t.peers = s.peers ∧ t.lockdownRecord = s.lockdownRecord ∧ JudgedOnly s.slots t.slots)

/-- A failed self-test enters lockdown with SELF_TEST_FAULT and ends the tests: a loop test with a character that differs,
a bad frame or more than 2 ms, for the frame or since the test began; a lane test that disagrees; a read-back test whose
forty readings are not all low. After a failed loop test the receiver stays as it was, off the line.
That a failing lane or read-back test is declared at the end of its 10 ms is the model's choice (notes/assumptions/40.md); the
end of the read-back test is that of notes/assumptions/10.md. -/
def Obligations.SelfTestsFail : Prop :=
  (∀ (dt : Nat) (r : LoopResult) (s : State), s.selfTest = some .lineLoop → s.phase = .selfTest → s.lockdown = false →
    (r.charactersMatch = false ∨ r.frameGood = false ∨ 200 < r.ticks ∨ s.selfTestSince + 200 < s.now + dt) →
    ∃ t, exec (.lineLoopTest dt r) s = .next t ∧ EntersLockdown .selfTestFault { s with now := s.now + dt } t) ∧
  (∀ s : State, s.selfTest = some .lane → s.phase = .selfTest → s.lockdown = false →
    ∃ t, exec (.laneTest false) s = .next t ∧
      EntersLockdown .selfTestFault { s with now := max s.now (s.selfTestSince + 1000) } t) ∧
  (∀ (readings : List Bool) (s : State), s.selfTest = some .readBack → s.phase = .selfTest → s.lockdown = false →
    readings ≠ List.replicate 40 false →
    ∃ t, exec (.readBackTest readings) s = .next t ∧
      EntersLockdown .selfTestFault { s with now := max s.now (s.selfTestSince + 1000) } t)

/-- The station time reaching 5000 ends SILENCE: the station enters RUN, the first telegram is requested and, with an empty
slot, no spacing time and no frame in service, taken into service; the status line goes high. A station locked down in
SELF_TEST or SILENCE requests its first LOCKDOWN telegram instead, and keeps its phase. -/
def Obligations.SilenceEnds : Prop :=
  (∀ s : State, s.silenceOver = false → s.phase = .silence → s.lockdown = false →
    s.builder.spacingSince = none → s.line.telegramSlot = false → s.line.service = none →
    ∃ t, exec .silenceEnd s = .next t ∧ t.now = max s.now 500000 ∧ t.phase = .run ∧ t.silenceOver = true ∧
      t.builder = { s.builder with request := false } ∧
      t.line = { s.line with
        telegramSlot := true, service := some .telegram, attempt := 0, transmitter := t.line.transmitter } ∧
      t.outputs.pairs = s.outputs.pairs ∧ (s.outputs.status.since = none → t.outputs.status.high = true) ∧
      t.head = s.head ∧ t.detector = s.detector ∧ t.txy = s.txy ∧ t.tyx = s.tyx ∧ t.log = s.log ∧ t.peers = s.peers ∧
      JudgedOnly s.slots t.slots) ∧
  (∀ s : State, s.silenceOver = false → (s.phase = .selfTest ∨ s.phase = .silence) → s.lockdown = true →
    ∃ t, exec .silenceEnd s = .next t ∧ (t.builder.request = true ∨ t.line.telegramSlot = true) ∧
      Ends { s with now := max s.now 500000, silenceOver := true } t)

/-- The station time passes its highest value and is 0 again, and nothing else follows. -/
def Obligations.StationTimeWraps : Prop :=
  ∀ s : State, ∃ t, exec .stationTimeWrap s = .next t ∧ t.stationTime = 0 ∧ s.now < t.now ∧
    t.now ≤ s.now + 429496729600 ∧ Ends { s with now := t.now } t

/-! ### Head and passage detection -/

/-- The passage automaton moves by its tables: for every row, a change of the row's channel in the row's state, taken with
the head COUNTING outside lockdown, leads to the row's next state, with the stamp or the rocked flag the row marks; a
wheel that draws back, like every transition that ends no passage, counts, logs and declares nothing. -/
def Obligations.AutomatonFollowsItsTables : Prop :=
  ∀ (dt : Nat) (s : State) (row : TableRow), row ∈ automatonTable →
    s.configured = true → s.head.state = .counting → s.lockdown = false → s.detector.state = row.state →
    (s.head.channel row.channel).filtered = some (!row.rises) →
    ∃ t ticks, exec (.filteredChange dt (row.channel == .a) (row.channel == .b)) s = .next t ∧
      s.now + dt ≤ t.now ∧
      ticks = (match s.detector.leadAt with | some lead => min 65535 (t.now - lead) | none => s.detector.heldCount) ∧
      (t.head.channel row.channel).filtered = some row.rises ∧
      t.detector = (match row.mark with
        | .plain => { s.detector with state := row.next }
        | .lead => { s.detector with state := row.next, leadAt := some t.now, trail := none }
        | .trail => { s.detector with state := row.next, trail := some ticks }
        | .rocks => { s.detector with state := row.next, rocked := true }
        | .drawsBack => { s.detector with state := .idle, leadAt := none, heldCount := ticks, rocked := false }
        | .completes => { s.detector with state := .idle, leadAt := none, heldCount := ticks, rocked := false }) ∧
      (row.mark ≠ .completes →
        Ends { s with now := t.now, head := t.head, pins := t.pins, detector := t.detector, slots := t.slots } t ∧
        JudgedOnly s.slots t.slots)

/-- A completed plausible passage is counted and logged: one total advances by one modulo 65536, the log takes an entry with
the station time, the speed and the rocked flag, every slot's settled time starts again, and the demand of an AGREEING slot
is abandoned with its disturbance record unchanged. COUNT_RANGE with the own station disturbs an evaluating slot that the count
takes out of its range; any other evaluating slot goes on evaluating, its disturbance record and reset state unchanged. -/
def Obligations.PlausiblePassageIsCounted : Prop :=
  ∀ (dt skew : Nat) (s : State) (k : StationConfig) (d : Direction),
    s.configured = true → s.head.state = .counting → s.lockdown = false → s.config = some k →
    s.detector.trail = some skew → k.spacing * 3 ≤ 5 * skew →
    (match d with
      | .xy => s.detector.state = .x3 ∧ s.head.a.filtered = some false ∧ s.head.b.filtered = some true
      | .yx => s.detector.state = .y3 ∧ s.head.a.filtered = some true ∧ s.head.b.filtered = some false) →
    ∃ t, exec (.filteredChange dt (d == .yx) (d == .xy)) s = .next t ∧
      (match d with
        | .xy => t.txy = s.txy + 1 ∧ t.tyx = s.tyx
        | .yx => t.tyx = s.tyx + 1 ∧ t.txy = s.txy) ∧
      t.log = (if s.log.length < 64 then s.log else s.log.drop (s.log.length - 63)) ++
        [{ kind := (match d with | .xy => .passageXY | .yx => .passageYX), time := t.stationTime,
           speed := some (min 999 (k.spacing * 360 / skew)), rocked := s.detector.rocked }] ∧
      t.detector.state = .idle ∧ t.detector.rocked = false ∧
      t.slots.length = s.slots.length ∧
      (∀ (i : Nat) (sl sl' : Slot), s.slots[i]? = some sl → t.slots[i]? = some sl' →
        sl'.boundary = sl.boundary ∧ sl'.settledSince = some t.now ∧
        (sl.state = .disturbed → sl'.state = .disturbed ∧ sl'.record = sl.record ∧ sl'.reset = sl.reset) ∧
        (sl.state = .clear → sl'.state = .occupied ∨ sl'.state = .disturbed) ∧
        (sl.state = .agreeing → sl'.state = .disturbed ∧ sl'.record = sl.record ∧
          sl'.reset = { sl.reset with
            demand := none, agreement := none, windowSince := none, outcome := .abandonedPassage }) ∧
        (sl.state.evaluating = true → sl.range = false → outOfRange t sl = true →
          sl'.state = .disturbed ∧
          sl'.record = { firstCause := some .countRange, firstTime := some t.stationTime, firstStation := some s.own,
                         further := false, lastFurther := none, count := min 255 (sl.record.count + 1) }) ∧
        (sl.state.evaluating = true → (sl.range = true ∨ outOfRange t sl = false) →
          sl'.state.evaluating = true ∧ sl'.record = sl.record ∧ sl'.reset = sl.reset)) ∧
      Ends { s with
        now := t.now, head := t.head, pins := t.pins, detector := t.detector, txy := t.txy, tyx := t.tyx, log := t.log,
        slots := t.slots } t

/-- A completed passage that is implausible, three times the spacing above five times the skew, is not counted:
PASSAGE_UNRESOLVED reaches every slot, and the log takes an UNRESOLVED entry with the speed computed. -/
def Obligations.ImplausiblePassageDisturbs : Prop :=
  ∀ (dt skew : Nat) (s : State) (k : StationConfig) (d : Direction),
    s.configured = true → s.head.state = .counting → s.lockdown = false → s.config = some k →
    s.detector.trail = some skew → 5 * skew < k.spacing * 3 →
    (match d with
      | .xy => s.detector.state = .x3 ∧ s.head.a.filtered = some false ∧ s.head.b.filtered = some true
      | .yx => s.detector.state = .y3 ∧ s.head.a.filtered = some true ∧ s.head.b.filtered = some false) →
    ∃ t, exec (.filteredChange dt (d == .yx) (d == .xy)) s = .next t ∧
      t.detector.state = .idle ∧ t.detector.rocked = false ∧
      Ends { s with
        now := t.now, head := t.head, pins := t.pins, detector := t.detector
        log := (if s.log.length < 64 then s.log else s.log.drop (s.log.length - 63)) ++
          [{ kind := .unresolved, time := t.stationTime, speed := some (min 999 (k.spacing * 360 / skew)),
             rocked := s.detector.rocked }]
        slots := s.slots.map (disturb .passageUnresolved t.stationTime s.own) } t

/-- A double change takes the automaton from any state to UNRESOLVED, without a stamp and with the rocked flag as it stood,
and a single change in UNRESOLVED that leaves a level at 1 leaves it there, likewise; with both levels 0 after a double
change, as after a single change that brings them to 0 in UNRESOLVED, the automaton is IDLE again on the same sample,
PASSAGE_UNRESOLVED reaches every slot and the log takes an UNRESOLVED entry with speed 0. No total changes. -/
def Obligations.DoubleChangesAreUnresolved : Prop :=
  ∀ (dt : Nat) (s : State) (a b : Bool),
    s.configured = true → s.head.state = .counting → s.lockdown = false →
    s.head.a.filtered = some a → s.head.b.filtered = some b →
    ((a && b) = false →
      ∃ t, exec (.filteredChange dt true true) s = .next t ∧
        Ends { s with
          now := t.now, head := t.head, pins := t.pins, detector := { s.detector with state := .unresolved }
          slots := s.slots.map Slot.unclear } t) ∧
    (∀ changedA changedB : Bool, (changedA != changedB) = true → s.detector.state = .unresolved →
      ((a != changedA) || (b != changedB)) = true →
      ∃ t, exec (.filteredChange dt changedA changedB) s = .next t ∧
        Ends { s with now := t.now, head := t.head, pins := t.pins, slots := s.slots.map Slot.unclear } t) ∧
    (∀ changedA changedB : Bool, (changedA || changedB) = true → (a != changedA) = false → (b != changedB) = false →
      (changedA = true ∧ changedB = true ∨ s.detector.state = .unresolved) →
      ∃ t, exec (.filteredChange dt changedA changedB) s = .next t ∧
        t.detector.state = .idle ∧ t.detector.rocked = false ∧ t.detector.trail = s.detector.trail ∧
        Ends { s with
          now := t.now, head := t.head, pins := t.pins, detector := t.detector
          log := (if s.log.length < 64 then s.log else s.log.drop (s.log.length - 63)) ++
            [{ kind := .unresolved, time := t.stationTime, speed := some 0, rocked := s.detector.rocked }]
          slots := s.slots.map (disturb .passageUnresolved t.stationTime s.own) } t)

/-- With the head not COUNTING, and in lockdown, a filtered change moves the filtered levels and nothing of the passage
detection: no state of the automaton, no total, no log entry, no slot. With the head STARTING or FAULTY a change that brings all
inputs to rest starts the recovery time, from the next sample if a spike was handed on with this one; one that leaves a level
at 1 sets it back to zero. -/
def Obligations.UnfollowedChangesMoveLevelsOnly : Prop :=
  ∀ (dt : Nat) (a b : Bool) (s : State), s.configured = true → (a || b) = true →
    (s.head.state ≠ .counting ∨ s.lockdown = true) →
    ∃ t, exec (.filteredChange dt a b) s = .next t ∧
      t.head.a = (if a then { s.head.a with filtered := s.head.a.filtered.map (!·), diffFrom := none } else s.head.a) ∧
      t.head.b = (if b then { s.head.b with filtered := s.head.b.filtered.map (!·), diffFrom := none } else s.head.b) ∧
      t.head.state = s.head.state ∧ t.head.healthA = s.head.healthA ∧ t.head.healthB = s.head.healthB ∧
      (∀ rest : Prop, (rest ↔ t.head.a.filtered = some false ∧ t.head.b.filtered = some false ∧
          s.head.healthA.level = some true ∧ s.head.healthB.level = some true) →
        (s.head.state = .counting ∨ ¬rest → t.head.recoverFrom = none) ∧
        (s.head.state ≠ .counting → rest → t.head.recoverFrom = (match s.head.recoverFrom with
          | some first => some first
          | none => some (if s.head.a.quietSince = some t.now ∨ s.head.b.quietSince = some t.now then t.now + 1
              else t.now)))) ∧
      Ends { s with now := t.now, head := t.head, pins := t.pins } t

/-- A spike stamps its channel, restarts its quiet time and interrupts the recovery condition; it raises the spike counter
only with the Passage Detector IDLE; and a counter that rises to 8 with the head not FAULTY takes the head to FAULTY, with
HEAD_INTERFERENCE on every slot outside lockdown. -/
def Obligations.SpikesAreCounted : Prop :=
  ∀ (dt : Nat) (c : Channel) (s : State), s.configured = true →
    ∃ t, exec (.spike dt c) s = .next t ∧ t.now = s.now + dt ∧
      t.head.channel c = { s.head.channel c with
        diffFrom := none, lastSpike := some t.stationTime, quietSince := some t.now
        spikes := if s.detector.state = .idle then min 255 ((s.head.channel c).spikes + 1)
          else (s.head.channel c).spikes } ∧
      (∀ other, other ≠ c → t.head.channel other = s.head.channel other) ∧
      (∀ c', t.head.health c' = s.head.health c') ∧
      (t.head.recoverFrom = none ∨ t.head.recoverFrom = some (t.now + 1)) ∧
      (¬(s.detector.state = .idle ∧ (s.head.channel c).spikes = 7 ∧ s.head.state ≠ .faulty) →
        t.head.state = s.head.state ∧ Ends { s with now := t.now, head := t.head, pins := t.pins } t) ∧
      (s.detector.state = .idle → (s.head.channel c).spikes = 7 → s.head.state ≠ .faulty →
        t.head.state = .faulty ∧
        Ends { s with
          now := t.now, head := t.head, pins := t.pins
          slots := if s.lockdown then s.slots.map Slot.unclear
            else s.slots.map (disturb .headInterference t.stationTime s.own) } t)

/-- R4: a quiet time that reaches 1000 ms returns the spike counter to 0 and stops, leaving the time of the last spike; it
starts again at the next spike; and a STATUS answer carries the counters and the times of both channels. -/
def Obligations.SpikeQuietTime : Prop :=
  (∀ (c : Channel) (since : Tick) (s : State), (s.head.channel c).quietSince = some since →
    ∃ t, exec (.spikeQuietExpiry c) s = .next t ∧
      Ends { s with
        now := max s.now (since + 100000)
        head := match c with
          | .a => { s.head with a := { s.head.a with spikes := 0, quietSince := none } }
          | .b => { s.head with b := { s.head.b with spikes := 0, quietSince := none } } } t) ∧
  (∀ (dt : Nat) (c : Channel) (s : State), s.configured = true →
    ∃ t, exec (.spike dt c) s = .next t ∧ (t.head.channel c).quietSince = some t.now) ∧
  (∀ (dt : Nat) (p : Byte) (s : State), s.line.connected = true → s.phase = .run →
    (∀ since, s.line.transmitter ≠ .driving since) →
    ∃ t body, exec (.statusQuery dt p) s = .next t ∧ t.line.answerSlot = some body ∧
      (body.drop 15).take 2 = [BitVec.ofNat 8 s.head.a.spikes, BitVec.ofNat 8 s.head.b.spikes] ∧
      (body.drop 18).take 8 = chars32 (s.head.a.lastSpike.getD 0) ++ chars32 (s.head.b.lastSpike.getD 0))

/-- A low run of 20 ms takes a STARTING or COUNTING head to FAULTY, drops a passage in progress without a count or log
entry and puts HEAD_FAULT on every slot outside lockdown; a FAULTY head stays as it is. A recovery time of 2000 ms takes
the head to COUNTING and clears no disturbance. A sampled health level starts the low run or sets it to zero; a low one
interrupts the recovery, and a high one that brings all inputs to rest starts it, from the next sample if a spike was handed
on with this one.
Which sample is counted first is read from the start-up sequence (notes/assumptions/17.md). -/
def Obligations.HeadFaultsAndRecovers : Prop :=
  (∀ (c : Channel) (first : Tick) (s : State), s.configured = true → (s.head.health c).lowFrom = some first →
    s.head.state ≠ .faulty →
    ∃ t, exec (.headFault c) s = .next t ∧
      t.head.state = .faulty ∧ t.head.a = s.head.a ∧ t.head.b = s.head.b ∧ t.head.healthA = s.head.healthA ∧
      t.head.healthB = s.head.healthB ∧ t.detector.state = .idle ∧
      (s.detector.state = .idle → t.detector = s.detector) ∧ (s.detector.state ≠ .idle → t.detector.rocked = false) ∧
      Ends { s with
        now := max s.now (first + 1999), head := t.head, detector := t.detector
        slots := if s.lockdown then s.slots.map Slot.unclear
          else s.slots.map (disturb .headFault t.stationTime s.own) } t) ∧
  (∀ (c : Channel) (first : Tick) (s : State), s.configured = true → (s.head.health c).lowFrom = some first →
    s.head.state = .faulty →
    ∃ t, exec (.headFault c) s = .next t ∧ Ends { s with now := max s.now (first + 1999) } t) ∧
  (∀ (first : Tick) (s : State), s.configured = true → s.head.state ≠ .counting → s.head.recoverFrom = some first →
    ∃ t, exec .headRecovery s = .next t ∧ JudgedOnly s.slots t.slots ∧
      Ends { s with
        now := max s.now (first + 199999), head := { s.head with state := .counting, recoverFrom := none }
        slots := t.slots } t) ∧
  (∀ (dt : Nat) (c : Channel) (high : Bool) (s : State), s.configured = true →
    ∃ t, exec (.healthLevelChange dt c high) s = .next t ∧
      t.head.health c = {
        level := some high
        lowFrom := (if high then none else some ((s.head.health c).lowFrom.getD t.now)) } ∧
      (∀ other, other ≠ c → t.head.health other = s.head.health other) ∧
      t.head.a = s.head.a ∧ t.head.b = s.head.b ∧ t.head.state = s.head.state ∧
      (high = false → t.head.recoverFrom = none) ∧
      (high = true → (∀ other, other ≠ c → (s.head.health other).level = some true) → s.head.a.filtered = some false →
        s.head.b.filtered = some false → s.head.state ≠ .counting → s.head.recoverFrom = none →
        t.head.recoverFrom = some (if s.head.a.quietSince = some t.now ∨ s.head.b.quietSince = some t.now
          then t.now + 1 else t.now)) ∧
      Ends { s with now := s.now + dt, head := t.head, pins := t.pins } t)

/-! ### The section line -/

/-- The frame of a count telegram from a peer, received after reception idle with or without pauses in it, is counted as
good and handed on as exactly that telegram; the frame of a query to the own station, in RUN or in lockdown, is handed on
as that query. Every other valid frame but one with the own number that is acted on is counted as good and ignored: a body
without the line mark or of another kind, an answer, what is no whole telegram or query, a telegram of a station without a
record, a query of another sender or to another target, and one outside RUN and lockdown. Frames handed on before stay as
they wait, the new one behind them. Nothing else of the line changes but its counter of good frames, the receiver, the quiet
time, which runs from 40 microseconds before, and a slot delay, which a start bit has ended. A character carries its eight data
bits, the least significant one first.
That frames wait for the commands that take them, in the order they came, is the model's choice (notes/assumptions/12.md). -/
def Obligations.GoodFramesAreHandedOn : Prop :=
  (∀ (dt : Nat) (s : State) (tel : Telegram) (r : PeerRecord) (burst : List LineChar), s.line.connected = true →
    (∀ since, s.line.transmitter ≠ .driving since) → s.line.receiver.state = .waiting → s.line.receiver.idleSeen = true →
    tel.partialView = false → tel.length ≤ 64 → s.peer? tel.sender.toNat = some r → tel.sender.toNat ≠ s.own →
    burst.map (·.bits.value) = frameOf (encodeTelegram tel) → (∀ c ∈ burst, c.bits.stop = .idle) →
    ∃ t, exec (.receptionIdle dt burst) s = .next t ∧
      Ends { s with
        now := s.now + dt, handed := s.handed ++ [.telegram tel]
        line := { s.line with
          framesGood := min 65535 (s.line.framesGood + 1)
          receiver := { s.line.receiver with
            state := .waiting, badFirst := false, overlong := false, framingError := false
            buffer := frameOf (encodeTelegram tel) }
          quietSince := some (s.now + dt - 4)
          transmitter := (match s.line.transmitter with | .slotDelay _ => .awaitIdle | other => other) } } t) ∧
  (∀ (dt : Nat) (s : State) (target kind parameter : Byte) (burst : List LineChar), s.line.connected = true →
    (∀ since, s.line.transmitter ≠ .driving since) → s.line.receiver.state = .waiting → s.line.receiver.idleSeen = true →
    s.configured = true → (s.phase = .run ∨ s.lockdown = true) → target.toNat = s.own → s.own ≠ 31 →
    burst.map (·.bits.value) = frameOf [75, 157, 38, 2, 31, target, kind, parameter] →
    (∀ c ∈ burst, c.bits.stop = .idle) →
    ∃ t, exec (.receptionIdle dt burst) s = .next t ∧
      Ends { s with
        now := s.now + dt, handed := s.handed ++ [.query kind parameter]
        line := { s.line with
          framesGood := min 65535 (s.line.framesGood + 1)
          receiver := { s.line.receiver with
            state := .waiting, badFirst := false, overlong := false, framingError := false
            buffer := frameOf [75, 157, 38, 2, 31, target, kind, parameter] }
          quietSince := some (s.now + dt - 4)
          transmitter := (match s.line.transmitter with | .slotDelay _ => .awaitIdle | other => other) } } t) ∧
  (∀ (dt : Nat) (s : State) (body : List Byte) (burst : List LineChar), s.line.connected = true →
    (∀ since, s.line.transmitter ≠ .driving since) → s.line.receiver.state = .waiting → s.line.receiver.idleSeen = true →
    1 ≤ body.length → body.length ≤ 64 → burst.map (·.bits.value) = frameOf body → (∀ c ∈ burst, c.bits.stop = .idle) →
    (body.take 3 = [75, 157, 38] → ∀ sender, body[4]? = some sender → sender.toNat = s.own →
      s.phase ≠ .silence ∧ s.phase ≠ .run ∧ s.lockdown = false) →
    (body.take 3 ≠ [75, 157, 38] ∨
      (body[3]? ≠ some 1 ∧ body[3]? ≠ some 2) ∨
      (body[3]? = some 1 ∧
        (body.length < 14 ∨ body[5]? ≠ some 0 ∨ (∀ status, body[8]? = some status → status = 0 ∨ 6 ≤ status.toNat) ∨
          (∀ sender, body[4]? = some sender → s.peer? sender.toNat = none) ∨
          ∃ (tel : Telegram) (more : List Byte) (flags : Byte),
            body = encodeTelegram tel ++ more ∧ more[3]? = some flags ∧ 4 ≤ flags.toNat)) ∨
      (body[3]? = some 2 ∧
        (body.length ≠ 8 ∨ body[4]? ≠ some 31 ∨ (∀ target, body[5]? = some target → target.toNat ≠ s.own) ∨
          (s.phase ≠ .run ∧ s.lockdown = false)))) →
    ∃ t, exec (.receptionIdle dt burst) s = .next t ∧
      Ends { s with
        now := s.now + dt
        line := { s.line with
          framesGood := min 65535 (s.line.framesGood + 1)
          receiver := { s.line.receiver with
            state := .waiting, badFirst := false, overlong := false, framingError := false, buffer := frameOf body }
          quietSince := some (s.now + dt - 4)
          transmitter := (match s.line.transmitter with | .slotDelay _ => .awaitIdle | other => other) } } t) ∧
  (∀ (c : LineChar) (i : Fin 8), c.bits.value.getLsbD i = c.bits.data[i])

/-- A burst that is not a whole frame, SYNC, LEN of 1 to 64, as many characters and the CRC over them, or that holds a
character whose stop bit is not at the idle level, is counted as an error and hands nothing on; nothing else of the line
changes but the receiver, the quiet time, which runs from 40 microseconds before, and a slot delay, which a start bit has
ended. -/
def Obligations.BadBurstsAreCounted : Prop :=
  ∀ (dt : Nat) (s : State) (burst : List LineChar), s.line.connected = true →
    (∀ since, s.line.transmitter ≠ .driving since) → s.line.receiver.state = .waiting → s.line.receiver.idleSeen = true →
    burst ≠ [] →
    ((∃ c ∈ burst, c.bits.stop ≠ .idle) ∨
      ∀ body : List Byte, 1 ≤ body.length → body.length ≤ 64 → burst.map (·.bits.value) ≠ frameOf body) →
    ∃ t, exec (.receptionIdle dt burst) s = .next t ∧
      Ends { s with
        now := s.now + dt
        line := { s.line with
          framesBad := min 65535 (s.line.framesBad + 1)
          receiver := { t.line.receiver with state := .waiting, badFirst := false, idleSeen := true }
          quietSince := some (s.now + dt - 4)
          transmitter := (match s.line.transmitter with | .slotDelay _ => .awaitIdle | other => other) } } t

/-- In SILENCE and in RUN a valid frame whose sender field carries the own station number enters lockdown with
DUPLICATE_STATION; it is counted as good and not handed on. In lockdown it is counted and not handed on likewise, and nothing
is recorded. The characters come as the bits that stand for them: a start bit driven, the data with the least significant bit
first, and a stop bit idle. -/
def Obligations.OwnNumberLocksDown : Prop :=
  ∀ (dt : Nat) (s : State) (body : List Byte) (sender : Byte), s.line.connected = true →
    (∀ since, s.line.transmitter ≠ .driving since) → s.line.receiver.state = .waiting → s.line.receiver.idleSeen = true →
    (s.phase = .silence ∨ s.phase = .run ∨ s.lockdown = true) →
    1 ≤ body.length → body.length ≤ 64 → body.take 3 = [75, 157, 38] → body[4]? = some sender → sender.toNat = s.own →
    ∃ t w, exec (.receptionIdle dt ((frameOf body).map fun c =>
        { gap := 0, bits := { start := .driven, data := .ofFn (fun i => c.getLsbD i), stop := .idle } })) s = .next t ∧
      w = { s with
        now := s.now + dt
        line := { s.line with
          framesGood := min 65535 (s.line.framesGood + 1)
          receiver := { s.line.receiver with
            state := .waiting, badFirst := false, overlong := false, framingError := false, buffer := frameOf body }
          quietSince := some (s.now + dt - 4)
          transmitter := (match s.line.transmitter with | .slotDelay _ => .awaitIdle | other => other) } } ∧
      (s.lockdown = false → EntersLockdown .duplicateStation w t) ∧
      (s.lockdown = true → Ends w t ∧ t.lockdownRecord = s.lockdownRecord ∧ t.handed = s.handed ∧ t.slots = s.slots)

/-- Reception idle, 40 microseconds after the last character, returns the receiver to WAITING. Line idle, 80 microseconds
after the last character, starts the slot delay of the frame that awaits it. While a character is on the line neither comes.
A start bit during the slot delay is a deferral: the same frame awaits line idle again with the same attempt counter, and
the collision counter stays; the quiet time is held at zero, and after reception idle the character begins a burst.
A start bit in another wait of the transmitter holds the quiet time at zero as well, so that a frame taken into service then
awaits line idle; that the DEFERRAL command stands for it is the model's choice (notes/assumptions/14.md). -/
def Obligations.AccessWaits : Prop :=
  (∀ (dt : Nat) (s : State), s.line.connected = true → (∀ since, s.line.transmitter ≠ .driving since) →
    (∀ q, s.line.quietSince = some q →
      ∃ t, exec (.receptionIdle dt []) s = .next t ∧ t.now = max (s.now + dt) (q + 4) ∧
        Ends { s with
          now := t.now
          line := { s.line with
            receiver := { s.line.receiver with state := .waiting, badFirst := false, idleSeen := true } } } t) ∧
    (s.line.quietSince = none →
      ∃ t, exec (.receptionIdle dt []) s = .next t ∧ Ends { s with now := s.now + dt } t)) ∧
  (∀ s : State, s.line.connected = true → s.line.transmitter = .awaitIdle → s.line.service ≠ none →
    (∀ q, s.line.quietSince = some q →
      ∃ t, exec .lineIdle s = .next t ∧ t.now = max s.now (q + 8) ∧
        t.line.transmitter = .slotDelay t.now ∧
        Ends { s with now := t.now, line := { s.line with transmitter := .slotDelay t.now } } t) ∧
    (s.line.quietSince = none → exec .lineIdle s = .next s)) ∧
  (∀ (dt : Nat) (s : State), s.line.connected = true →
    (∀ since, s.line.transmitter = .slotDelay since → s.line.service ≠ none →
      ∃ t, exec (.deferral dt) s = .next t ∧ t.line.service = s.line.service ∧ t.line.attempt = s.line.attempt ∧
        t.line.transmitter = .awaitIdle ∧
        (∀ q, s.line.quietSince = some q → q + 4 ≤ s.now + dt →
          t.line.receiver.state = .waiting ∧ t.line.receiver.idleSeen = true) ∧
        Ends { s with
          now := s.now + dt
          line := { s.line with transmitter := .awaitIdle, quietSince := none, receiver := t.line.receiver } } t) ∧
    (s.line.transmitter = .noService ∨ s.line.transmitter = .awaitIdle →
      ∃ t, exec (.deferral dt) s = .next t ∧ (∀ since, t.line.transmitter ≠ .slotDelay since) ∧
        (∀ q, s.line.quietSince = some q → q + 4 ≤ s.now + dt →
          t.line.receiver.state = .waiting ∧ t.line.receiver.idleSeen = true) ∧
        Ends { s with
          now := s.now + dt, line := { s.line with quietSince := none, receiver := t.line.receiver } } t))

/-- At the end of the slot delay, (station + 7 × attempt) mod 32 character times, the station wins the line and drives its
frame: a telegram assembled at that moment from the station's state, or in lockdown a LOCKDOWN telegram, with the next
sequence number; or the answer held. The content of a telegram differs between the lanes after the win just when lane Q's
copy is not the exact inverse, or a fault falsifies it, which the command reports; an answer is not compared. On the line the frame's characters follow one
another at once, each with its start bit driven, its data from the least significant bit on, and its stop bit idle.
That the fault is an operand is the model's choice (notes/assumptions/6.md). -/
def Obligations.FrameIsDrivenAtTheWin : Prop :=
  ∀ (s : State) (since : Tick) (q : Bool) (bits : Byte → CharBits), s.line.transmitter = .slotDelay since →
    (∀ c, bits c = { start := .driven, data := .ofFn (fun i => c.getLsbD i), stop := .idle }) →
    ∀ now, now = max s.now (since + 2 * ((s.own + 7 * s.line.attempt) % 32)) →
    (∀ tel : Telegram, s.line.service = some .telegram →
      tel = (if s.lockdown then
          { sender := BitVec.ofNat 8 s.own, sequence := s.builder.sequence, status := .lockdown, txy := 0, tyx := 0,
            viewCount := 0, views := [], partialView := false }
        else
          { sender := BitVec.ofNat 8 s.own, sequence := s.builder.sequence, status := s.headStatus, txy := s.txy,
            tyx := s.tyx, viewCount := BitVec.ofNat 8 s.slots.length, partialView := false,
            views := s.slots.map fun sl =>
              { sectionNumber := BitVec.ofNat 16 sl.sectionNumber, state := SlotState.code sl.state,
                settled := s.settled sl, balance := BitVec.ofInt 16 sl.balance,
                demand := sl.reset.demand.map fun d =>
                  { originator := BitVec.ofNat 8 d.identity.originator,
                    number := BitVec.ofNat 8 (if d.kind = .sweep then d.identity.number else d.identity.number + 128),
                    baseTxy := d.baseTxy, baseTyx := d.baseTyx } } }) →
      ∃ t, exec (.lineWin q) s = .next t ∧ t.line.transmitter = .driving now ∧
        t.line.drivenBits = (frameOf (encodeTelegram tel)).map bits ∧
        Ends { s with
          now := now
          line := { s.line with
            transmitter := .driving now, quietSince := none
            receiver := { s.line.receiver with state := .skipping, badFirst := false }
            driven := frameOf (encodeTelegram tel) }
          lanes := { s.lanes with
            faulty := s.lanes.faulty.filter (fun i => i != .telegramContent) ++ (if q then [.telegramContent] else []) } }
          t ∧
        ((∃ d ∈ t.lanes.differing, d.item = .telegramContent) ↔
          q = true ∨ t.lanes.laneQ.content ≠ (encodeTelegram tel).map (fun c => ~~~c))) ∧
    (∀ body, s.line.service = some .answer → s.line.answerSlot = some body →
      ∃ t, exec (.lineWin q) s = .next t ∧ t.line.transmitter = .driving now ∧
        t.line.drivenBits = (frameOf body).map bits ∧
        Ends { s with
          now := now
          line := { s.line with
            transmitter := .driving now, quietSince := none, driven := frameOf body
            receiver := { s.line.receiver with state := .skipping, badFirst := false } } } t)

/-- A character read back different is a collision: the driver is released, the collision counter and the attempt counter
rise, and the same frame awaits line idle again. The eighth attempt drops the frame: the drop counters rise, the sequence
number and the timers stay, a dropped telegram outside lockdown is requested again, a dropped answer is lost, and the third
drop in a row starts the line-fault condition with LINE_FAULT on every slot. In lockdown the counters and the condition are
kept likewise, but nothing is declared, and a dropped LOCKDOWN telegram is not requested: the 200 ms to the next one start.
The other slot, the receiver and the counts of frames received stay.
That a character past the end of the frame is taken as its last one is the model's choice (notes/assumptions/3.md). -/
def Obligations.CollisionsAndDrops : Prop :=
  ∀ (n : Nat) (s : State) (since : Tick), s.line.transmitter = .driving since →
    ∀ now, now = max s.now (since + 2 * max 1 (min n s.line.driven.length)) →
    ∀ dropped : Line, dropped = { s.line with
      collisions := min 65535 (s.line.collisions + 1), dropped := min 65535 (s.line.dropped + 1)
      consecutiveDrops := min 255 (s.line.consecutiveDrops + 1)
      lineFault := s.line.lineFault || s.line.consecutiveDrops == 2
      attempt := 0, service := none, transmitter := .noService, quietSince := some now } →
    (s.line.attempt < 7 → s.line.service ≠ none →
      ∃ t, exec (.collision n) s = .next t ∧ t.line.transmitter = .awaitIdle ∧ t.line.service = s.line.service ∧
        Ends { s with
          now := now
          line := { s.line with
            collisions := min 65535 (s.line.collisions + 1), attempt := s.line.attempt + 1, transmitter := .awaitIdle
            quietSince := some now } } t) ∧
    (s.line.attempt = 7 → s.line.service = some .telegram → s.phase = .run → s.lockdown = false →
      ∃ t, exec (.collision n) s = .next t ∧ t.line.attempt = 0 ∧
        (t.builder.request = true ∨ t.line.telegramSlot = true) ∧
        Ends { s with
          now := now, line := { dropped with telegramSlot := false }
          slots := if s.line.consecutiveDrops = 2 then s.slots.map (disturb .lineFault t.stationTime s.own)
            else s.slots } t) ∧
    (s.line.attempt = 7 → s.line.service = some .telegram → s.lockdown = true →
      ∃ t, exec (.collision n) s = .next t ∧ t.line.attempt = 0 ∧
        (s.builder.request = false → t.builder.request = false ∧ t.line.telegramSlot = false) ∧
        Ends { s with
          now := now, line := { dropped with telegramSlot := false }
          builder := { s.builder with lockdownSince := some now } } t) ∧
    (s.line.attempt = 7 → s.line.service = some .answer →
      ∃ t, exec (.collision n) s = .next t ∧ t.line.attempt = 0 ∧
        Ends { s with
          now := now, line := { dropped with answerSlot := none }
          slots := if s.line.consecutiveDrops = 2 ∧ s.lockdown = false
            then s.slots.map (disturb .lineFault t.stationTime s.own) else s.slots } t)

/-- A completed attempt empties its slot and ends the run of drops and the line-fault condition. A completed telegram
advances the sequence number, 65535 being followed by 1, and starts the spacing timer and the heartbeat, or in lockdown the
time to the next LOCKDOWN telegram. The other slot, the receiver and the line's counters stay. -/
def Obligations.AttemptsComplete : Prop :=
  ∀ (s : State) (since : Tick), s.line.transmitter = .driving since →
    ∀ now, now = max s.now (since + 2 * max 1 s.line.driven.length) →
    (s.line.service = some .telegram →
      ∃ t, exec .attemptCompletion s = .next t ∧ t.line.telegramSlot = false ∧ t.line.attempt = 0 ∧
        t.line.service ≠ some .telegram ∧ (s.builder.request = true → t.builder.request = true) ∧
        Ends { s with
          now := now
          line := { s.line with
            telegramSlot := false, service := none, attempt := 0, transmitter := .noService, quietSince := some now
            consecutiveDrops := 0, lineFault := false }
          builder := { s.builder with
            sequence := if s.builder.sequence = 65535 then 1 else s.builder.sequence + 1
            spacingSince := some now
            heartbeatSince := if s.lockdown then none else some now
            lockdownSince := if s.lockdown then some now else none } } t) ∧
    (s.line.service = some .answer →
      ∃ t, exec .attemptCompletion s = .next t ∧ t.line.attempt = 0 ∧
        Ends { s with
          now := now
          line := { s.line with
            answerSlot := none, service := none, attempt := 0, transmitter := .noService, quietSince := some now
            consecutiveDrops := 0, lineFault := false } } t)

/-- The Builder's timers: at 20 ms the spacing timer stops and a held request fills the empty slot; at 200 ms the heartbeat
stops and, in ordinary service, is a reason for a telegram; in lockdown the 200 ms after a LOCKDOWN telegram are the reason
for the next. A reason that comes while a telegram is driven sets the request flag. -/
def Obligations.BuilderTimersRunOut : Prop :=
  (∀ (s : State) (since : Tick), s.builder.spacingSince = some since →
    ∃ t, exec .spacingEnd s = .next t ∧
      (s.builder.request = true → s.line.telegramSlot = false →
        t.builder.request = false ∧ t.line.telegramSlot = true) ∧
      Ends { s with now := max s.now (since + 2000), builder := { s.builder with spacingSince := none } } t) ∧
  (∀ (s : State) (since : Tick), s.builder.heartbeatSince = some since →
    ∃ t, exec .heartbeatExpiry s = .next t ∧
      (s.phase = .run → s.lockdown = false → t.builder.request = true ∨ t.line.telegramSlot = true) ∧
      (∀ won, s.phase = .run → s.lockdown = false → s.line.telegramSlot = true → s.line.service = some .telegram →
        s.line.transmitter = .driving won → t.builder.request = true) ∧
      Ends { s with now := max s.now (since + 20000), builder := { s.builder with heartbeatSince := none } } t) ∧
  (∀ (s : State) (since : Tick), s.lockdown = true → s.builder.lockdownSince = some since →
    ∃ t, exec .lockdownTelegramTimer s = .next t ∧ (t.builder.request = true ∨ t.line.telegramSlot = true) ∧
      (∀ won, s.line.telegramSlot = true → s.line.service = some .telegram → s.line.transmitter = .driving won →
        t.builder.request = true) ∧
      Ends { s with now := max s.now (since + 20000), builder := { s.builder with lockdownSince := none } } t)

/-! ### Peer records -/

/-- An accepted telegram of a peer is taken into its record: FRESH, with its sequence number, its head status, its age at
zero and its views; its totals unless it is a LOCKDOWN telegram; and a gap counted where its number is neither 0 nor the
successor of the last one, on a record heard before. Its missing-view condition stands for the slots using the peer whose
section it carries no view of, and stays as it stood at a LOCKDOWN telegram; its foreign-view condition stands for the slots
not using the peer whose section it carries a view of. No other record changes. A telegram judged a restart makes the last
identities of its sender's demands absent, and any other leaves every last identity, but for one that a slot takes with a
demand of an AGREEING view, in RUN outside lockdown, where it is not that one already. -/
def Obligations.TelegramsAreAccepted : Prop :=
  ∀ (dt : Nat) (s : State) (tel : Telegram) (order : TakingOrder) (r : PeerRecord),
    s.line.connected = true → s.configured = true → s.peer? tel.sender.toNat = some r →
    wellFormedTelegram tel = true →
    ¬((r.state = .fresh ∨ r.state = .stale) ∧ r.lastSequence = some tel.sequence) →
    ∃ t r', exec (.countTelegram dt tel order) s = .next t ∧ t.peer? tel.sender.toNat = some r' ∧
      r'.station = r.station ∧ r'.state = .fresh ∧ r'.lastSequence = some tel.sequence ∧ r'.status = some tel.status ∧
      r'.acceptedAt = some (s.now + dt) ∧ r'.views = tel.views.filterMap ViewPart.read ∧
      (tel.status = .lockdown → r'.txy = r.txy ∧ r'.tyx = r.tyx) ∧
      (tel.status ≠ .lockdown → r'.txy = tel.txy ∧ r'.tyx = tel.tyx) ∧
      r'.gaps = (if r.state ≠ .unheard ∧ tel.sequence ≠ 0 ∧
          r.lastSequence.map (fun n => if n = 65535 then 1 else n + 1) ≠ some tel.sequence
        then min 65535 (r.gaps + 1) else r.gaps) ∧
      (∀ uses carried : Slot → Bool,
        (∀ sl, uses sl = true ↔ tel.sender.toNat ≠ s.own ∧ ∃ b ∈ sl.boundary, b.station = tel.sender.toNat) →
        (∀ sl, carried sl = true ↔ ∃ v ∈ tel.views, v.sectionNumber.toNat = sl.sectionNumber) →
        r'.missing = (if tel.status = .lockdown then r.missing else s.slots.map (fun sl => uses sl && !carried sl)) ∧
        r'.foreign = s.slots.map (fun sl => !uses sl && carried sl)) ∧
      (∀ n, n ≠ tel.sender.toNat → t.peer? n = s.peer? n) ∧
      t.slots.length = s.slots.length ∧
      (∀ (i : Nat) (sl sl' : Slot) (known : Option Identity), s.slots[i]? = some sl → t.slots[i]? = some sl' →
        known = (if r.state ≠ .unheard ∧ tel.sequence = 0 ∧
            sl.reset.lastIdentity.map (·.originator) = some tel.sender.toNat then none else sl.reset.lastIdentity) →
        sl'.reset.lastIdentity = known ∨
        (s.phase = .run ∧ s.lockdown = false ∧ (∃ b ∈ sl.boundary, b.station = tel.sender.toNat) ∧
          ∃ v d, v ∈ tel.views.filterMap ViewPart.read ∧ v.sectionNumber = sl.sectionNumber ∧ v.state = .agreeing ∧
            v.demand = some d ∧ known ≠ some d.identity ∧ sl'.reset.lastIdentity = some d.identity)) ∧
      Ends { s with
        now := s.now + dt, handed := s.handed.erase (.telegram tel), peers := t.peers, slots := t.slots } t

/-- A telegram is well formed just when its view count is at most 4 and the number of its whole views, with nothing left
over, each view's state is one of the six, its balance lies in −32760 to 32760 and its demand part in range, its sections
are distinct, and a LOCKDOWN telegram carries none. One that is not well formed, a duplicate, and one of a station without
a record leave everything as it stood, their frame among those handed on apart.
That characters left over after the whole views make a telegram not well formed is read from the view count against the
body length (notes/assumptions/16.md). -/
def Obligations.TelegramsAreDiscarded : Prop :=
  (∀ tel : Telegram, wellFormedTelegram tel = true ↔
    tel.viewCount.toNat ≤ 4 ∧ tel.viewCount.toNat = tel.views.length ∧ tel.partialView = false ∧
    (∀ v ∈ tel.views, 1 ≤ v.state.toNat ∧ v.state.toNat ≤ 6 ∧ -32760 ≤ v.balance.toInt ∧ v.balance.toInt ≤ 32760 ∧
      ∀ d, v.demand = some d → 1 ≤ d.originator.toNat ∧ d.originator.toNat ≤ 30 ∧
        ((1 ≤ d.number.toNat ∧ d.number.toNat ≤ 15) ∨ (129 ≤ d.number.toNat ∧ d.number.toNat ≤ 143))) ∧
    (tel.views.map (·.sectionNumber)).Nodup ∧ (tel.status = .lockdown → tel.views = [])) ∧
  (∀ (dt : Nat) (s : State) (tel : Telegram) (order : TakingOrder),
    s.line.connected = true → s.configured = true →
    (∀ r, s.peer? tel.sender.toNat = some r → wellFormedTelegram tel = false ∨
      ((r.state = .fresh ∨ r.state = .stale) ∧ r.lastSequence = some tel.sequence)) →
    ∃ t, exec (.countTelegram dt tel order) s = .next t ∧
      Ends { s with now := s.now + dt, handed := s.handed.erase (.telegram tel) } t)

/-- What an accepted telegram declares on a slot outside lockdown. Point causes, on a slot using the peer: a restart, a step
of a total above 4095 in order or at a gap, and a head status that changes to FAULTY or LOCKDOWN, a first hearing with one
of these included. BOUNDARY_MISMATCH, where it did not stand before: no view of the section of a slot using the peer, or a
view of the section of a slot not using it. COUNT_RANGE, on an evaluating slot: a changed total that brings a contribution
above 4095. Each leaves the slot DISTURBED: one DISTURBED already keeps its first cause, time, station and count, and has its
further-cause flag set with the last cause it takes; any other takes the first one with the time and its station, the sender's
for a point cause and else the own, has its disturbances counted once, and has the further-cause flag set just when there is
another. With one cause alone that cause is the one recorded; of several any may come first, COUNT_RANGE too: the model's
reading, as it is that a held LOCKDOWN followed by FAULTY is a change of the head status (notes/assumptions/35.md and 37.md).
(A view in AGREEING could lead on; none is carried there.) On an evaluating slot, by a telegram without such a cause: COUNT_RANGE,
where a changed total brings a contribution above 4095; and with the totals unchanged VIEW_MISMATCH, where both views are
settled and evaluating and their balances differ, and PEER_DISTURBED, where the peer shows the section DISTURBED, or
AGREEING on a demand other than the slot's own; AGREEING on the slot's own lingering demand disturbs nothing. -/
def Obligations.PeerCausesDisturb : Prop :=
  ∀ (dt : Nat) (s : State) (tel : Telegram) (order : TakingOrder) (r : PeerRecord),
    s.line.connected = true → s.configured = true → s.lockdown = false → s.peer? tel.sender.toNat = some r →
    wellFormedTelegram tel = true → tel.sender.toNat ≠ s.own →
    ¬((r.state = .fresh ∨ r.state = .stale) ∧ r.lastSequence = some tel.sequence) →
    ∃ t, exec (.countTelegram dt tel order) s = .next t ∧
      ∀ (i : Nat) (sl : Slot), s.slots[i]? = some sl → ∃ sl', t.slots[i]? = some sl' ∧
        ∀ (uses calm : Prop) (raised : Cause → Prop),
        (uses ↔ ∃ b ∈ sl.boundary, b.station = tel.sender.toNat) →
        (∀ c, raised c ↔ (match c with
          | .peerRestart => uses ∧ r.state ≠ .unheard ∧ tel.sequence = 0
          | .countJump => uses ∧ r.state ≠ .unheard ∧ tel.sequence ≠ 0 ∧ tel.status ≠ .lockdown ∧
              (4095 < (tel.txy - r.txy).toNat ∨ 4095 < (tel.tyx - r.tyx).toNat)
          | .peerHead => uses ∧ (tel.status = .faulty ∨ tel.status = .lockdown) ∧ r.status ≠ some tel.status
          | .boundaryMismatch =>
              (uses ∧ tel.status ≠ .lockdown ∧ r.missing[i]? ≠ some true ∧
                ∀ v ∈ tel.views, v.sectionNumber.toNat ≠ sl.sectionNumber) ∨
              (¬uses ∧ r.foreign[i]? ≠ some true ∧ ∃ v ∈ tel.views, v.sectionNumber.toNat = sl.sectionNumber)
          | .countRange => uses ∧ sl.state.evaluating = true ∧ sl.range = false ∧ tel.status ≠ .lockdown ∧
              (tel.txy ≠ r.txy ∨ tel.tyx ≠ r.tyx) ∧ outOfRange t sl = true
          | _ => False)) →
        (calm ↔ tel.sequence ≠ 0 ∧ tel.status ≠ .faulty ∧ tel.status ≠ .lockdown ∧
          (tel.txy - r.txy).toNat ≤ 4095 ∧ (tel.tyx - r.tyx).toNat ≤ 4095) →
        ((∀ v ∈ tel.views, v.state ≠ 2) → (∃ c, raised c) →
          sl'.state = .disturbed ∧
          (sl.state = .disturbed → ∃ last, raised last ∧
            sl'.record = { sl.record with further := true, lastFurther := some last }) ∧
          (sl.state ≠ .disturbed → ∃ first, raised first ∧ sl'.record.firstCause = some first ∧
            sl'.record.firstTime = some t.stationTime ∧
            sl'.record.firstStation =
              some (if first = .boundaryMismatch ∨ first = .countRange then s.own else tel.sender.toNat) ∧
            sl'.record.count = min 255 (sl.record.count + 1) ∧
            (sl'.record.further = true ↔ ∃ c, raised c ∧ c ≠ first) ∧
            (sl'.record.further = false → sl'.record.lastFurther = none) ∧
            (sl'.record.further = true → ∃ last, raised last ∧ last ≠ first ∧ sl'.record.lastFurther = some last))) ∧
        (∀ v ∈ tel.views, v.sectionNumber.toNat = sl.sectionNumber → uses → calm → sl.state.evaluating = true →
          (3 ≤ v.state.toNat → sl.range = false → (tel.txy ≠ r.txy ∨ tel.tyx ≠ r.tyx) → outOfRange t sl = true →
            sl'.state = .disturbed ∧ sl'.record.firstCause = some .countRange ∧
            sl'.record.firstStation = some s.own ∧ sl'.record.count = min 255 (sl.record.count + 1)) ∧
          (tel.txy = r.txy → tel.tyx = r.tyx →
            (3 ≤ v.state.toNat → v.settled = true → s.settled sl = true → v.balance.toInt ≠ sl.balance →
              sl'.state = .disturbed ∧ sl'.record.firstCause = some .viewMismatch ∧
              sl'.record.firstStation = some s.own ∧ sl'.record.count = min 255 (sl.record.count + 1)) ∧
            (v.state = 1 ∨ (v.state = 2 ∧ (s.head.state ≠ .counting ∨ order.resetFirst[i]? = some true) ∧
                (∀ d held, v.demand = some d → sl.reset.demand = some held →
                  d.originator.toNat ≠ held.identity.originator ∨ d.number.toNat % 128 ≠ held.identity.number)) →
              sl'.state = .disturbed ∧ sl'.record.firstCause = some .peerDisturbed ∧
              sl'.record.firstStation = some s.own ∧ sl'.record.count = min 255 (sl.record.count + 1)) ∧
            (∀ d held, v.state = 2 → v.demand = some d → sl.reset.demand = some held →
              d.originator.toNat = held.identity.originator → d.number.toNat % 128 = held.identity.number →
              sl'.state.evaluating = true ∧ sl'.record = sl.record)))

/-- A FRESH record becomes STALE when its age exceeds 600 ms, which declares nothing and takes the slots using the peer out
of CLEARING and CLEAR. A STALE record becomes LOST when its age exceeds 4000 ms, keeping what it holds but for its missing-
and foreign-view conditions; outside lockdown PEER_LOST reaches every slot using the peer, and in lockdown no disturbance record
changes, and no agreement set (R149's reading: notes/assumptions/34.md). -/
def Obligations.PeersGrowStaleAndLost : Prop :=
  (∀ (n : Nat) (a : Tick) (r : PeerRecord) (s : State), s.peer? n = some r → r.state = .fresh → r.acceptedAt = some a →
    ∃ t, exec (.peerStale n) s = .next t ∧
      Ends { s with
        now := max s.now (a + 60001)
        peers := s.peers.map (fun x => if x.station = n then { x with state := .stale } else x)
        slots := s.slots.map (fun sl =>
          if n ≠ s.own ∧ sl.boundary.any (fun b => b.station == n) = true then sl.unclear else sl) } t) ∧
  (∀ (n : Nat) (a : Tick) (r : PeerRecord) (s : State), s.peer? n = some r → r.state = .stale → r.acceptedAt = some a →
    ∃ t, exec (.peerLost n) s = .next t ∧
      t.peers = s.peers.map (fun x => if x.station = n then
        { x with
          state := .lost, missing := List.replicate x.missing.length false
          foreign := List.replicate x.foreign.length false } else x) ∧
      Ends { s with now := max s.now (a + 400001), peers := t.peers, slots := t.slots } t ∧
      (s.lockdown = false → t.slots = s.slots.map (fun sl =>
        if n ≠ s.own ∧ sl.boundary.any (fun b => b.station == n) = true then disturb .peerLost t.stationTime n sl
        else sl)) ∧
      (s.lockdown = true → t.slots.map (·.record) = s.slots.map (·.record) ∧
        t.slots.map (·.reset) = s.slots.map (·.reset)))

/-! ### Section evaluation -/

/-- A negative hold of 1500 ms disturbs the slot with NEGATIVE_BALANCE, and in lockdown only stops; a settled time of 1200
ms stops, so that the settled condition may hold. No other slot changes. -/
def Obligations.SlotTimersRunOut : Prop :=
  (∀ (i : Fin 4) (sl : Slot) (x : Tick) (s : State), s.slots[i.val]? = some sl → sl.negativeSince = some x →
    ∃ t, exec (.negativeBalance i) s = .next t ∧
      Ends { s with
        now := max s.now (x + 150000)
        slots := s.slots.set i.val
          (if s.lockdown then { sl with negativeSince := none }
          else disturb .negativeBalance t.stationTime s.own { sl with negativeSince := none }) } t) ∧
  (∀ (i : Fin 4) (sl : Slot) (x : Tick) (s : State), s.slots[i.val]? = some sl → sl.settledSince = some x →
    ∃ t, exec (.settledTimeExpiry i) s = .next t ∧
      Ends { s with
        now := max s.now (x + 120000), slots := s.slots.set i.val { sl with settledSince := none } } t)

/-- A confirm timer of 1000 ms takes a CLEARING slot to CLEAR: every base becomes the current total of its point, own or
held for the peer, in the direction of the record's side, so that every contribution and the balance are zero and the range
condition does not stand; the settled time is not restarted. -/
def Obligations.ConfirmedSlotsClear : Prop :=
  ∀ (i : Fin 4) (sl : Slot) (x : Tick) (s : State), s.slots[i.val]? = some sl → sl.state = .clearing →
    sl.confirmSince = some x →
    ∃ t, exec (.confirmExpiry i) s = .next t ∧
      Ends { s with
        now := max s.now (x + 100000)
        slots := s.slots.set i.val { sl with
          state := .clear, confirmSince := none, negativeSince := none, range := false, balance := 0
          contributions := sl.boundary.map (fun _ => { inward := 0, outward := 0 })
          boundary := sl.boundary.map (fun b => { b with
            inBase := match b.side with | .y => (s.totalsOf b.station).1 | .x => (s.totalsOf b.station).2
            outBase := match b.side with | .y => (s.totalsOf b.station).2 | .x => (s.totalsOf b.station).1 }) } } t

/-! ### Section reset -/

/-- The debounced levels change together: each request line's 500 ms start at its active edge and end with its level, and
without a selection, or without an active edge of a confirm line, nothing else of the reset sequence moves. -/
def Obligations.DebouncedLevelsChange : Prop :=
  ∀ (dt : Nat) (levels : OperatorLevels) (s : State), s.configured = true →
    (s.operator.selection = none ∨
      ((levels.cfs = false ∨ s.operator.debounced.cfs = true) ∧ (levels.cfd = false ∨ s.operator.debounced.cfd = true))) →
    ∃ t, exec (.debouncedLevelChange dt levels) s = .next t ∧
      t.operator.debounced = levels ∧ t.operator.selection = s.operator.selection ∧
      t.operator.demandNumber = s.operator.demandNumber ∧
      (∀ line : Fin 4, t.operator.requestSince[line] =
        (if requestLevel levels line then
          (if requestLevel s.operator.debounced line then s.operator.requestSince[line] else some (s.now + dt))
        else none)) ∧
      Ends { s with now := s.now + dt, operator := t.operator, pins := t.pins } t

/-- A request line active for 500 ms selects its slot, any earlier selection cancelled, and one without a slot selects and
cancels nothing; the line does not select again in the same activation. A selection of 10,000 ms becomes none. -/
def Obligations.SelectionsRunTheirTime : Prop :=
  (∀ (line : Fin 4) (x : Tick) (s : State), s.operator.requestSince[line] = some x →
    ∃ t, exec (.selection line) s = .next t ∧
      Ends { s with
        now := max s.now (x + 50000)
        operator := { s.operator with
          requestSince := s.operator.requestSince.set line none
          selection := if line.val < s.slots.length then some { slot := line, since := max s.now (x + 50000) }
            else s.operator.selection } } t) ∧
  (∀ (sel : Selection) (s : State), s.operator.selection = some sel →
    ∃ t, exec .selectionTimeout s = .next t ∧
      Ends { s with
        now := max s.now (sel.since + 1000000), operator := { s.operator with selection := none } } t)

/-- An active edge of one confirm line alone, in RUN outside lockdown, on a selected DISTURBED slot with the head COUNTING and
IDLE and no cool-down, and for DIRECT with the slot allowed and direct-eligible, issues a demand: the own station, the
demand number and the own totals as reset base, the last identity, an agreement set of the own station alone and a window
from zero. The demand number counter advances, 15 being followed by 1, the selection ends, and no base and no outcome
changes. -/
def Obligations.ConfirmationsIssueDemands : Prop :=
  ∀ (dt : Nat) (kind : ResetKind) (i : Fin 4) (x : Tick) (sl : Slot) (s : State),
    s.phase = .run → s.lockdown = false → s.operator.selection = some { slot := i, since := x } →
    s.slots[i.val]? = some sl → sl.state = .disturbed → s.head.state = .counting → s.detector.state = .idle →
    sl.reset.coolDownSince = none →
    (match kind with
      | .sweep => s.operator.debounced.cfs = false
      | .direct => s.operator.debounced.cfd = false ∧ sl.direct = true ∧ sl.record.further = false ∧
          (sl.record.firstCause = some .startup ∨ sl.record.firstCause = some .peerLost ∨
            sl.record.firstCause = some .peerRestart ∨ sl.record.firstCause = some .lineFault)) →
    ∃ t, exec (match kind with | .sweep => .confirmSweep dt false | .direct => .confirmDirect dt false) s = .next t ∧
      t.operator.selection = none ∧
      t.operator.demandNumber = (if s.operator.demandNumber = 15 then 1 else s.operator.demandNumber + 1) ∧
      Ends { s with
        now := s.now + dt, operator := t.operator, pins := t.pins
        slots := s.slots.set i.val { sl with
          state := .agreeing
          reset := { sl.reset with
            demand := some { identity := { originator := s.own, number := s.operator.demandNumber }, kind := kind,
                             baseTxy := s.txy, baseTyx := s.tyx, windowStart := t.stationTime }
            lastIdentity := some { originator := s.own, number := s.operator.demandNumber }
            agreement := some [s.own]
            windowSince := some (s.now + dt) } } } t

/-- An active edge of a confirm line on a selected slot is refused when both lines are active, outside RUN, in lockdown, on
a slot not DISTURBED, with the head not COUNTING or not IDLE, and during the cool-down; for DIRECT also on a slot not allowed
it or not direct-eligible. The outcome becomes REFUSED, the selection ends, the refusal pattern plays if no alarm condition
stands, and nothing else of the slot and no demand number changes. -/
def Obligations.ConfirmationsAreRefused : Prop :=
  ∀ (dt : Nat) (kind : ResetKind) (other : Bool) (i : Fin 4) (x : Tick) (sl : Slot) (s : State),
    s.configured = true → s.operator.selection = some { slot := i, since := x } → s.slots[i.val]? = some sl →
    (match kind with | .sweep => s.operator.debounced.cfs = false | .direct => s.operator.debounced.cfd = false) →
    (other = true ∨ s.phase ≠ .run ∨ s.lockdown = true ∨ sl.state ≠ .disturbed ∨ s.head.state ≠ .counting ∨
      s.detector.state ≠ .idle ∨ sl.reset.coolDownSince ≠ none ∨
      (kind = .direct ∧ (sl.direct = false ∨ sl.record.further = true ∨
        ¬(sl.record.firstCause = some .startup ∨ sl.record.firstCause = some .peerLost ∨
          sl.record.firstCause = some .peerRestart ∨ sl.record.firstCause = some .lineFault)))) →
    ∃ t, exec (match kind with | .sweep => .confirmSweep dt other | .direct => .confirmDirect dt other) s = .next t ∧
      t.operator.selection = none ∧ t.operator.demandNumber = s.operator.demandNumber ∧
      (s.alarmCondition = none → t.outputs.alarm.shows = .refusal ∧ t.outputs.alarm.sounding = true ∧
        t.outputs.alarm.place = 0) ∧
      Ends { s with
        now := s.now + dt, operator := t.operator, pins := t.pins
        slots := s.slots.set i.val { sl with reset := { sl.reset with outcome := .refused } } } t

/-- A complete agreement set applies the demand: the bases become the reset bases, the own one of the demand record and each
peer's of its stored view, the disturbance record loses its causes and keeps its count, the expiry count is 0, the outcome
AGREED, and the linger starts with the demand kept; the negative hold runs from now if the balance is below zero; the slot is
in SWEEP, its entered flag set if an axle has entered, or in OCCUPIED, or in CLEARING with the confirm timer from now where the
clearing conditions hold at once, from SWEEP with the flag set alone; a contribution out of range disturbs it with COUNT_RANGE, on the same telegram. An incomplete set
applies nothing. An accepted telegram that shows an AGREEING slot its own demand makes the sender join the slot's set so. -/
def Obligations.CompleteSetsApply : Prop :=
  (∀ (dt : Nat) (s : State) (tel : Telegram) (order : TakingOrder) (r : PeerRecord) (i : Nat) (sl : Slot) (v : View)
      (held : Demand) (members : List Nat),
    BringsView s tel order r i sl (some v) → sl.state = .agreeing → sl.reset.demand = some held →
    sl.reset.agreement = some members → v.demand.map (·.identity) = some held.identity →
    ∃ t, exec (.countTelegram dt tel order) s = .next t ∧
      ∀ w found, w = { s with now := s.now + dt, peers := t.peers } → found = sl.atViews w r tel →
        t.slots[i]? = some (rangeAfter w found (setAgreement w held
          (if tel.sender.toNat ∈ members then members else members ++ [tel.sender.toNat]) found))) ∧
  ∀ (s : State) (demand : Demand) (members : List Nat) (before sl u : Slot),
    before.state.evaluating = false → sl.state = .agreeing → u = rangeAfter s before (setAgreement s demand members sl) →
    ((∃ b ∈ sl.boundary, b.station ∉ members) →
      u = { sl with reset := { sl.reset with agreement := some members } }) ∧
    ((∀ b ∈ sl.boundary, b.station ∈ members) →
      u.sectionNumber = sl.sectionNumber ∧ u.settledSince = sl.settledSince ∧
      u.boundary.map (·.station) = sl.boundary.map (·.station) ∧
      (∀ (j : Nat) (b b' : Boundary), sl.boundary[j]? = some b → u.boundary[j]? = some b' → b'.side = b.side ∧
        (b.station = s.own →
          b'.inBase = inTotal b.side (demand.baseTxy, demand.baseTyx) ∧
          b'.outBase = outTotal b.side (demand.baseTxy, demand.baseTyx)) ∧
        (∀ r v d, b.station ≠ s.own → s.peer? b.station = some r →
          r.views.find? (fun w => w.sectionNumber == sl.sectionNumber) = some v → v.demand = some d →
          b'.inBase = inTotal b.side (d.baseTxy, d.baseTyx) ∧ b'.outBase = outTotal b.side (d.baseTxy, d.baseTyx))) ∧
      u.reset.agreement = none ∧ u.reset.windowSince = none ∧ u.reset.expiries = 0 ∧
      u.reset.outcome = (match demand.kind with | .sweep => .agreedSweep | .direct => .agreedDirect) ∧
      (u.range = false →
        (∀ moves : Prop, (moves ↔ InputsTrusted s u ∧ (demand.kind = .direct ∨ 1 ≤ inwardSum u.contributions)) →
          (moves → u.state = .clearing ∧ u.confirmSince = some s.now ∧ u.entered = false) ∧
          (¬moves → u.state = (match demand.kind with | .sweep => .sweep | .direct => .occupied) ∧
            (u.entered = true ↔ demand.kind = .sweep ∧ 1 ≤ inwardSum u.contributions))) ∧
        u.negativeSince = (if u.balance < 0 then some s.now else none) ∧
        u.reset.lingerSince = some s.now ∧ u.reset.demand = sl.reset.demand ∧
        u.record = { firstCause := none, firstTime := none, firstStation := none, further := false,
                     lastFurther := none, count := sl.record.count }) ∧
      (u.range = true → s.lockdown = false →
        u.state = .disturbed ∧ u.reset.lingerSince = none ∧ u.reset.demand = none ∧
        u.record = { firstCause := some .countRange, firstTime := some s.stationTime, firstStation := some s.own,
                     further := false, lastFurther := none, count := min 255 (sl.record.count + 1) }))

/-- What the Reset Controller does with a view of a boundary peer, in RUN outside lockdown. A DISTURBED slot adopts the demand
of an AGREEING view if the head is COUNTING and IDLE, no cool-down runs, its identity is not the last one, and for DIRECT the
slot is allowed and eligible, with an agreement set of the own station and the sender, judged at once; with that last
condition alone failing the outcome becomes REFUSED, and with any other failing nothing changes. An AGREEING slot lets a
demand of a lower originator, or another one of the same originator in that originator's own view, supersede its own: it is
judged likewise, and where the judgement fails the slot is DISTURBED with the outcome SUPERSEDED or REFUSED. A view with the
slot's identity makes its sender join the set, which is judged at once; any other, and a telegram without a view of the
section, makes it leave. An evaluating slot stays as it is. An accepted telegram without a cause gives a DISTURBED or AGREEING
slot what its view so brings, on the totals the telegram brings. Outside RUN and in lockdown a view moves nothing of a slot, and
an accepted telegram nothing of the demand, the set, the outcome and the times of a slot DISTURBED, or of any slot in lockdown;
a last identity alone is made absent by a restart of its originator. -/
def Obligations.DemandsAreAdoptedAndSuperseded : Prop :=
  (∀ (dt : Nat) (s : State) (tel : Telegram) (order : TakingOrder) (r : PeerRecord) (i : Nat) (sl : Slot)
      (view : Option View),
    BringsView s tel order r i sl view →
    ∃ t, exec (.countTelegram dt tel order) s = .next t ∧
      ∀ w found, w = { s with now := s.now + dt, peers := t.peers } → found = sl.atViews w r tel →
        t.slots[i]? = some (rangeAfter w found (takeView w tel.sender.toNat view found))) ∧
  (∀ (s : State) (sender : Nat) (v : View) (d : ViewDemand) (sl : Slot),
    s.phase = .run → s.lockdown = false →
    ∀ eligible adopted : Prop, ∀ (taken : ResetOutcome → Slot) (demand : Demand),
    (eligible ↔ d.kind = .sweep ∨ (sl.direct = true ∧ sl.record.further = false ∧
      (sl.record.firstCause = some .startup ∨ sl.record.firstCause = some .peerLost ∨
        sl.record.firstCause = some .peerRestart ∨ sl.record.firstCause = some .lineFault))) →
    (adopted ↔ s.head.state = .counting ∧ s.detector.state = .idle ∧ sl.reset.coolDownSince = none ∧
      sl.reset.lastIdentity ≠ some d.identity) →
    demand = { identity := d.identity, kind := d.kind, baseTxy := s.txy, baseTyx := s.tyx,
               windowStart := s.stationTime } →
    (∀ outcome, taken outcome = { sl with
      state := .agreeing
      reset := { sl.reset with
        demand := some demand, lastIdentity := some d.identity, agreement := some [s.own, sender]
        windowSince := some s.now, outcome := outcome } }) →
    (sl.state = .disturbed → v.state = .agreeing → v.demand = some d →
      (adopted → eligible →
        takeView s sender (some v) sl = setAgreement s demand [s.own, sender] (taken sl.reset.outcome) ∧
        ((∃ b ∈ sl.boundary, b.station ≠ s.own ∧ b.station ≠ sender) →
          takeView s sender (some v) sl = taken sl.reset.outcome)) ∧
      (adopted → ¬eligible → takeView s sender (some v) sl = { sl with reset := { sl.reset with outcome := .refused } }) ∧
      (¬adopted → takeView s sender (some v) sl = sl)) ∧
    (sl.state = .disturbed → (v.state ≠ .agreeing ∨ v.demand = none) → takeView s sender (some v) sl = sl) ∧
    (∀ (held : Demand) (members : List Nat), sl.state = .agreeing → sl.reset.demand = some held →
      sl.reset.agreement = some members →
      ∀ supersedes : Prop,
      (supersedes ↔ d.identity.originator < held.identity.originator ∨
        (d.identity.originator = held.identity.originator ∧ d.identity.number ≠ held.identity.number ∧
          sender = held.identity.originator)) →
      (v.state = .agreeing → v.demand = some d → supersedes →
        (adopted → eligible →
          takeView s sender (some v) sl = setAgreement s demand [s.own, sender] (taken .superseded) ∧
          ((∃ b ∈ sl.boundary, b.station ≠ s.own ∧ b.station ≠ sender) →
            takeView s sender (some v) sl = taken .superseded)) ∧
        (∀ outcome, (adopted ∧ ¬eligible ∧ outcome = .refused) ∨ (¬adopted ∧ outcome = .superseded) →
          takeView s sender (some v) sl = { sl with
            state := .disturbed
            reset := { sl.reset with
              demand := none, agreement := none, windowSince := none, outcome := outcome } })) ∧
      (v.demand = some d → d.identity = held.identity →
        takeView s sender (some v) sl =
          setAgreement s held (if sender ∈ members then members else members ++ [sender]) sl) ∧
      ((v.demand = none ∨
          (v.demand = some d ∧ d.identity ≠ held.identity ∧ ¬(v.state = .agreeing ∧ supersedes))) →
        takeView s sender (some v) sl = { sl with
          reset := { sl.reset with agreement := some (members.filter (fun m => m != sender)) } }) ∧
      takeView s sender none sl = { sl with
        reset := { sl.reset with agreement := some (members.filter (fun m => m != sender)) } }) ∧
    (sl.state.evaluating = true → takeView s sender (some v) sl = sl ∧ takeView s sender none sl = sl)) ∧
  (∀ (s : State) (sender : Nat) (view : Option View) (sl : Slot), s.phase ≠ .run ∨ s.lockdown = true →
    takeView s sender view sl = sl) ∧
  ∀ (dt : Nat) (s : State) (tel : Telegram) (order : TakingOrder) (r : PeerRecord),
    s.line.connected = true → s.configured = true → (s.phase ≠ .run ∨ s.lockdown = true) →
    s.peer? tel.sender.toNat = some r → wellFormedTelegram tel = true →
    ¬((r.state = .fresh ∨ r.state = .stale) ∧ r.lastSequence = some tel.sequence) →
    ∃ t, exec (.countTelegram dt tel order) s = .next t ∧
      ∀ (i : Nat) (sl : Slot), s.slots[i]? = some sl → (sl.state = .disturbed ∨ s.lockdown = true) →
        ∃ sl', t.slots[i]? = some sl' ∧ (s.lockdown = true → sl'.record = sl.record) ∧
          (sl.state.evaluating = false → sl'.state = sl.state) ∧ sl'.state.evaluating = sl.state.evaluating ∧
          sl'.reset = { sl.reset with
            lastIdentity := if r.state ≠ .unheard ∧ tel.sequence = 0 ∧
              sl.reset.lastIdentity.map (·.originator) = some tel.sender.toNat then none else sl.reset.lastIdentity }

/-- A window of 10,000 ms expires the demand of an AGREEING slot, in lockdown as well: DISTURBED again with its disturbance
record unchanged and the outcome EXPIRED; the fourth expiry in a row starts the cool-down and returns the count to 0. -/
def Obligations.WindowsExpire : Prop :=
  ∀ (i : Fin 4) (sl : Slot) (x : Tick) (s : State), s.slots[i.val]? = some sl → sl.state = .agreeing →
    sl.reset.windowSince = some x →
    ∃ t, exec (.windowExpiry i) s = .next t ∧
      Ends { s with
        now := max s.now (x + 1000000)
        slots := s.slots.set i.val { sl with
          state := .disturbed
          reset := { sl.reset with
            demand := none, agreement := none, windowSince := none, outcome := .expired
            expiries := if 3 ≤ sl.reset.expiries then 0 else sl.reset.expiries + 1
            coolDownSince := if 3 ≤ sl.reset.expiries then some (max s.now (x + 1000000))
              else sl.reset.coolDownSince } } } t

/-- A linger of 2000 ms ends with the demand record removed and the last identity kept; a cool-down of 120,000 ms stops. -/
def Obligations.LingersAndCoolDownsEnd : Prop :=
  (∀ (i : Fin 4) (sl : Slot) (x : Tick) (s : State), s.slots[i.val]? = some sl → sl.reset.lingerSince = some x →
    ∃ t, exec (.lingerEnd i) s = .next t ∧
      Ends { s with
        now := max s.now (x + 200000)
        slots := s.slots.set i.val { sl with reset := { sl.reset with demand := none, lingerSince := none } } } t) ∧
  (∀ (i : Fin 4) (sl : Slot) (x : Tick) (s : State), s.slots[i.val]? = some sl → sl.reset.coolDownSince = some x →
    ∃ t, exec (.coolDownEnd i) s = .next t ∧
      Ends { s with
        now := max s.now (x + 12000000)
        slots := s.slots.set i.val { sl with reset := { sl.reset with coolDownSince := none } } } t)

/-! ### Disturbances and lockdown -/

/-- A cause on a slot that is not DISTURBED moves it there: first cause with its time and station, no further cause, the
count of disturbances up by one to at most 255, confirm and negative hold timers stopped, the entered flag clear, the
demand, set, window and linger gone, and the outcome ABANDONED_DISTURBANCE if it was AGREEING; bases, contributions and
balance stay. On a DISTURBED slot it sets the further-cause flag and the last further cause, and nothing else. -/
def Obligations.CausesDisturb : Prop :=
  ∀ (cause : Cause) (time : Word32) (station : Nat) (sl : Slot),
    (sl.state ≠ .disturbed → disturb cause time station sl = { sl with
      state := .disturbed, confirmSince := none, negativeSince := none, entered := false
      record := { firstCause := some cause, firstTime := some time, firstStation := some station, further := false,
                  lastFurther := none, count := min 255 (sl.record.count + 1) }
      reset := { sl.reset with
        demand := none, agreement := none, windowSince := none, lingerSince := none
        outcome := if sl.state = .agreeing then .abandonedDisturbance else sl.reset.outcome } }) ∧
    (sl.state = .disturbed → disturb cause time station sl = { sl with
      record := { sl.record with further := true, lastFurther := some cause } })

/-- A difference time above 5 ms enters lockdown with LANE_MISMATCH and stops, so that it is handed over once; and a comparison
period that the check oscillator measures below 98 ms or above 102 ms enters lockdown with CLOCK_FAULT; a period measured
within starts the next one and nothing else. In lockdown a finding changes nothing further.
That a command reports a fault of an item not held as differing, no earlier than 5 ms after the item is first compared, and
the unit of the measured period, are the model's choices (notes/assumptions/22.md and 19.md). That a lockdown in the line loop
test connects the receiver, and that a frame driven on the boundary between two characters is cut off there, are read from the
manual by inference (notes/assumptions/15.md and 28.md). -/
def Obligations.LaneAndClockFaults : Prop :=
  (∀ (item : LaneItem) (x : Tick) (s : State),
    (∀ d, s.lanes.differing.find? (fun e => e.item == item) = some d → d.since = some x) →
    (s.lanes.differing.find? (fun e => e.item == item) = none →
      x = (match item with | .ownTotals => s.passAt | .slotState _ => s.passAt | _ => 0) ∧
      (item = .ownTotals → s.configured = true) ∧ (∀ i, item = .slotState i → i.val < s.slots.length) ∧
      item ≠ .telegramContent) →
    ∃ t w, exec (.laneMismatch item) s = .next t ∧
      w = { s with
        now := max s.now (x + 501)
        lanes := { s.lanes with faulty := s.lanes.faulty.filter (fun e => e != item) ++ [item] } } ∧
      (∃ d ∈ t.lanes.differing, d.item = item ∧ d.since = none) ∧
      (s.lockdown = false → EntersLockdown .laneMismatch w t) ∧ (s.lockdown = true → Ends w t)) ∧
  (∀ (item : LaneItem) (d : LaneDifference) (s : State),
    s.lanes.differing.find? (fun e => e.item == item) = some d → d.since = none → exec (.laneMismatch item) s = .next s) ∧
  (∀ (measured : Nat) (s : State), ∃ t w, exec (.clockCheckPeriodEnd measured) s = .next t ∧
      w = { s with
        now := max s.now (s.lanes.periodSince + 10000)
        lanes := { s.lanes with periodSince := s.lanes.periodSince + 10000 } } ∧
      (s.lockdown = false → (measured < 98000 ∨ 102000 < measured) → EntersLockdown .clockFault w t) ∧
      ((s.lockdown = true ∨ (98000 ≤ measured ∧ measured ≤ 102000)) → Ends w t))

/-- R163: a lockdown cause handed over while lockdown stands changes nothing, so that the record keeps the cause and time of
the entry; of two causes the one taken first enters lockdown and is recorded. -/
def Obligations.LockdownCausesAreTakenOnce : Prop :=
  (∀ (cause : LockdownCause) (s : State), s.lockdown = true → enterLockdown cause s = s) ∧
  (∀ (cause : LockdownCause) (s : State), s.lockdown = false →
    (enterLockdown cause s).lockdown = true ∧
    (enterLockdown cause s).lockdownRecord = some { cause := cause, time := s.stationTime }) ∧
  (∀ (first second : LockdownCause) (s : State), s.lockdown = false →
    enterLockdown second (enterLockdown first s) = enterLockdown first s)

/-! ### Outputs -/

/-- The half-period tick, while no mismatch count reaches 2: every line is compared with the level set, and on a toggling
half-period after a toggling one also with the other level at the comparison before; a match returns the count to 0. Then
each lane sets its line from its own command: while the two agree the levels follow the table, both low without the
command, else CLP high after both low or after CLQ high, and CLQ high after CLP high; never are both high. Lane Q's command
is the inverse of what it holds, and off in lockdown. A lane Q that trails at the start leaves CLP high with CLQ low, and one
that trails at the end leaves both low, for the half-period; each line is compared by the command of its own lane. That lane Q's
command goes off with lane P's on entry to lockdown is read from the manual by inference (notes/assumptions/32.md). -/
def Obligations.HalfPeriodsFollowTheTable : Prop :=
  ∀ (read : Vector PairLevels 4) (s : State) (x : Tick) (fits : ClearLine → Bool → Prop), s.outputs.tickSince = some x →
    (∀ l level, fits l level ↔
      level = l.level ∧ (l.toggling = true → l.wasToggling = true → l.lastRead = some (!l.level))) →
    (∀ i : Fin 4, (s.outputs.pairs[i].p.mismatches = 0 ∨ fits s.outputs.pairs[i].p read[i].p) ∧
      (s.outputs.pairs[i].q.mismatches = 0 ∨ fits s.outputs.pairs[i].q read[i].q)) →
    ∃ t, exec (.halfPeriodTick read) s = .next t ∧ t.outputs.tickSince = some (x + 200) ∧ t.outputs.watch = 0 ∧
      (∀ i : Fin 4, ∀ command trailing : Bool,
        (command = true ↔ (∃ sl, s.slots[i.val]? = some sl ∧ sl.state = .clear) ∧ s.phase = .run ∧ s.lockdown = false) →
        (trailing = true ↔ t.lanes.laneQ.commands[i] = false ∧ s.lockdown = false) →
        t.outputs.pairs[i].p.toggling = command ∧
        t.outputs.pairs[i].p.wasToggling = s.outputs.pairs[i].p.toggling ∧
        t.outputs.pairs[i].q.toggling = trailing ∧
        t.outputs.pairs[i].q.wasToggling = s.outputs.pairs[i].q.toggling ∧
        (trailing = command → command = false →
          t.outputs.pairs[i].p.level = false ∧ t.outputs.pairs[i].q.level = false) ∧
        (trailing = command → command = true → s.outputs.pairs[i].p.level = false →
          t.outputs.pairs[i].p.level = true ∧ t.outputs.pairs[i].q.level = false) ∧
        (trailing = command → command = true → s.outputs.pairs[i].p.level = true →
          t.outputs.pairs[i].p.level = false ∧ t.outputs.pairs[i].q.level = true) ∧
        t.outputs.pairs[i].p.level = (command && !s.outputs.pairs[i].p.level) ∧
        t.outputs.pairs[i].q.level = (command && trailing && s.outputs.pairs[i].p.level) ∧
        (trailing = true → command = false →
          t.outputs.pairs[i].p.level = false ∧ t.outputs.pairs[i].q.level = false) ∧
        t.outputs.pairs[i].p.lastRead = some read[i].p ∧ t.outputs.pairs[i].q.lastRead = some read[i].q ∧
        (fits s.outputs.pairs[i].p read[i].p → t.outputs.pairs[i].p.mismatches = 0) ∧
        (¬fits s.outputs.pairs[i].p read[i].p → t.outputs.pairs[i].p.mismatches = 1) ∧
        (fits s.outputs.pairs[i].q read[i].q → t.outputs.pairs[i].q.mismatches = 0) ∧
        (¬fits s.outputs.pairs[i].q read[i].q → t.outputs.pairs[i].q.mismatches = 1)) ∧
      Ends { s with now := max s.now (x + 200), outputs := t.outputs } t

/-- A second mismatch in a row on a line, at a tick, by a wrong level or by a line that did not change on a pair that toggles
on, or by the watch on the tick, returns every count to 0 and enters lockdown with OUTPUT_READBACK, and every clear line is
low after it. In lockdown the counts return to 0 likewise and nothing is recorded: all but the outputs stays. A watch that runs
out with no mismatch counted releases every line low and counts one on every line.
That the watch lets no main time pass is the model's choice (notes/assumptions/19.md). -/
def Obligations.ReadBackFaultsLockDown : Prop :=
  (∀ (read : Vector PairLevels 4) (s : State) (x : Tick) (i : Fin 4), s.outputs.tickSince = some x →
    ((s.outputs.pairs[i].p.mismatches = 1 ∧ (read[i].p ≠ s.outputs.pairs[i].p.level ∨
        (s.outputs.pairs[i].p.toggling = true ∧ s.outputs.pairs[i].p.wasToggling = true ∧
          s.outputs.pairs[i].p.lastRead = some read[i].p))) ∨
      (s.outputs.pairs[i].q.mismatches = 1 ∧ (read[i].q ≠ s.outputs.pairs[i].q.level ∨
        (s.outputs.pairs[i].q.toggling = true ∧ s.outputs.pairs[i].q.wasToggling = true ∧
          s.outputs.pairs[i].q.lastRead = some read[i].q)))) →
    ∃ t, exec (.halfPeriodTick read) s = .next t ∧ t.lockdown = true ∧
      t.outputs.tickSince = some (x + 200) ∧ t.outputs.watch = 0 ∧
      (s.lockdown = false → t.lockdownRecord = some { cause := .outputReadback, time := t.stationTime } ∧
        t.phase = s.phase ∧ t.txy = s.txy ∧ t.tyx = s.tyx ∧ t.log = s.log ∧ t.slots = s.slots.map Slot.unclear) ∧
      (s.lockdown = true → t.lockdownRecord = s.lockdownRecord ∧
        Ends { s with now := max s.now (x + 200), outputs := t.outputs } t) ∧
      ∀ j : Fin 4, t.outputs.pairs[j].p.level = false ∧ t.outputs.pairs[j].q.level = false ∧
        t.outputs.pairs[j].p.mismatches = 0 ∧ t.outputs.pairs[j].q.mismatches = 0) ∧
  (∀ (s : State) (x : Tick), s.outputs.tickSince = some x →
    (∀ i : Fin 4, s.outputs.pairs[i].p.mismatches = 0 ∧ s.outputs.pairs[i].q.mismatches = 0) →
    ∃ t, exec .tickWatchExpiry s = .next t ∧
      t.outputs.watch = (if s.outputs.watch = 0 then 3 else s.outputs.watch + 2) ∧
      t.outputs.tickSince = s.outputs.tickSince ∧
      (∀ j : Fin 4, t.outputs.pairs[j].p.level = false ∧ t.outputs.pairs[j].q.level = false ∧
        t.outputs.pairs[j].p.mismatches = 1 ∧ t.outputs.pairs[j].q.mismatches = 1) ∧
      Ends { s with outputs := t.outputs } t) ∧
  (∀ (s : State) (x : Tick) (i : Fin 4), s.outputs.tickSince = some x →
    (s.outputs.pairs[i].p.mismatches = 1 ∨ s.outputs.pairs[i].q.mismatches = 1) →
    ∃ t, exec .tickWatchExpiry s = .next t ∧ t.lockdown = true ∧
      t.outputs.tickSince = s.outputs.tickSince ∧
      t.outputs.watch = (if s.outputs.watch = 0 then 3 else s.outputs.watch + 2) ∧
      (s.lockdown = false → t.lockdownRecord = some { cause := .outputReadback, time := t.stationTime }) ∧
      (s.lockdown = true → t.lockdownRecord = s.lockdownRecord ∧ Ends { s with outputs := t.outputs } t) ∧
      ∀ j : Fin 4, t.outputs.pairs[j].p.level = false ∧ t.outputs.pairs[j].q.level = false ∧
        t.outputs.pairs[j].p.mismatches = 0 ∧ t.outputs.pairs[j].q.mismatches = 0)

/-- The patterns of the outputs: a flashing lamp changes level after 500, 200 or 100 ms by its pattern, the status line
after 50 ms; a standing alarm pattern goes on to its next time, sounding in the even ones, and from its last to its first;
the refusal pattern goes on through three pulses of 100 ms with gaps of 100 ms, and then the alarm is silent. -/
def Obligations.PatternsStep : Prop :=
  ∀ s : State, OutputsFollow s →
    (∀ (lamp : Fin 4) (time : Tick),
      (s.outputs.lamps[lamp].pattern = .flashSlow ∧ time = 50000 ∨
        s.outputs.lamps[lamp].pattern = .flashMedium ∧ time = 20000 ∨
        s.outputs.lamps[lamp].pattern = .flashFast ∧ time = 10000) →
      ∃ t, exec (.lampPatternStep lamp) s = .next t ∧
        t.outputs.lamps[lamp] = { s.outputs.lamps[lamp] with
          lit := !s.outputs.lamps[lamp].lit, since := s.outputs.lamps[lamp].since + time } ∧
        (∀ other, other ≠ lamp → t.outputs.lamps[other] = s.outputs.lamps[other]) ∧
        Ends { s with now := max s.now (s.outputs.lamps[lamp].since + time) } t) ∧
    (∀ x : Tick, s.outputs.status.since = some x →
      ∃ t, exec .statusLineToggle s = .next t ∧
        Ends { s with now := max s.now (x + 5000) } t ∧
        t.outputs.status = { high := !s.outputs.status.high, since := some (x + 5000) }) ∧
    (∀ (c : AlarmCondition) (times : List Nat) (time : Nat), s.outputs.alarm.shows = .standing c →
      (c = .configHalt ∧ times = [1000, 1000] ∨ c = .lineFault ∧ times = [200, 200, 200, 1400] ∨
        c = .headNotCounting ∧ times = [200, 1800]) →
      times[s.outputs.alarm.place]? = some time →
      ∃ t, exec .alarmPatternStep s = .next t ∧
        Ends { s with now := max s.now (s.outputs.alarm.since + 100 * time) } t ∧
        t.outputs.alarm.shows = .standing c ∧ t.outputs.alarm.since = s.outputs.alarm.since + 100 * time ∧
        t.outputs.alarm.place =
          (if s.outputs.alarm.place + 1 = times.length then 0 else s.outputs.alarm.place + 1) ∧
        t.outputs.alarm.sounding = (t.outputs.alarm.place % 2 == 0)) ∧
    (s.outputs.alarm.shows = .refusal → s.alarmCondition = none →
      ∃ t, exec .refusalPatternStep s = .next t ∧
        Ends { s with now := max s.now (s.outputs.alarm.since + 10000) } t ∧
        (s.outputs.alarm.place < 4 → t.outputs.alarm.shows = .refusal ∧
          t.outputs.alarm.place = s.outputs.alarm.place + 1 ∧
          t.outputs.alarm.since = s.outputs.alarm.since + 10000 ∧
          t.outputs.alarm.sounding = (t.outputs.alarm.place % 2 == 0)) ∧
        (s.outputs.alarm.place = 4 → t.outputs.alarm.shows = .silent ∧ t.outputs.alarm.sounding = false))

/-! ### Maintenance -/

/-- In RUN outside lockdown a query in range is answered from the state as it stands, in the place of any answer held: all the
STATUS data; all of SECTION, the state with its flags, the balance, the disturbance record, the last outcome with the expiry
count, the cool-down remaining, the demand with the window or linger remaining, the agreement set and the boundary records;
the number of records and up to 4 whole entries of PEERS, absent sequence numbers and ages being free (notes/assumptions/9.md);
the copy of up to 8 log entries; and for CLEAR_DIAG the counters at zero and no data. The query's frame leaves those handed on.
The rounding of the age and of the times remaining, and that a query is taken also while the station drives a frame, are the
model's choices (notes/assumptions/11.md and 24.md); that an absent first cause time is sent as 0 is read from the layout
(notes/assumptions/38.md). -/
def Obligations.QueriesAreAnswered : Prop :=
  ∀ (dt : Nat) (p : Byte) (s : State) (own : Byte), s.line.connected = true → s.phase = .run → s.lockdown = false →
    own = BitVec.ofNat 8 s.own →
    (∃ t, exec (.statusQuery dt p) s = .next t ∧
      Ends { s with
        now := s.now + dt, handed := s.handed.erase (.query 1 p)
        line := { s.line with answerSlot := some ([75, 157, 38, 3, own, 31, 1, 5,
            (match s.head.state with | .starting => 1 | .counting => 2 | .faulty => 3),
            (match s.detector.state with
              | .idle => 0 | .x1 => 1 | .x2 => 2 | .x3 => 3 | .y1 => 4 | .y2 => 5 | .y3 => 6 | .unresolved => 7),
            (match s.head.state with
              | .starting => 1 | .faulty => 4 | .counting => if s.detector.state = .idle then 2 else 3)] ++
          chars16 s.txy ++ chars16 s.tyx ++
          [BitVec.ofNat 8 s.head.a.spikes, BitVec.ofNat 8 s.head.b.spikes,
            BitVec.ofNat 8 ((if s.head.a.lastSpike.isSome then 1 else 0) + (if s.head.b.lastSpike.isSome then 2 else 0) +
              (if s.lockdownRecord.isSome then 8 else 0) + (if s.line.lineFault then 16 else 0))] ++
          chars32 (s.head.a.lastSpike.getD 0) ++ chars32 (s.head.b.lastSpike.getD 0) ++
          chars32 (BitVec.ofNat 32 ((s.now + dt) / 100)) ++
          (match s.lockdownRecord with
            | some r => (match r.cause with
                | .laneMismatch => 1 | .clockFault => 2 | .outputReadback => 3 | .duplicateStation => 4
                | .selfTestFault => 5) :: chars32 r.time
            | none => [0, 0, 0, 0, 0]) ++
          chars16 (BitVec.ofNat 16 s.line.framesGood) ++ chars16 (BitVec.ofNat 16 s.line.framesBad) ++
          chars16 (BitVec.ofNat 16 s.line.collisions) ++ chars16 (BitVec.ofNat 16 s.line.dropped) ++
          [BitVec.ofNat 8 s.line.consecutiveDrops]) } } t) ∧
    (∀ sl, s.slots[p.toNat]? = some sl →
      ∃ t mid rest, exec (.sectionQuery dt p) s = .next t ∧
        (∀ left : Option Tick → Nat → Nat,
          (∀ since limit, left since limit = (match since with | some x => limit - (s.now + dt - x) / 100 | none => 0)) →
          mid = (match sl.reset.coolDownSince with
            | some x => [BitVec.ofNat 8 (left (some x) 120000 / 65536), BitVec.ofNat 8 (left (some x) 120000 / 256),
                BitVec.ofNat 8 (left (some x) 120000)]
            | none => []) ++
          (match sl.reset.demand with
            | some d => [BitVec.ofNat 8 d.identity.originator,
                BitVec.ofNat 8 (match d.kind with | .sweep => d.identity.number | .direct => d.identity.number + 128)] ++
              chars16 d.baseTxy ++ chars16 d.baseTyx ++ chars32 d.windowStart ++
              chars16 (BitVec.ofNat 16 (if sl.state = .agreeing then left sl.reset.windowSince 10000
                else left sl.reset.lingerSince 2000))
            | none => []) ++
          (if sl.state = .agreeing then
            [BitVec.ofNat 8 (((List.range sl.boundary.length).map fun j => match sl.boundary[j]? with
              | some b => if b.station ∈ sl.reset.agreement.getD [] then 2 ^ j else 0
              | none => 0).sum)]
          else [])) ∧
        rest = (sl.boundary.zip sl.contributions).flatMap (fun x =>
          [BitVec.ofNat 8 x.1.station, BitVec.ofNat 8 ((x.2.inward * 4096 + x.2.outward) / 65536),
           BitVec.ofNat 8 ((x.2.inward * 4096 + x.2.outward) / 256), BitVec.ofNat 8 (x.2.inward * 4096 + x.2.outward)]) ∧
        Ends { s with
          now := s.now + dt, handed := s.handed.erase (.query 2 p)
          line := { s.line with answerSlot := some ([75, 157, 38, 3, own, 31, 2, p,
            BitVec.ofNat 8 ((match sl.state with
              | .disturbed => 1 | .agreeing => 2 | .sweep => 3 | .occupied => 4 | .clearing => 5 | .clear => 6) +
              (if s.settled sl then 8 else 0) + (if sl.record.further then 16 else 0) +
              (if sl.reset.demand.isSome then 32 else 0) + (if sl.reset.coolDownSince.isSome then 64 else 0))] ++
            chars16 (BitVec.ofInt 16 sl.balance) ++
            [BitVec.ofNat 8 (causeCode sl.record.firstCause * 16 + causeCode sl.record.lastFurther)] ++
            chars32 (sl.record.firstTime.getD 0) ++
            [BitVec.ofNat 8 (sl.record.firstStation.getD 0), BitVec.ofNat 8 sl.record.count,
              BitVec.ofNat 8 ((match sl.reset.outcome with
                | .none => 0 | .agreedSweep => 1 | .agreedDirect => 2 | .expired => 3 | .abandonedPassage => 4
                | .abandonedDisturbance => 5 | .superseded => 6 | .refused => 7) + 16 * sl.reset.expiries)] ++
            mid ++ rest) } } t) ∧
    (p.toNat ≤ 15 →
      ∃ t rest, exec (.peersQuery dt p) s = .next t ∧
        rest.length = 13 * min 4 (s.peers.length - p.toNat) ∧
        (∀ (j : Nat) (r : PeerRecord), j < 4 → s.peers[p.toNat + j]? = some r → ∃ sequence age : Word16,
          (∀ q, r.lastSequence = some q → sequence = q) ∧
          (∀ a, r.acceptedAt = some a → age = BitVec.ofNat 16 (min 65535 ((s.now + dt - a) / 100))) ∧
          (rest.drop (13 * j)).take 13 =
            [BitVec.ofNat 8 r.station,
              BitVec.ofNat 8 ((match r.state with | .unheard => 0 | .fresh => 1 | .stale => 2 | .lost => 3) +
                (if r.lastSequence.isSome then 4 else 0) + (if r.acceptedAt.isSome then 8 else 0)),
              (match r.status with
                | some .starting => 1 | some .idle => 2 | some .busy => 3 | some .faulty => 4 | some .lockdown => 5
                | none => 0)] ++
            chars16 sequence ++ chars16 r.txy ++ chars16 r.tyx ++ chars16 age ++ chars16 (BitVec.ofNat 16 r.gaps)) ∧
        Ends { s with
          now := s.now + dt, handed := s.handed.erase (.query 3 p), freeUses := t.freeUses
          line := { s.line with answerSlot := some ([75, 157, 38, 3, own, 31, 3, BitVec.ofNat 8 s.peers.length] ++
            rest) } } t) ∧
    (p.toNat ≤ 63 →
      ∃ t, exec (.logQuery dt p) s = .next t ∧
        Ends { s with
          now := s.now + dt, handed := s.handed.erase (.query 4 p)
          line := { s.line with answerSlot := some ([75, 157, 38, 3, own, 31, 4, BitVec.ofNat 8 s.log.length] ++
            ((s.log.drop p.toNat).take 8).flatMap (fun e =>
              [BitVec.ofNat 8 ((match e.kind with
                | .passageXY => 0 | .passageYX => 1 | .unresolved => 2 | .restartMark => 3) +
                (if e.rocked then 128 else 0))] ++
              chars32 e.time ++ chars16 (BitVec.ofNat 16 (e.speed.getD 65535)))) } } t) ∧
    (∃ t, exec (.clearDiag dt p) s = .next t ∧
      Ends { s with
        now := s.now + dt, handed := s.handed.erase (.query 5 p), peers := s.peers.map (fun r => { r with gaps := 0 })
        line := { s.line with
          framesGood := 0, framesBad := 0, collisions := 0, dropped := 0
          answerSlot := some [75, 157, 38, 3, own, 31, 5] } } t)

/-- A query of an unknown kind, one out of range, and in lockdown every kind but STATUS is refused: the kind received with
128 added and no data in the answer slot, and nothing else changed, the query's own frame
among those handed on apart; in lockdown, in RUN or before, a STATUS query is
answered with all its data: the start phase where the station stopped, the reported head status LOCKDOWN, the totals held, the
presence of lockdown and of its record, its cause and its time, and the counters.
That a query is taken also while the station drives a frame is the model's choice (notes/assumptions/24.md), and the kind
character of the refusal of a kind of 128 or more is free (notes/assumptions/9.md). -/
def Obligations.QueriesAreRefused : Prop :=
  ∀ (dt : Nat) (p : Byte) (s : State) (refusal : Byte → Byte → State),
    s.line.connected = true → s.configured = true → (s.phase = .run ∨ s.lockdown = true) →
    (∀ asked kind, refusal asked kind = { s with
      now := s.now + dt, handed := s.handed.erase (.query asked p)
      line := { s.line with answerSlot := some [75, 157, 38, 3, BitVec.ofNat 8 s.own, 31, kind] } }) →
    (∀ kind : Byte, (kind = 0 ∨ 6 ≤ kind.toNat) → kind.toNat < 128 →
      ∃ t, exec (.queryOfUnknownKind dt kind p) s = .next t ∧ Ends (refusal kind (kind + 128)) t) ∧
    (∀ kind : Byte, 128 ≤ kind.toNat →
      ∃ t code, exec (.queryOfUnknownKind dt kind p) s = .next t ∧ Ends (refusal kind code) t) ∧
    ((s.lockdown = true ∨ s.slots.length ≤ p.toNat) →
      ∃ t, exec (.sectionQuery dt p) s = .next t ∧ Ends (refusal 2 130) t) ∧
    ((s.lockdown = true ∨ 16 ≤ p.toNat) → ∃ t, exec (.peersQuery dt p) s = .next t ∧ Ends (refusal 3 131) t) ∧
    ((s.lockdown = true ∨ 64 ≤ p.toNat) → ∃ t, exec (.logQuery dt p) s = .next t ∧ Ends (refusal 4 132) t) ∧
    (s.lockdown = true → ∃ t, exec (.clearDiag dt p) s = .next t ∧ Ends (refusal 5 133) t) ∧
    (s.lockdown = true → ∃ t, exec (.statusQuery dt p) s = .next t ∧
      Ends { s with
        now := s.now + dt, handed := s.handed.erase (.query 1 p)
        line := { s.line with answerSlot := some ([75, 157, 38, 3, BitVec.ofNat 8 s.own, 31, 1,
            (match s.phase with | .configRead => 1 | .configHalt => 2 | .selfTest => 3 | .silence => 4 | .run => 5),
            (match s.head.state with | .starting => 1 | .counting => 2 | .faulty => 3),
            (match s.detector.state with
              | .idle => 0 | .x1 => 1 | .x2 => 2 | .x3 => 3 | .y1 => 4 | .y2 => 5 | .y3 => 6 | .unresolved => 7), 5] ++
          chars16 s.txy ++ chars16 s.tyx ++
          [BitVec.ofNat 8 s.head.a.spikes, BitVec.ofNat 8 s.head.b.spikes,
            BitVec.ofNat 8 ((if s.head.a.lastSpike.isSome then 1 else 0) + (if s.head.b.lastSpike.isSome then 2 else 0) +
              4 + (if s.lockdownRecord.isSome then 8 else 0) + (if s.line.lineFault then 16 else 0))] ++
          chars32 (s.head.a.lastSpike.getD 0) ++ chars32 (s.head.b.lastSpike.getD 0) ++
          chars32 (BitVec.ofNat 32 ((s.now + dt) / 100)) ++
          (match s.lockdownRecord with
            | some r => (match r.cause with
                | .laneMismatch => 1 | .clockFault => 2 | .outputReadback => 3 | .duplicateStation => 4
                | .selfTestFault => 5) :: chars32 r.time
            | none => [0, 0, 0, 0, 0]) ++
          chars16 (BitVec.ofNat 16 s.line.framesGood) ++ chars16 (BitVec.ofNat 16 s.line.framesBad) ++
          chars16 (BitVec.ofNat 16 s.line.collisions) ++ chars16 (BitVec.ofNat 16 s.line.dropped) ++
          [BitVec.ofNat 8 s.line.consecutiveDrops]) } } t)

/-! ### The whole part -/

/-- R162: lockdown stands until the next power-on or restart. Any other step taken in lockdown leaves the condition, its
record, the own totals, the log, every slot's disturbance record and the passage automaton as they were. A restart and a power-on end it, the one keeping
the record and the other without one, and every block is at its start value after them. A cause taken before a restart is
recorded and ended by it; after a restart no condition of the run that ended is left: only a clock check or a lane
difference of the new run can lead to lockdown from there. -/
def Obligations.LockdownStands : Prop :=
  (∀ s t : State, step s = .next t → s.lockdown = true →
    (∀ c rest, s.pending = c :: rest → Starts c → c = .restart ∧ s.restartHeld = true) →
    t.lockdown = true ∧ t.lockdownRecord = s.lockdownRecord ∧ t.phase = s.phase ∧ t.txy = s.txy ∧ t.tyx = s.tyx ∧
      t.log = s.log ∧ t.slots.map (·.record) = s.slots.map (·.record) ∧ (s.detector.state = .idle → t.detector.state = .idle)) ∧
  (∀ (s : State) (rest : List Instr), s.pending = .restart :: rest → s.restartHeld = false →
    ∃ t, step s = .next t ∧ t.lockdown = false ∧ AtStart t ∧ t.lockdownRecord = s.lockdownRecord) ∧
  (∀ (s : State) (active : Bool) (rest : List Instr), s.pending = .powerOn active :: rest →
    ∃ t, step s = .next t ∧ t.lockdown = false ∧ AtStart t ∧ t.lockdownRecord = none) ∧
  (∀ (cause : LockdownCause) (s : State), s.lockdown = false → s.restartHeld = false →
    ∃ t, exec .restart (enterLockdown cause s) = .next t ∧ t.lockdown = false ∧
      t.lockdownRecord = some { cause := cause, time := s.stationTime }) ∧
  (∀ (c : Instr) (s t : State), AtStart s → exec c s = .next t → t.lockdown = true →
    (∃ measured, c = .clockCheckPeriodEnd measured) ∨ (∃ item, c = .laneMismatch item))

/-- R25: the own totals are 0 after power-on and restart, and in any other step either both stay, or one of them advances by
exactly one modulo 65536 for a plausible passage in its direction that completes with the head COUNTING outside lockdown.
Every such passage counts, in any start phase in which the head is sampled. -/
def Obligations.TotalsChangeByCountsOnly : Prop :=
  (∀ s t : State, step s = .next t →
    (t.txy = s.txy ∧ t.tyx = s.tyx) ∨
    ((∃ c rest, s.pending = c :: rest ∧ Starts c) ∧ t.txy = 0 ∧ t.tyx = 0) ∨
    (s.head.state = .counting ∧ s.lockdown = false ∧ t.detector.state = .idle ∧
      s.spacing * 3 ≤ 5 * s.detector.trail.getD 0 ∧
      ((s.detector.state = .x3 ∧ t.txy = s.txy + 1 ∧ t.tyx = s.tyx ∧
          t.log.getLast?.map (·.kind) = some .passageXY) ∨
        (s.detector.state = .y3 ∧ t.tyx = s.tyx + 1 ∧ t.txy = s.txy ∧
          t.log.getLast?.map (·.kind) = some .passageYX)))) ∧
  (∀ (s : State) (active : Bool), ∃ t, exec (.powerOn active) s = .next t ∧ t.txy = 0 ∧ t.tyx = 0) ∧
  (∀ s : State, s.restartHeld = false → ∃ t, exec .restart s = .next t ∧ t.txy = 0 ∧ t.tyx = 0) ∧
  (∀ (dt skew : Nat) (s : State) (d : Direction),
    s.configured = true → s.head.state = .counting → s.lockdown = false → s.detector.trail = some skew →
    s.spacing * 3 ≤ 5 * skew →
    (match d with
      | .xy => s.detector.state = .x3 ∧ s.head.a.filtered = some false ∧ s.head.b.filtered = some true
      | .yx => s.detector.state = .y3 ∧ s.head.a.filtered = some true ∧ s.head.b.filtered = some false) →
    ∃ t, exec (.filteredChange dt (d == .yx) (d == .xy)) s = .next t ∧
      (match d with
        | .xy => t.txy = s.txy + 1 ∧ t.tyx = s.tyx
        | .yx => t.tyx = s.tyx + 1 ∧ t.txy = s.txy))

/-- Every step keeps it: a slot is in CLEARING or CLEAR only while its balance is zero, the station is in RUN outside
lockdown, the own head COUNTING and IDLE, and every boundary peer FRESH with an IDLE head and a sound view of the section;
and a CLEAR slot's contributions are all zero. And in every step a slot in OCCUPIED, or in SWEEP with the entered flag set,
for which these conditions come to hold goes to CLEARING, with its confirm timer from zero; in CLEARING a change of a used
total after which they hold starts the timer again, and else it runs on. A slot that has just left CLEAR on a change of a total
waits for the next event. -/
def Obligations.ClearingStaysSound : Prop :=
  (∀ s t : State, ClearingSound s → step s = .next t → ClearingSound t) ∧
  (∀ (s t : State) (i : Nat) (sl sl' : Slot), step s = .next t → s.slots[i]? = some sl → t.slots[i]? = some sl' →
    ClearingStep s t sl sl')

/-- Every step keeps it: contributions, balance and range condition of every slot are those of the totals and bases as they
stand. Every step keeps it too: the negative hold runs only in an evaluating state with a negative balance, and outside
lockdown always then, and the entered flag is set only in SWEEP, there whenever an axle has entered. And in every step with the
slots built, the hold starts from zero or runs on, the settled time starts again just at a change of a used total, in every slot
state, and the entered flag stays set in SWEEP and rises only with an axle that entered. -/
def Obligations.BalancesStayCurrent : Prop :=
  (∀ s t : State, BalancesCurrent s → step s = .next t → BalancesCurrent t) ∧
  (∀ s t : State, HoldsSound s → step s = .next t → HoldsSound t) ∧
  (∀ (s t : State) (i : Nat) (sl sl' : Slot), HoldsSound s → s.phase ≠ .configRead → step s = .next t →
    s.slots[i]? = some sl → t.slots[i]? = some sl' → SlotTimersStep s t sl sl')

/-- Every step keeps it: no clear pair has both lines high, and lamps, status line and alarm show what the state commands.
In every step but a power-on or a restart, a lamp, the status line and the alarm with the same pattern commanded run on with
their level and time, but for the command that steps them; a new one starts at its first time, lit or sounding, from now; and a
refusal plays on while no condition stands, but for a new refusal. A lamp may start again on a telegram that takes its slot
to another pattern and back; which changes within one event show so is the model's reading (notes/assumptions/30.md).
And every step keeps the lanes so: lane Q holds lane P's time, and its evaluation, every bit inverted, or will hold this within
1 ms when it has taken the events it is behind by; and the comparator holds just the items that differ.
How far lane Q trails within 1 ms is free (notes/assumptions/6.md). -/
def Obligations.OutputsKeepFollowing : Prop :=
  (∀ s t : State, OutputsFollow s → step s = .next t → OutputsFollow t) ∧
  (∀ s t : State, OutputsFollow s → step s = .next t → (∀ c rest, s.pending = c :: rest → ¬Starts c) →
    PatternsRunOn s t) ∧
  (∀ s t : State, LanesSound s → step s = .next t → LanesSound t)

/-- Every step keeps it: a request waits only for the slot or the spacing timer, the transmitter works just while a frame is
in service, from a filled slot and where the start phase and lockdown allow it, and fewer than 8 attempts are counted. And in
every step a frame that comes into service, another frame than before, with fewer attempts, or on entry to lockdown, is the
telegram if its slot is filled and else the answer, with the attempt counter at 0, and awaits line idle or, on an idle line, has
its slot delay run from now.
And every step keeps it: the receiver is on the line only from SELF_TEST on, and a frame handed on is one that its block takes,
a telegram of a station with a record, or a query in RUN or in lockdown. And in every step but a power-on or a restart no frame
handed on is lost: its own command takes it, a burst that ends may put one more behind those that wait, and with no command
waiting the oldest is queued as the command that takes it.
That on the tick of the station time 5000 an answer may so come before the first LOCKDOWN telegram, and that frames handed on
wait for their commands, are the model's choices (notes/assumptions/41.md and 12.md). -/
def Obligations.LineAccessStaysSound : Prop :=
  (∀ s t : State, AccessSound s → step s = .next t → AccessSound t) ∧
  (∀ s t : State, step s = .next t → t.line.service ≠ none →
    (t.line.service ≠ s.line.service ∨ t.line.attempt < s.line.attempt ∨ t.lockdown ≠ s.lockdown) → TakenUp t) ∧
  (∀ s t : State, ReceptionSound s → step s = .next t → ReceptionSound t) ∧
  (∀ s t : State, step s = .next t → (∀ c rest, s.pending = c :: rest → ¬Starts c) → HandedStep s t)

/-- Every step keeps it: while the Passage Detector follows the channels its state stands for the filtered levels, IDLE for
none damped; and it is IDLE while it does not. -/
def Obligations.DetectorStaysSound : Prop :=
  ∀ s t : State, DetectorSound s → step s = .next t → DetectorSound t

/-- Every step keeps them: the ranges of the counters, the ties between a slot's state, its demand, set, window, linger and
first cause, and those between a peer record's state and its fields. -/
def Obligations.RecordsStaySound : Prop :=
  (∀ s t : State, InRange s → step s = .next t → InRange t) ∧
  (∀ s t : State, ResetSound s → step s = .next t → ResetSound t) ∧
  (∀ s t : State, PeersSound s → step s = .next t → PeersSound t)

/-- Every one of these conditions holds right after reset.
The levels of the input pins there are the model's choice (notes/assumptions/4.md). -/
def Obligations.InvariantsHoldAtReset : Prop :=
  ClearingSound State.reset ∧ BalancesCurrent State.reset ∧ OutputsFollow State.reset ∧ AccessSound State.reset ∧
    DetectorSound State.reset ∧ InRange State.reset ∧ ResetSound State.reset ∧ PeersSound State.reset ∧
    LanesSound State.reset ∧ HoldsSound State.reset ∧ ReceptionSound State.reset

/-- A step that leaves the station in ordinary service with another head status, own total or view than before has a
telegram requested or its slot filled, and requested if a telegram is being driven. A peer's restart that finds a slot
AGREEING is a reason even where the slot adopts its demand again on the same telegram, which is read from the manual by
inference (notes/assumptions/30.md). -/
def Obligations.ChangesRequestTelegrams : Prop :=
  (∀ s t : State, step s = .next t → t.phase = .run → t.lockdown = false →
    (t.headStatus ≠ s.headStatus ∨ t.txy ≠ s.txy ∨ t.tyx ≠ s.tyx ∨ t.slots.map t.viewOf ≠ s.slots.map s.viewOf) →
    (t.builder.request = true ∨ t.line.telegramSlot = true) ∧
    (∀ since, s.line.telegramSlot = true → t.line.service = some .telegram → t.line.transmitter = .driving since →
      t.builder.request = true)) ∧
  (∀ (dt : Nat) (s : State) (tel : Telegram) (order : TakingOrder) (r : PeerRecord) (i : Nat) (sl : Slot),
    s.line.connected = true → s.phase = .run → s.lockdown = false → s.peer? tel.sender.toNat = some r →
    wellFormedTelegram tel = true → r.state ≠ .unheard → tel.sequence = 0 →
    ¬((r.state = .fresh ∨ r.state = .stale) ∧ r.lastSequence = some 0) →
    s.slots[i]? = some sl → sl.state = .agreeing → tel.sender.toNat ≠ s.own →
    (∃ b ∈ sl.boundary, b.station = tel.sender.toNat) →
    ∃ t, exec (.countTelegram dt tel order) s = .next t ∧ (t.builder.request = true ∨ t.line.telegramSlot = true))

/-- What a count telegram's body carries is read back from it: every telegram without a partial view, with every sequence
number, status, total, view, demand part and view count; and the body of every frame of 1 to 64 characters is found in it. -/
def Obligations.TelegramsReadBack : Prop :=
  (∀ t : Telegram, t.partialView = false → parseBody (encodeTelegram t) = .telegram t) ∧
  (∀ body : List Byte, 1 ≤ body.length → body.length ≤ 64 → frameBody (frameOf body) = some body)
end

