-- ==== Sys2Proof/Laws/State.lean ====
section
/-! SUPPORT. What the shared operations leave alone: one lemma for each field of the state and each operation that does
not write it. -/

namespace Sys2Proof.Machine

/-! `State.wait` -/

@[simp] theorem State.wait_sampleDue (s : State) (dt : Nat) : (s.wait dt).sampleDue = s.sampleDue := rfl
@[simp] theorem State.wait_phase (s : State) (dt : Nat) : (s.wait dt).phase = s.phase := rfl
@[simp] theorem State.wait_restartHeld (s : State) (dt : Nat) : (s.wait dt).restartHeld = s.restartHeld := rfl
@[simp] theorem State.wait_restartFrom (s : State) (dt : Nat) : (s.wait dt).restartFrom = s.restartFrom := rfl
@[simp] theorem State.wait_reading (s : State) (dt : Nat) : (s.wait dt).reading = s.reading := rfl
@[simp] theorem State.wait_selfTest (s : State) (dt : Nat) : (s.wait dt).selfTest = s.selfTest := rfl
@[simp] theorem State.wait_selfTestSince (s : State) (dt : Nat) : (s.wait dt).selfTestSince = s.selfTestSince := rfl
@[simp] theorem State.wait_silenceOver (s : State) (dt : Nat) : (s.wait dt).silenceOver = s.silenceOver := rfl
@[simp] theorem State.wait_config (s : State) (dt : Nat) : (s.wait dt).config = s.config := rfl
@[simp] theorem State.wait_passAt (s : State) (dt : Nat) : (s.wait dt).passAt = s.passAt := rfl
@[simp] theorem State.wait_lockdown (s : State) (dt : Nat) : (s.wait dt).lockdown = s.lockdown := rfl
@[simp] theorem State.wait_lockdownRecord (s : State) (dt : Nat) : (s.wait dt).lockdownRecord = s.lockdownRecord := rfl
@[simp] theorem State.wait_head (s : State) (dt : Nat) : (s.wait dt).head = s.head := rfl
@[simp] theorem State.wait_detector (s : State) (dt : Nat) : (s.wait dt).detector = s.detector := rfl
@[simp] theorem State.wait_txy (s : State) (dt : Nat) : (s.wait dt).txy = s.txy := rfl
@[simp] theorem State.wait_tyx (s : State) (dt : Nat) : (s.wait dt).tyx = s.tyx := rfl
@[simp] theorem State.wait_log (s : State) (dt : Nat) : (s.wait dt).log = s.log := rfl
@[simp] theorem State.wait_line (s : State) (dt : Nat) : (s.wait dt).line = s.line := rfl
@[simp] theorem State.wait_handed (s : State) (dt : Nat) : (s.wait dt).handed = s.handed := rfl
@[simp] theorem State.wait_builder (s : State) (dt : Nat) : (s.wait dt).builder = s.builder := rfl
@[simp] theorem State.wait_peers (s : State) (dt : Nat) : (s.wait dt).peers = s.peers := rfl
@[simp] theorem State.wait_slots (s : State) (dt : Nat) : (s.wait dt).slots = s.slots := rfl
@[simp] theorem State.wait_operator (s : State) (dt : Nat) : (s.wait dt).operator = s.operator := rfl
@[simp] theorem State.wait_outputs (s : State) (dt : Nat) : (s.wait dt).outputs = s.outputs := rfl
@[simp] theorem State.wait_pins (s : State) (dt : Nat) : (s.wait dt).pins = s.pins := rfl
@[simp] theorem State.wait_freeUses (s : State) (dt : Nat) : (s.wait dt).freeUses = s.freeUses := rfl
@[simp] theorem State.wait_pending (s : State) (dt : Nat) : (s.wait dt).pending = s.pending := rfl

/-! `State.upTo` -/

@[simp] theorem State.upTo_sampleDue (s : State) (t : Tick) : (s.upTo t).sampleDue = s.sampleDue := rfl
@[simp] theorem State.upTo_phase (s : State) (t : Tick) : (s.upTo t).phase = s.phase := rfl
@[simp] theorem State.upTo_restartHeld (s : State) (t : Tick) : (s.upTo t).restartHeld = s.restartHeld := rfl
@[simp] theorem State.upTo_restartFrom (s : State) (t : Tick) : (s.upTo t).restartFrom = s.restartFrom := rfl
@[simp] theorem State.upTo_reading (s : State) (t : Tick) : (s.upTo t).reading = s.reading := rfl
@[simp] theorem State.upTo_selfTest (s : State) (t : Tick) : (s.upTo t).selfTest = s.selfTest := rfl
@[simp] theorem State.upTo_selfTestSince (s : State) (t : Tick) : (s.upTo t).selfTestSince = s.selfTestSince := rfl
@[simp] theorem State.upTo_silenceOver (s : State) (t : Tick) : (s.upTo t).silenceOver = s.silenceOver := rfl
@[simp] theorem State.upTo_config (s : State) (t : Tick) : (s.upTo t).config = s.config := rfl
@[simp] theorem State.upTo_passAt (s : State) (t : Tick) : (s.upTo t).passAt = s.passAt := rfl
@[simp] theorem State.upTo_lockdown (s : State) (t : Tick) : (s.upTo t).lockdown = s.lockdown := rfl
@[simp] theorem State.upTo_lockdownRecord (s : State) (t : Tick) : (s.upTo t).lockdownRecord = s.lockdownRecord := rfl
@[simp] theorem State.upTo_head (s : State) (t : Tick) : (s.upTo t).head = s.head := rfl
@[simp] theorem State.upTo_detector (s : State) (t : Tick) : (s.upTo t).detector = s.detector := rfl
@[simp] theorem State.upTo_txy (s : State) (t : Tick) : (s.upTo t).txy = s.txy := rfl
@[simp] theorem State.upTo_tyx (s : State) (t : Tick) : (s.upTo t).tyx = s.tyx := rfl
@[simp] theorem State.upTo_log (s : State) (t : Tick) : (s.upTo t).log = s.log := rfl
@[simp] theorem State.upTo_line (s : State) (t : Tick) : (s.upTo t).line = s.line := rfl
@[simp] theorem State.upTo_handed (s : State) (t : Tick) : (s.upTo t).handed = s.handed := rfl
@[simp] theorem State.upTo_builder (s : State) (t : Tick) : (s.upTo t).builder = s.builder := rfl
@[simp] theorem State.upTo_peers (s : State) (t : Tick) : (s.upTo t).peers = s.peers := rfl
@[simp] theorem State.upTo_slots (s : State) (t : Tick) : (s.upTo t).slots = s.slots := rfl
@[simp] theorem State.upTo_operator (s : State) (t : Tick) : (s.upTo t).operator = s.operator := rfl
@[simp] theorem State.upTo_outputs (s : State) (t : Tick) : (s.upTo t).outputs = s.outputs := rfl
@[simp] theorem State.upTo_pins (s : State) (t : Tick) : (s.upTo t).pins = s.pins := rfl
@[simp] theorem State.upTo_freeUses (s : State) (t : Tick) : (s.upTo t).freeUses = s.freeUses := rfl
@[simp] theorem State.upTo_pending (s : State) (t : Tick) : (s.upTo t).pending = s.pending := rfl

/-! `State.raise` -/

@[simp] theorem State.raise_now (s : State) (es : List Instr) : (s.raise es).now = s.now := rfl
@[simp] theorem State.raise_sampleDue (s : State) (es : List Instr) : (s.raise es).sampleDue = s.sampleDue := rfl
@[simp] theorem State.raise_phase (s : State) (es : List Instr) : (s.raise es).phase = s.phase := rfl
@[simp] theorem State.raise_restartHeld (s : State) (es : List Instr) : (s.raise es).restartHeld = s.restartHeld := rfl
@[simp] theorem State.raise_restartFrom (s : State) (es : List Instr) : (s.raise es).restartFrom = s.restartFrom := rfl
@[simp] theorem State.raise_reading (s : State) (es : List Instr) : (s.raise es).reading = s.reading := rfl
@[simp] theorem State.raise_selfTest (s : State) (es : List Instr) : (s.raise es).selfTest = s.selfTest := rfl
@[simp] theorem State.raise_selfTestSince (s : State) (es : List Instr) : (s.raise es).selfTestSince = s.selfTestSince := rfl
@[simp] theorem State.raise_silenceOver (s : State) (es : List Instr) : (s.raise es).silenceOver = s.silenceOver := rfl
@[simp] theorem State.raise_config (s : State) (es : List Instr) : (s.raise es).config = s.config := rfl
@[simp] theorem State.raise_passAt (s : State) (es : List Instr) : (s.raise es).passAt = s.passAt := rfl
@[simp] theorem State.raise_lockdown (s : State) (es : List Instr) : (s.raise es).lockdown = s.lockdown := rfl
@[simp] theorem State.raise_lockdownRecord (s : State) (es : List Instr) : (s.raise es).lockdownRecord = s.lockdownRecord := rfl
@[simp] theorem State.raise_head (s : State) (es : List Instr) : (s.raise es).head = s.head := rfl
@[simp] theorem State.raise_detector (s : State) (es : List Instr) : (s.raise es).detector = s.detector := rfl
@[simp] theorem State.raise_txy (s : State) (es : List Instr) : (s.raise es).txy = s.txy := rfl
@[simp] theorem State.raise_tyx (s : State) (es : List Instr) : (s.raise es).tyx = s.tyx := rfl
@[simp] theorem State.raise_log (s : State) (es : List Instr) : (s.raise es).log = s.log := rfl
@[simp] theorem State.raise_line (s : State) (es : List Instr) : (s.raise es).line = s.line := rfl
@[simp] theorem State.raise_handed (s : State) (es : List Instr) : (s.raise es).handed = s.handed := rfl
@[simp] theorem State.raise_builder (s : State) (es : List Instr) : (s.raise es).builder = s.builder := rfl
@[simp] theorem State.raise_peers (s : State) (es : List Instr) : (s.raise es).peers = s.peers := rfl
@[simp] theorem State.raise_slots (s : State) (es : List Instr) : (s.raise es).slots = s.slots := rfl
@[simp] theorem State.raise_operator (s : State) (es : List Instr) : (s.raise es).operator = s.operator := rfl
@[simp] theorem State.raise_lanes (s : State) (es : List Instr) : (s.raise es).lanes = s.lanes := rfl
@[simp] theorem State.raise_outputs (s : State) (es : List Instr) : (s.raise es).outputs = s.outputs := rfl
@[simp] theorem State.raise_pins (s : State) (es : List Instr) : (s.raise es).pins = s.pins := rfl
@[simp] theorem State.raise_freeUses (s : State) (es : List Instr) : (s.raise es).freeUses = s.freeUses := rfl

/-! `State.handOn` -/

@[simp] theorem State.handOn_now (s : State) (f : Option Handed) : (s.handOn f).now = s.now := rfl
@[simp] theorem State.handOn_sampleDue (s : State) (f : Option Handed) : (s.handOn f).sampleDue = s.sampleDue := rfl
@[simp] theorem State.handOn_phase (s : State) (f : Option Handed) : (s.handOn f).phase = s.phase := rfl
@[simp] theorem State.handOn_restartHeld (s : State) (f : Option Handed) : (s.handOn f).restartHeld = s.restartHeld := rfl
@[simp] theorem State.handOn_restartFrom (s : State) (f : Option Handed) : (s.handOn f).restartFrom = s.restartFrom := rfl
@[simp] theorem State.handOn_reading (s : State) (f : Option Handed) : (s.handOn f).reading = s.reading := rfl
@[simp] theorem State.handOn_selfTest (s : State) (f : Option Handed) : (s.handOn f).selfTest = s.selfTest := rfl
@[simp] theorem State.handOn_selfTestSince (s : State) (f : Option Handed) : (s.handOn f).selfTestSince = s.selfTestSince := rfl
@[simp] theorem State.handOn_silenceOver (s : State) (f : Option Handed) : (s.handOn f).silenceOver = s.silenceOver := rfl
@[simp] theorem State.handOn_config (s : State) (f : Option Handed) : (s.handOn f).config = s.config := rfl
@[simp] theorem State.handOn_passAt (s : State) (f : Option Handed) : (s.handOn f).passAt = s.passAt := rfl
@[simp] theorem State.handOn_lockdown (s : State) (f : Option Handed) : (s.handOn f).lockdown = s.lockdown := rfl
@[simp] theorem State.handOn_lockdownRecord (s : State) (f : Option Handed) : (s.handOn f).lockdownRecord = s.lockdownRecord := rfl
@[simp] theorem State.handOn_head (s : State) (f : Option Handed) : (s.handOn f).head = s.head := rfl
@[simp] theorem State.handOn_detector (s : State) (f : Option Handed) : (s.handOn f).detector = s.detector := rfl
@[simp] theorem State.handOn_txy (s : State) (f : Option Handed) : (s.handOn f).txy = s.txy := rfl
@[simp] theorem State.handOn_tyx (s : State) (f : Option Handed) : (s.handOn f).tyx = s.tyx := rfl
@[simp] theorem State.handOn_log (s : State) (f : Option Handed) : (s.handOn f).log = s.log := rfl
@[simp] theorem State.handOn_line (s : State) (f : Option Handed) : (s.handOn f).line = s.line := rfl
@[simp] theorem State.handOn_builder (s : State) (f : Option Handed) : (s.handOn f).builder = s.builder := rfl
@[simp] theorem State.handOn_peers (s : State) (f : Option Handed) : (s.handOn f).peers = s.peers := rfl
@[simp] theorem State.handOn_slots (s : State) (f : Option Handed) : (s.handOn f).slots = s.slots := rfl
@[simp] theorem State.handOn_operator (s : State) (f : Option Handed) : (s.handOn f).operator = s.operator := rfl
@[simp] theorem State.handOn_lanes (s : State) (f : Option Handed) : (s.handOn f).lanes = s.lanes := rfl
@[simp] theorem State.handOn_outputs (s : State) (f : Option Handed) : (s.handOn f).outputs = s.outputs := rfl
@[simp] theorem State.handOn_pins (s : State) (f : Option Handed) : (s.handOn f).pins = s.pins := rfl
@[simp] theorem State.handOn_freeUses (s : State) (f : Option Handed) : (s.handOn f).freeUses = s.freeUses := rfl
@[simp] theorem State.handOn_pending (s : State) (f : Option Handed) : (s.handOn f).pending = s.pending := rfl
@[simp] theorem State.handOn_handed (s : State) (f : Option Handed) : (s.handOn f).handed = s.handed ++ f.toList := rfl

/-! `State.takeHanded` -/

@[simp] theorem State.takeHanded_now (s : State) (f : Handed) : (s.takeHanded f).now = s.now := rfl
@[simp] theorem State.takeHanded_sampleDue (s : State) (f : Handed) : (s.takeHanded f).sampleDue = s.sampleDue := rfl
@[simp] theorem State.takeHanded_phase (s : State) (f : Handed) : (s.takeHanded f).phase = s.phase := rfl
@[simp] theorem State.takeHanded_restartHeld (s : State) (f : Handed) : (s.takeHanded f).restartHeld = s.restartHeld := rfl
@[simp] theorem State.takeHanded_restartFrom (s : State) (f : Handed) : (s.takeHanded f).restartFrom = s.restartFrom := rfl
@[simp] theorem State.takeHanded_reading (s : State) (f : Handed) : (s.takeHanded f).reading = s.reading := rfl
@[simp] theorem State.takeHanded_selfTest (s : State) (f : Handed) : (s.takeHanded f).selfTest = s.selfTest := rfl
@[simp] theorem State.takeHanded_selfTestSince (s : State) (f : Handed) : (s.takeHanded f).selfTestSince = s.selfTestSince := rfl
@[simp] theorem State.takeHanded_silenceOver (s : State) (f : Handed) : (s.takeHanded f).silenceOver = s.silenceOver := rfl
@[simp] theorem State.takeHanded_config (s : State) (f : Handed) : (s.takeHanded f).config = s.config := rfl
@[simp] theorem State.takeHanded_passAt (s : State) (f : Handed) : (s.takeHanded f).passAt = s.passAt := rfl
@[simp] theorem State.takeHanded_lockdown (s : State) (f : Handed) : (s.takeHanded f).lockdown = s.lockdown := rfl
@[simp] theorem State.takeHanded_lockdownRecord (s : State) (f : Handed) : (s.takeHanded f).lockdownRecord = s.lockdownRecord := rfl
@[simp] theorem State.takeHanded_head (s : State) (f : Handed) : (s.takeHanded f).head = s.head := rfl
@[simp] theorem State.takeHanded_detector (s : State) (f : Handed) : (s.takeHanded f).detector = s.detector := rfl
@[simp] theorem State.takeHanded_txy (s : State) (f : Handed) : (s.takeHanded f).txy = s.txy := rfl
@[simp] theorem State.takeHanded_tyx (s : State) (f : Handed) : (s.takeHanded f).tyx = s.tyx := rfl
@[simp] theorem State.takeHanded_log (s : State) (f : Handed) : (s.takeHanded f).log = s.log := rfl
@[simp] theorem State.takeHanded_line (s : State) (f : Handed) : (s.takeHanded f).line = s.line := rfl
@[simp] theorem State.takeHanded_builder (s : State) (f : Handed) : (s.takeHanded f).builder = s.builder := rfl
@[simp] theorem State.takeHanded_peers (s : State) (f : Handed) : (s.takeHanded f).peers = s.peers := rfl
@[simp] theorem State.takeHanded_slots (s : State) (f : Handed) : (s.takeHanded f).slots = s.slots := rfl
@[simp] theorem State.takeHanded_operator (s : State) (f : Handed) : (s.takeHanded f).operator = s.operator := rfl
@[simp] theorem State.takeHanded_lanes (s : State) (f : Handed) : (s.takeHanded f).lanes = s.lanes := rfl
@[simp] theorem State.takeHanded_outputs (s : State) (f : Handed) : (s.takeHanded f).outputs = s.outputs := rfl
@[simp] theorem State.takeHanded_pins (s : State) (f : Handed) : (s.takeHanded f).pins = s.pins := rfl
@[simp] theorem State.takeHanded_freeUses (s : State) (f : Handed) : (s.takeHanded f).freeUses = s.freeUses := rfl
@[simp] theorem State.takeHanded_pending (s : State) (f : Handed) : (s.takeHanded f).pending = s.pending := rfl
@[simp] theorem State.takeHanded_handed (s : State) (f : Handed) : (s.takeHanded f).handed = s.handed.erase f := rfl

/-! `State.modifySlot` -/

@[simp] theorem State.modifySlot_now (s : State) (i : Fin 4) (f : Slot → Slot) : (s.modifySlot i f).now = s.now := rfl
@[simp] theorem State.modifySlot_sampleDue (s : State) (i : Fin 4) (f : Slot → Slot) : (s.modifySlot i f).sampleDue = s.sampleDue := rfl
@[simp] theorem State.modifySlot_phase (s : State) (i : Fin 4) (f : Slot → Slot) : (s.modifySlot i f).phase = s.phase := rfl
@[simp] theorem State.modifySlot_restartHeld (s : State) (i : Fin 4) (f : Slot → Slot) : (s.modifySlot i f).restartHeld = s.restartHeld := rfl
@[simp] theorem State.modifySlot_restartFrom (s : State) (i : Fin 4) (f : Slot → Slot) : (s.modifySlot i f).restartFrom = s.restartFrom := rfl
@[simp] theorem State.modifySlot_reading (s : State) (i : Fin 4) (f : Slot → Slot) : (s.modifySlot i f).reading = s.reading := rfl
@[simp] theorem State.modifySlot_selfTest (s : State) (i : Fin 4) (f : Slot → Slot) : (s.modifySlot i f).selfTest = s.selfTest := rfl
@[simp] theorem State.modifySlot_selfTestSince (s : State) (i : Fin 4) (f : Slot → Slot) : (s.modifySlot i f).selfTestSince = s.selfTestSince := rfl
@[simp] theorem State.modifySlot_silenceOver (s : State) (i : Fin 4) (f : Slot → Slot) : (s.modifySlot i f).silenceOver = s.silenceOver := rfl
@[simp] theorem State.modifySlot_config (s : State) (i : Fin 4) (f : Slot → Slot) : (s.modifySlot i f).config = s.config := rfl
@[simp] theorem State.modifySlot_passAt (s : State) (i : Fin 4) (f : Slot → Slot) : (s.modifySlot i f).passAt = s.passAt := rfl
@[simp] theorem State.modifySlot_lockdown (s : State) (i : Fin 4) (f : Slot → Slot) : (s.modifySlot i f).lockdown = s.lockdown := rfl
@[simp] theorem State.modifySlot_lockdownRecord (s : State) (i : Fin 4) (f : Slot → Slot) : (s.modifySlot i f).lockdownRecord = s.lockdownRecord := rfl
@[simp] theorem State.modifySlot_head (s : State) (i : Fin 4) (f : Slot → Slot) : (s.modifySlot i f).head = s.head := rfl
@[simp] theorem State.modifySlot_detector (s : State) (i : Fin 4) (f : Slot → Slot) : (s.modifySlot i f).detector = s.detector := rfl
@[simp] theorem State.modifySlot_txy (s : State) (i : Fin 4) (f : Slot → Slot) : (s.modifySlot i f).txy = s.txy := rfl
@[simp] theorem State.modifySlot_tyx (s : State) (i : Fin 4) (f : Slot → Slot) : (s.modifySlot i f).tyx = s.tyx := rfl
@[simp] theorem State.modifySlot_log (s : State) (i : Fin 4) (f : Slot → Slot) : (s.modifySlot i f).log = s.log := rfl
@[simp] theorem State.modifySlot_line (s : State) (i : Fin 4) (f : Slot → Slot) : (s.modifySlot i f).line = s.line := rfl
@[simp] theorem State.modifySlot_handed (s : State) (i : Fin 4) (f : Slot → Slot) : (s.modifySlot i f).handed = s.handed := rfl
@[simp] theorem State.modifySlot_builder (s : State) (i : Fin 4) (f : Slot → Slot) : (s.modifySlot i f).builder = s.builder := rfl
@[simp] theorem State.modifySlot_peers (s : State) (i : Fin 4) (f : Slot → Slot) : (s.modifySlot i f).peers = s.peers := rfl
@[simp] theorem State.modifySlot_operator (s : State) (i : Fin 4) (f : Slot → Slot) : (s.modifySlot i f).operator = s.operator := rfl
@[simp] theorem State.modifySlot_lanes (s : State) (i : Fin 4) (f : Slot → Slot) : (s.modifySlot i f).lanes = s.lanes := rfl
@[simp] theorem State.modifySlot_outputs (s : State) (i : Fin 4) (f : Slot → Slot) : (s.modifySlot i f).outputs = s.outputs := rfl
@[simp] theorem State.modifySlot_pins (s : State) (i : Fin 4) (f : Slot → Slot) : (s.modifySlot i f).pins = s.pins := rfl
@[simp] theorem State.modifySlot_freeUses (s : State) (i : Fin 4) (f : Slot → Slot) : (s.modifySlot i f).freeUses = s.freeUses := rfl
@[simp] theorem State.modifySlot_pending (s : State) (i : Fin 4) (f : Slot → Slot) : (s.modifySlot i f).pending = s.pending := rfl

/-! `State.modifyPeer` -/

@[simp] theorem State.modifyPeer_now (s : State) (n : Nat) (f : PeerRecord → PeerRecord) : (s.modifyPeer n f).now = s.now := rfl
@[simp] theorem State.modifyPeer_sampleDue (s : State) (n : Nat) (f : PeerRecord → PeerRecord) : (s.modifyPeer n f).sampleDue = s.sampleDue := rfl
@[simp] theorem State.modifyPeer_phase (s : State) (n : Nat) (f : PeerRecord → PeerRecord) : (s.modifyPeer n f).phase = s.phase := rfl
@[simp] theorem State.modifyPeer_restartHeld (s : State) (n : Nat) (f : PeerRecord → PeerRecord) : (s.modifyPeer n f).restartHeld = s.restartHeld := rfl
@[simp] theorem State.modifyPeer_restartFrom (s : State) (n : Nat) (f : PeerRecord → PeerRecord) : (s.modifyPeer n f).restartFrom = s.restartFrom := rfl
@[simp] theorem State.modifyPeer_reading (s : State) (n : Nat) (f : PeerRecord → PeerRecord) : (s.modifyPeer n f).reading = s.reading := rfl
@[simp] theorem State.modifyPeer_selfTest (s : State) (n : Nat) (f : PeerRecord → PeerRecord) : (s.modifyPeer n f).selfTest = s.selfTest := rfl
@[simp] theorem State.modifyPeer_selfTestSince (s : State) (n : Nat) (f : PeerRecord → PeerRecord) : (s.modifyPeer n f).selfTestSince = s.selfTestSince := rfl
@[simp] theorem State.modifyPeer_silenceOver (s : State) (n : Nat) (f : PeerRecord → PeerRecord) : (s.modifyPeer n f).silenceOver = s.silenceOver := rfl
@[simp] theorem State.modifyPeer_config (s : State) (n : Nat) (f : PeerRecord → PeerRecord) : (s.modifyPeer n f).config = s.config := rfl
@[simp] theorem State.modifyPeer_passAt (s : State) (n : Nat) (f : PeerRecord → PeerRecord) : (s.modifyPeer n f).passAt = s.passAt := rfl
@[simp] theorem State.modifyPeer_lockdown (s : State) (n : Nat) (f : PeerRecord → PeerRecord) : (s.modifyPeer n f).lockdown = s.lockdown := rfl
@[simp] theorem State.modifyPeer_lockdownRecord (s : State) (n : Nat) (f : PeerRecord → PeerRecord) : (s.modifyPeer n f).lockdownRecord = s.lockdownRecord := rfl
@[simp] theorem State.modifyPeer_head (s : State) (n : Nat) (f : PeerRecord → PeerRecord) : (s.modifyPeer n f).head = s.head := rfl
@[simp] theorem State.modifyPeer_detector (s : State) (n : Nat) (f : PeerRecord → PeerRecord) : (s.modifyPeer n f).detector = s.detector := rfl
@[simp] theorem State.modifyPeer_txy (s : State) (n : Nat) (f : PeerRecord → PeerRecord) : (s.modifyPeer n f).txy = s.txy := rfl
@[simp] theorem State.modifyPeer_tyx (s : State) (n : Nat) (f : PeerRecord → PeerRecord) : (s.modifyPeer n f).tyx = s.tyx := rfl
@[simp] theorem State.modifyPeer_log (s : State) (n : Nat) (f : PeerRecord → PeerRecord) : (s.modifyPeer n f).log = s.log := rfl
@[simp] theorem State.modifyPeer_line (s : State) (n : Nat) (f : PeerRecord → PeerRecord) : (s.modifyPeer n f).line = s.line := rfl
@[simp] theorem State.modifyPeer_handed (s : State) (n : Nat) (f : PeerRecord → PeerRecord) : (s.modifyPeer n f).handed = s.handed := rfl
@[simp] theorem State.modifyPeer_builder (s : State) (n : Nat) (f : PeerRecord → PeerRecord) : (s.modifyPeer n f).builder = s.builder := rfl
@[simp] theorem State.modifyPeer_slots (s : State) (n : Nat) (f : PeerRecord → PeerRecord) : (s.modifyPeer n f).slots = s.slots := rfl
@[simp] theorem State.modifyPeer_operator (s : State) (n : Nat) (f : PeerRecord → PeerRecord) : (s.modifyPeer n f).operator = s.operator := rfl
@[simp] theorem State.modifyPeer_lanes (s : State) (n : Nat) (f : PeerRecord → PeerRecord) : (s.modifyPeer n f).lanes = s.lanes := rfl
@[simp] theorem State.modifyPeer_outputs (s : State) (n : Nat) (f : PeerRecord → PeerRecord) : (s.modifyPeer n f).outputs = s.outputs := rfl
@[simp] theorem State.modifyPeer_pins (s : State) (n : Nat) (f : PeerRecord → PeerRecord) : (s.modifyPeer n f).pins = s.pins := rfl
@[simp] theorem State.modifyPeer_freeUses (s : State) (n : Nat) (f : PeerRecord → PeerRecord) : (s.modifyPeer n f).freeUses = s.freeUses := rfl
@[simp] theorem State.modifyPeer_pending (s : State) (n : Nat) (f : PeerRecord → PeerRecord) : (s.modifyPeer n f).pending = s.pending := rfl

/-! `judgeSlots` -/

@[simp] theorem judgeSlots_now (p : Slot → Bool) (s : State) : (judgeSlots p s).now = s.now := rfl
@[simp] theorem judgeSlots_sampleDue (p : Slot → Bool) (s : State) : (judgeSlots p s).sampleDue = s.sampleDue := rfl
@[simp] theorem judgeSlots_phase (p : Slot → Bool) (s : State) : (judgeSlots p s).phase = s.phase := rfl
@[simp] theorem judgeSlots_restartHeld (p : Slot → Bool) (s : State) : (judgeSlots p s).restartHeld = s.restartHeld := rfl
@[simp] theorem judgeSlots_restartFrom (p : Slot → Bool) (s : State) : (judgeSlots p s).restartFrom = s.restartFrom := rfl
@[simp] theorem judgeSlots_reading (p : Slot → Bool) (s : State) : (judgeSlots p s).reading = s.reading := rfl
@[simp] theorem judgeSlots_selfTest (p : Slot → Bool) (s : State) : (judgeSlots p s).selfTest = s.selfTest := rfl
@[simp] theorem judgeSlots_selfTestSince (p : Slot → Bool) (s : State) : (judgeSlots p s).selfTestSince = s.selfTestSince := rfl
@[simp] theorem judgeSlots_silenceOver (p : Slot → Bool) (s : State) : (judgeSlots p s).silenceOver = s.silenceOver := rfl
@[simp] theorem judgeSlots_config (p : Slot → Bool) (s : State) : (judgeSlots p s).config = s.config := rfl
@[simp] theorem judgeSlots_passAt (p : Slot → Bool) (s : State) : (judgeSlots p s).passAt = s.passAt := rfl
@[simp] theorem judgeSlots_lockdown (p : Slot → Bool) (s : State) : (judgeSlots p s).lockdown = s.lockdown := rfl
@[simp] theorem judgeSlots_lockdownRecord (p : Slot → Bool) (s : State) : (judgeSlots p s).lockdownRecord = s.lockdownRecord := rfl
@[simp] theorem judgeSlots_head (p : Slot → Bool) (s : State) : (judgeSlots p s).head = s.head := rfl
@[simp] theorem judgeSlots_detector (p : Slot → Bool) (s : State) : (judgeSlots p s).detector = s.detector := rfl
@[simp] theorem judgeSlots_txy (p : Slot → Bool) (s : State) : (judgeSlots p s).txy = s.txy := rfl
@[simp] theorem judgeSlots_tyx (p : Slot → Bool) (s : State) : (judgeSlots p s).tyx = s.tyx := rfl
@[simp] theorem judgeSlots_log (p : Slot → Bool) (s : State) : (judgeSlots p s).log = s.log := rfl
@[simp] theorem judgeSlots_line (p : Slot → Bool) (s : State) : (judgeSlots p s).line = s.line := rfl
@[simp] theorem judgeSlots_handed (p : Slot → Bool) (s : State) : (judgeSlots p s).handed = s.handed := rfl
@[simp] theorem judgeSlots_builder (p : Slot → Bool) (s : State) : (judgeSlots p s).builder = s.builder := rfl
@[simp] theorem judgeSlots_peers (p : Slot → Bool) (s : State) : (judgeSlots p s).peers = s.peers := rfl
@[simp] theorem judgeSlots_operator (p : Slot → Bool) (s : State) : (judgeSlots p s).operator = s.operator := rfl
@[simp] theorem judgeSlots_lanes (p : Slot → Bool) (s : State) : (judgeSlots p s).lanes = s.lanes := rfl
@[simp] theorem judgeSlots_outputs (p : Slot → Bool) (s : State) : (judgeSlots p s).outputs = s.outputs := rfl
@[simp] theorem judgeSlots_pins (p : Slot → Bool) (s : State) : (judgeSlots p s).pins = s.pins := rfl
@[simp] theorem judgeSlots_freeUses (p : Slot → Bool) (s : State) : (judgeSlots p s).freeUses = s.freeUses := rfl
@[simp] theorem judgeSlots_pending (p : Slot → Bool) (s : State) : (judgeSlots p s).pending = s.pending := rfl

/-! `judgeAll` -/

@[simp] theorem judgeAll_now (s : State) : (judgeAll s).now = s.now := rfl
@[simp] theorem judgeAll_sampleDue (s : State) : (judgeAll s).sampleDue = s.sampleDue := rfl
@[simp] theorem judgeAll_phase (s : State) : (judgeAll s).phase = s.phase := rfl
@[simp] theorem judgeAll_restartHeld (s : State) : (judgeAll s).restartHeld = s.restartHeld := rfl
@[simp] theorem judgeAll_restartFrom (s : State) : (judgeAll s).restartFrom = s.restartFrom := rfl
@[simp] theorem judgeAll_reading (s : State) : (judgeAll s).reading = s.reading := rfl
@[simp] theorem judgeAll_selfTest (s : State) : (judgeAll s).selfTest = s.selfTest := rfl
@[simp] theorem judgeAll_selfTestSince (s : State) : (judgeAll s).selfTestSince = s.selfTestSince := rfl
@[simp] theorem judgeAll_silenceOver (s : State) : (judgeAll s).silenceOver = s.silenceOver := rfl
@[simp] theorem judgeAll_config (s : State) : (judgeAll s).config = s.config := rfl
@[simp] theorem judgeAll_passAt (s : State) : (judgeAll s).passAt = s.passAt := rfl
@[simp] theorem judgeAll_lockdown (s : State) : (judgeAll s).lockdown = s.lockdown := rfl
@[simp] theorem judgeAll_lockdownRecord (s : State) : (judgeAll s).lockdownRecord = s.lockdownRecord := rfl
@[simp] theorem judgeAll_head (s : State) : (judgeAll s).head = s.head := rfl
@[simp] theorem judgeAll_detector (s : State) : (judgeAll s).detector = s.detector := rfl
@[simp] theorem judgeAll_txy (s : State) : (judgeAll s).txy = s.txy := rfl
@[simp] theorem judgeAll_tyx (s : State) : (judgeAll s).tyx = s.tyx := rfl
@[simp] theorem judgeAll_log (s : State) : (judgeAll s).log = s.log := rfl
@[simp] theorem judgeAll_line (s : State) : (judgeAll s).line = s.line := rfl
@[simp] theorem judgeAll_handed (s : State) : (judgeAll s).handed = s.handed := rfl
@[simp] theorem judgeAll_builder (s : State) : (judgeAll s).builder = s.builder := rfl
@[simp] theorem judgeAll_peers (s : State) : (judgeAll s).peers = s.peers := rfl
@[simp] theorem judgeAll_operator (s : State) : (judgeAll s).operator = s.operator := rfl
@[simp] theorem judgeAll_lanes (s : State) : (judgeAll s).lanes = s.lanes := rfl
@[simp] theorem judgeAll_outputs (s : State) : (judgeAll s).outputs = s.outputs := rfl
@[simp] theorem judgeAll_pins (s : State) : (judgeAll s).pins = s.pins := rfl
@[simp] theorem judgeAll_freeUses (s : State) : (judgeAll s).freeUses = s.freeUses := rfl
@[simp] theorem judgeAll_pending (s : State) : (judgeAll s).pending = s.pending := rfl

/-! `judgeUsing` -/

@[simp] theorem judgeUsing_now (n : Nat) (s : State) : (judgeUsing n s).now = s.now := rfl
@[simp] theorem judgeUsing_sampleDue (n : Nat) (s : State) : (judgeUsing n s).sampleDue = s.sampleDue := rfl
@[simp] theorem judgeUsing_phase (n : Nat) (s : State) : (judgeUsing n s).phase = s.phase := rfl
@[simp] theorem judgeUsing_restartHeld (n : Nat) (s : State) : (judgeUsing n s).restartHeld = s.restartHeld := rfl
@[simp] theorem judgeUsing_restartFrom (n : Nat) (s : State) : (judgeUsing n s).restartFrom = s.restartFrom := rfl
@[simp] theorem judgeUsing_reading (n : Nat) (s : State) : (judgeUsing n s).reading = s.reading := rfl
@[simp] theorem judgeUsing_selfTest (n : Nat) (s : State) : (judgeUsing n s).selfTest = s.selfTest := rfl
@[simp] theorem judgeUsing_selfTestSince (n : Nat) (s : State) : (judgeUsing n s).selfTestSince = s.selfTestSince := rfl
@[simp] theorem judgeUsing_silenceOver (n : Nat) (s : State) : (judgeUsing n s).silenceOver = s.silenceOver := rfl
@[simp] theorem judgeUsing_config (n : Nat) (s : State) : (judgeUsing n s).config = s.config := rfl
@[simp] theorem judgeUsing_passAt (n : Nat) (s : State) : (judgeUsing n s).passAt = s.passAt := rfl
@[simp] theorem judgeUsing_lockdown (n : Nat) (s : State) : (judgeUsing n s).lockdown = s.lockdown := rfl
@[simp] theorem judgeUsing_lockdownRecord (n : Nat) (s : State) : (judgeUsing n s).lockdownRecord = s.lockdownRecord := rfl
@[simp] theorem judgeUsing_head (n : Nat) (s : State) : (judgeUsing n s).head = s.head := rfl
@[simp] theorem judgeUsing_detector (n : Nat) (s : State) : (judgeUsing n s).detector = s.detector := rfl
@[simp] theorem judgeUsing_txy (n : Nat) (s : State) : (judgeUsing n s).txy = s.txy := rfl
@[simp] theorem judgeUsing_tyx (n : Nat) (s : State) : (judgeUsing n s).tyx = s.tyx := rfl
@[simp] theorem judgeUsing_log (n : Nat) (s : State) : (judgeUsing n s).log = s.log := rfl
@[simp] theorem judgeUsing_line (n : Nat) (s : State) : (judgeUsing n s).line = s.line := rfl
@[simp] theorem judgeUsing_handed (n : Nat) (s : State) : (judgeUsing n s).handed = s.handed := rfl
@[simp] theorem judgeUsing_builder (n : Nat) (s : State) : (judgeUsing n s).builder = s.builder := rfl
@[simp] theorem judgeUsing_peers (n : Nat) (s : State) : (judgeUsing n s).peers = s.peers := rfl
@[simp] theorem judgeUsing_operator (n : Nat) (s : State) : (judgeUsing n s).operator = s.operator := rfl
@[simp] theorem judgeUsing_lanes (n : Nat) (s : State) : (judgeUsing n s).lanes = s.lanes := rfl
@[simp] theorem judgeUsing_outputs (n : Nat) (s : State) : (judgeUsing n s).outputs = s.outputs := rfl
@[simp] theorem judgeUsing_pins (n : Nat) (s : State) : (judgeUsing n s).pins = s.pins := rfl
@[simp] theorem judgeUsing_freeUses (n : Nat) (s : State) : (judgeUsing n s).freeUses = s.freeUses := rfl
@[simp] theorem judgeUsing_pending (n : Nat) (s : State) : (judgeUsing n s).pending = s.pending := rfl

/-! `leaveSets` -/

@[simp] theorem leaveSets_now (n : Nat) (s : State) : (leaveSets n s).now = s.now := rfl
@[simp] theorem leaveSets_sampleDue (n : Nat) (s : State) : (leaveSets n s).sampleDue = s.sampleDue := rfl
@[simp] theorem leaveSets_phase (n : Nat) (s : State) : (leaveSets n s).phase = s.phase := rfl
@[simp] theorem leaveSets_restartHeld (n : Nat) (s : State) : (leaveSets n s).restartHeld = s.restartHeld := rfl
@[simp] theorem leaveSets_restartFrom (n : Nat) (s : State) : (leaveSets n s).restartFrom = s.restartFrom := rfl
@[simp] theorem leaveSets_reading (n : Nat) (s : State) : (leaveSets n s).reading = s.reading := rfl
@[simp] theorem leaveSets_selfTest (n : Nat) (s : State) : (leaveSets n s).selfTest = s.selfTest := rfl
@[simp] theorem leaveSets_selfTestSince (n : Nat) (s : State) : (leaveSets n s).selfTestSince = s.selfTestSince := rfl
@[simp] theorem leaveSets_silenceOver (n : Nat) (s : State) : (leaveSets n s).silenceOver = s.silenceOver := rfl
@[simp] theorem leaveSets_config (n : Nat) (s : State) : (leaveSets n s).config = s.config := rfl
@[simp] theorem leaveSets_passAt (n : Nat) (s : State) : (leaveSets n s).passAt = s.passAt := rfl
@[simp] theorem leaveSets_lockdown (n : Nat) (s : State) : (leaveSets n s).lockdown = s.lockdown := rfl
@[simp] theorem leaveSets_lockdownRecord (n : Nat) (s : State) : (leaveSets n s).lockdownRecord = s.lockdownRecord := rfl
@[simp] theorem leaveSets_head (n : Nat) (s : State) : (leaveSets n s).head = s.head := rfl
@[simp] theorem leaveSets_detector (n : Nat) (s : State) : (leaveSets n s).detector = s.detector := rfl
@[simp] theorem leaveSets_txy (n : Nat) (s : State) : (leaveSets n s).txy = s.txy := rfl
@[simp] theorem leaveSets_tyx (n : Nat) (s : State) : (leaveSets n s).tyx = s.tyx := rfl
@[simp] theorem leaveSets_log (n : Nat) (s : State) : (leaveSets n s).log = s.log := rfl
@[simp] theorem leaveSets_line (n : Nat) (s : State) : (leaveSets n s).line = s.line := rfl
@[simp] theorem leaveSets_handed (n : Nat) (s : State) : (leaveSets n s).handed = s.handed := rfl
@[simp] theorem leaveSets_builder (n : Nat) (s : State) : (leaveSets n s).builder = s.builder := rfl
@[simp] theorem leaveSets_peers (n : Nat) (s : State) : (leaveSets n s).peers = s.peers := rfl
@[simp] theorem leaveSets_operator (n : Nat) (s : State) : (leaveSets n s).operator = s.operator := rfl
@[simp] theorem leaveSets_lanes (n : Nat) (s : State) : (leaveSets n s).lanes = s.lanes := rfl
@[simp] theorem leaveSets_outputs (n : Nat) (s : State) : (leaveSets n s).outputs = s.outputs := rfl
@[simp] theorem leaveSets_pins (n : Nat) (s : State) : (leaveSets n s).pins = s.pins := rfl
@[simp] theorem leaveSets_freeUses (n : Nat) (s : State) : (leaveSets n s).freeUses = s.freeUses := rfl
@[simp] theorem leaveSets_pending (n : Nat) (s : State) : (leaveSets n s).pending = s.pending := rfl

/-! `forgetIdentities` -/

@[simp] theorem forgetIdentities_now (n : Nat) (s : State) : (forgetIdentities n s).now = s.now := rfl
@[simp] theorem forgetIdentities_sampleDue (n : Nat) (s : State) : (forgetIdentities n s).sampleDue = s.sampleDue := rfl
@[simp] theorem forgetIdentities_phase (n : Nat) (s : State) : (forgetIdentities n s).phase = s.phase := rfl
@[simp] theorem forgetIdentities_restartHeld (n : Nat) (s : State) : (forgetIdentities n s).restartHeld = s.restartHeld := rfl
@[simp] theorem forgetIdentities_restartFrom (n : Nat) (s : State) : (forgetIdentities n s).restartFrom = s.restartFrom := rfl
@[simp] theorem forgetIdentities_reading (n : Nat) (s : State) : (forgetIdentities n s).reading = s.reading := rfl
@[simp] theorem forgetIdentities_selfTest (n : Nat) (s : State) : (forgetIdentities n s).selfTest = s.selfTest := rfl
@[simp] theorem forgetIdentities_selfTestSince (n : Nat) (s : State) : (forgetIdentities n s).selfTestSince = s.selfTestSince := rfl
@[simp] theorem forgetIdentities_silenceOver (n : Nat) (s : State) : (forgetIdentities n s).silenceOver = s.silenceOver := rfl
@[simp] theorem forgetIdentities_config (n : Nat) (s : State) : (forgetIdentities n s).config = s.config := rfl
@[simp] theorem forgetIdentities_passAt (n : Nat) (s : State) : (forgetIdentities n s).passAt = s.passAt := rfl
@[simp] theorem forgetIdentities_lockdown (n : Nat) (s : State) : (forgetIdentities n s).lockdown = s.lockdown := rfl
@[simp] theorem forgetIdentities_lockdownRecord (n : Nat) (s : State) : (forgetIdentities n s).lockdownRecord = s.lockdownRecord := rfl
@[simp] theorem forgetIdentities_head (n : Nat) (s : State) : (forgetIdentities n s).head = s.head := rfl
@[simp] theorem forgetIdentities_detector (n : Nat) (s : State) : (forgetIdentities n s).detector = s.detector := rfl
@[simp] theorem forgetIdentities_txy (n : Nat) (s : State) : (forgetIdentities n s).txy = s.txy := rfl
@[simp] theorem forgetIdentities_tyx (n : Nat) (s : State) : (forgetIdentities n s).tyx = s.tyx := rfl
@[simp] theorem forgetIdentities_log (n : Nat) (s : State) : (forgetIdentities n s).log = s.log := rfl
@[simp] theorem forgetIdentities_line (n : Nat) (s : State) : (forgetIdentities n s).line = s.line := rfl
@[simp] theorem forgetIdentities_handed (n : Nat) (s : State) : (forgetIdentities n s).handed = s.handed := rfl
@[simp] theorem forgetIdentities_builder (n : Nat) (s : State) : (forgetIdentities n s).builder = s.builder := rfl
@[simp] theorem forgetIdentities_peers (n : Nat) (s : State) : (forgetIdentities n s).peers = s.peers := rfl
@[simp] theorem forgetIdentities_operator (n : Nat) (s : State) : (forgetIdentities n s).operator = s.operator := rfl
@[simp] theorem forgetIdentities_lanes (n : Nat) (s : State) : (forgetIdentities n s).lanes = s.lanes := rfl
@[simp] theorem forgetIdentities_outputs (n : Nat) (s : State) : (forgetIdentities n s).outputs = s.outputs := rfl
@[simp] theorem forgetIdentities_pins (n : Nat) (s : State) : (forgetIdentities n s).pins = s.pins := rfl
@[simp] theorem forgetIdentities_freeUses (n : Nat) (s : State) : (forgetIdentities n s).freeUses = s.freeUses := rfl
@[simp] theorem forgetIdentities_pending (n : Nat) (s : State) : (forgetIdentities n s).pending = s.pending := rfl

/-! `catchUp` -/

@[simp] theorem catchUp_now (s : State) : (catchUp s).now = s.now := rfl
@[simp] theorem catchUp_sampleDue (s : State) : (catchUp s).sampleDue = s.sampleDue := rfl
@[simp] theorem catchUp_phase (s : State) : (catchUp s).phase = s.phase := rfl
@[simp] theorem catchUp_restartHeld (s : State) : (catchUp s).restartHeld = s.restartHeld := rfl
@[simp] theorem catchUp_restartFrom (s : State) : (catchUp s).restartFrom = s.restartFrom := rfl
@[simp] theorem catchUp_reading (s : State) : (catchUp s).reading = s.reading := rfl
@[simp] theorem catchUp_selfTest (s : State) : (catchUp s).selfTest = s.selfTest := rfl
@[simp] theorem catchUp_selfTestSince (s : State) : (catchUp s).selfTestSince = s.selfTestSince := rfl
@[simp] theorem catchUp_silenceOver (s : State) : (catchUp s).silenceOver = s.silenceOver := rfl
@[simp] theorem catchUp_config (s : State) : (catchUp s).config = s.config := rfl
@[simp] theorem catchUp_passAt (s : State) : (catchUp s).passAt = s.passAt := rfl
@[simp] theorem catchUp_lockdown (s : State) : (catchUp s).lockdown = s.lockdown := rfl
@[simp] theorem catchUp_lockdownRecord (s : State) : (catchUp s).lockdownRecord = s.lockdownRecord := rfl
@[simp] theorem catchUp_head (s : State) : (catchUp s).head = s.head := rfl
@[simp] theorem catchUp_detector (s : State) : (catchUp s).detector = s.detector := rfl
@[simp] theorem catchUp_txy (s : State) : (catchUp s).txy = s.txy := rfl
@[simp] theorem catchUp_tyx (s : State) : (catchUp s).tyx = s.tyx := rfl
@[simp] theorem catchUp_log (s : State) : (catchUp s).log = s.log := rfl
@[simp] theorem catchUp_line (s : State) : (catchUp s).line = s.line := rfl
@[simp] theorem catchUp_handed (s : State) : (catchUp s).handed = s.handed := rfl
@[simp] theorem catchUp_builder (s : State) : (catchUp s).builder = s.builder := rfl
@[simp] theorem catchUp_peers (s : State) : (catchUp s).peers = s.peers := rfl
@[simp] theorem catchUp_slots (s : State) : (catchUp s).slots = s.slots := rfl
@[simp] theorem catchUp_operator (s : State) : (catchUp s).operator = s.operator := rfl
@[simp] theorem catchUp_outputs (s : State) : (catchUp s).outputs = s.outputs := rfl
@[simp] theorem catchUp_pins (s : State) : (catchUp s).pins = s.pins := rfl
@[simp] theorem catchUp_freeUses (s : State) : (catchUp s).freeUses = s.freeUses := rfl
@[simp] theorem catchUp_pending (s : State) : (catchUp s).pending = s.pending := rfl

/-! `noteLanes` -/

@[simp] theorem noteLanes_now (s : State) : (noteLanes s).now = s.now := rfl
@[simp] theorem noteLanes_sampleDue (s : State) : (noteLanes s).sampleDue = s.sampleDue := rfl
@[simp] theorem noteLanes_phase (s : State) : (noteLanes s).phase = s.phase := rfl
@[simp] theorem noteLanes_restartHeld (s : State) : (noteLanes s).restartHeld = s.restartHeld := rfl
@[simp] theorem noteLanes_restartFrom (s : State) : (noteLanes s).restartFrom = s.restartFrom := rfl
@[simp] theorem noteLanes_reading (s : State) : (noteLanes s).reading = s.reading := rfl
@[simp] theorem noteLanes_selfTest (s : State) : (noteLanes s).selfTest = s.selfTest := rfl
@[simp] theorem noteLanes_selfTestSince (s : State) : (noteLanes s).selfTestSince = s.selfTestSince := rfl
@[simp] theorem noteLanes_silenceOver (s : State) : (noteLanes s).silenceOver = s.silenceOver := rfl
@[simp] theorem noteLanes_config (s : State) : (noteLanes s).config = s.config := rfl
@[simp] theorem noteLanes_passAt (s : State) : (noteLanes s).passAt = s.passAt := rfl
@[simp] theorem noteLanes_lockdown (s : State) : (noteLanes s).lockdown = s.lockdown := rfl
@[simp] theorem noteLanes_lockdownRecord (s : State) : (noteLanes s).lockdownRecord = s.lockdownRecord := rfl
@[simp] theorem noteLanes_head (s : State) : (noteLanes s).head = s.head := rfl
@[simp] theorem noteLanes_detector (s : State) : (noteLanes s).detector = s.detector := rfl
@[simp] theorem noteLanes_txy (s : State) : (noteLanes s).txy = s.txy := rfl
@[simp] theorem noteLanes_tyx (s : State) : (noteLanes s).tyx = s.tyx := rfl
@[simp] theorem noteLanes_log (s : State) : (noteLanes s).log = s.log := rfl
@[simp] theorem noteLanes_line (s : State) : (noteLanes s).line = s.line := rfl
@[simp] theorem noteLanes_handed (s : State) : (noteLanes s).handed = s.handed := rfl
@[simp] theorem noteLanes_builder (s : State) : (noteLanes s).builder = s.builder := rfl
@[simp] theorem noteLanes_peers (s : State) : (noteLanes s).peers = s.peers := rfl
@[simp] theorem noteLanes_slots (s : State) : (noteLanes s).slots = s.slots := rfl
@[simp] theorem noteLanes_operator (s : State) : (noteLanes s).operator = s.operator := rfl
@[simp] theorem noteLanes_outputs (s : State) : (noteLanes s).outputs = s.outputs := rfl
@[simp] theorem noteLanes_pins (s : State) : (noteLanes s).pins = s.pins := rfl
@[simp] theorem noteLanes_freeUses (s : State) : (noteLanes s).freeUses = s.freeUses := rfl
@[simp] theorem noteLanes_pending (s : State) : (noteLanes s).pending = s.pending := rfl

/-! `alignLanes` -/

@[simp] theorem alignLanes_now (s : State) : (alignLanes s).now = s.now := rfl
@[simp] theorem alignLanes_sampleDue (s : State) : (alignLanes s).sampleDue = s.sampleDue := rfl
@[simp] theorem alignLanes_phase (s : State) : (alignLanes s).phase = s.phase := rfl
@[simp] theorem alignLanes_restartHeld (s : State) : (alignLanes s).restartHeld = s.restartHeld := rfl
@[simp] theorem alignLanes_restartFrom (s : State) : (alignLanes s).restartFrom = s.restartFrom := rfl
@[simp] theorem alignLanes_reading (s : State) : (alignLanes s).reading = s.reading := rfl
@[simp] theorem alignLanes_selfTest (s : State) : (alignLanes s).selfTest = s.selfTest := rfl
@[simp] theorem alignLanes_selfTestSince (s : State) : (alignLanes s).selfTestSince = s.selfTestSince := rfl
@[simp] theorem alignLanes_silenceOver (s : State) : (alignLanes s).silenceOver = s.silenceOver := rfl
@[simp] theorem alignLanes_config (s : State) : (alignLanes s).config = s.config := rfl
@[simp] theorem alignLanes_passAt (s : State) : (alignLanes s).passAt = s.passAt := rfl
@[simp] theorem alignLanes_lockdown (s : State) : (alignLanes s).lockdown = s.lockdown := rfl
@[simp] theorem alignLanes_lockdownRecord (s : State) : (alignLanes s).lockdownRecord = s.lockdownRecord := rfl
@[simp] theorem alignLanes_head (s : State) : (alignLanes s).head = s.head := rfl
@[simp] theorem alignLanes_detector (s : State) : (alignLanes s).detector = s.detector := rfl
@[simp] theorem alignLanes_txy (s : State) : (alignLanes s).txy = s.txy := rfl
@[simp] theorem alignLanes_tyx (s : State) : (alignLanes s).tyx = s.tyx := rfl
@[simp] theorem alignLanes_log (s : State) : (alignLanes s).log = s.log := rfl
@[simp] theorem alignLanes_line (s : State) : (alignLanes s).line = s.line := rfl
@[simp] theorem alignLanes_handed (s : State) : (alignLanes s).handed = s.handed := rfl
@[simp] theorem alignLanes_builder (s : State) : (alignLanes s).builder = s.builder := rfl
@[simp] theorem alignLanes_peers (s : State) : (alignLanes s).peers = s.peers := rfl
@[simp] theorem alignLanes_slots (s : State) : (alignLanes s).slots = s.slots := rfl
@[simp] theorem alignLanes_operator (s : State) : (alignLanes s).operator = s.operator := rfl
@[simp] theorem alignLanes_outputs (s : State) : (alignLanes s).outputs = s.outputs := rfl
@[simp] theorem alignLanes_pins (s : State) : (alignLanes s).pins = s.pins := rfl
@[simp] theorem alignLanes_freeUses (s : State) : (alignLanes s).freeUses = s.freeUses := rfl
@[simp] theorem alignLanes_pending (s : State) : (alignLanes s).pending = s.pending := rfl

/-! `State.pass` -/

@[simp] theorem State.pass_sampleDue (s : State) (dt : Nat) : (s.pass dt).sampleDue = s.sampleDue := rfl
@[simp] theorem State.pass_phase (s : State) (dt : Nat) : (s.pass dt).phase = s.phase := rfl
@[simp] theorem State.pass_restartHeld (s : State) (dt : Nat) : (s.pass dt).restartHeld = s.restartHeld := rfl
@[simp] theorem State.pass_restartFrom (s : State) (dt : Nat) : (s.pass dt).restartFrom = s.restartFrom := rfl
@[simp] theorem State.pass_reading (s : State) (dt : Nat) : (s.pass dt).reading = s.reading := rfl
@[simp] theorem State.pass_selfTest (s : State) (dt : Nat) : (s.pass dt).selfTest = s.selfTest := rfl
@[simp] theorem State.pass_selfTestSince (s : State) (dt : Nat) : (s.pass dt).selfTestSince = s.selfTestSince := rfl
@[simp] theorem State.pass_silenceOver (s : State) (dt : Nat) : (s.pass dt).silenceOver = s.silenceOver := rfl
@[simp] theorem State.pass_config (s : State) (dt : Nat) : (s.pass dt).config = s.config := rfl
@[simp] theorem State.pass_passAt (s : State) (dt : Nat) : (s.pass dt).passAt = s.passAt := rfl
@[simp] theorem State.pass_lockdown (s : State) (dt : Nat) : (s.pass dt).lockdown = s.lockdown := rfl
@[simp] theorem State.pass_lockdownRecord (s : State) (dt : Nat) : (s.pass dt).lockdownRecord = s.lockdownRecord := rfl
@[simp] theorem State.pass_head (s : State) (dt : Nat) : (s.pass dt).head = s.head := rfl
@[simp] theorem State.pass_detector (s : State) (dt : Nat) : (s.pass dt).detector = s.detector := rfl
@[simp] theorem State.pass_txy (s : State) (dt : Nat) : (s.pass dt).txy = s.txy := rfl
@[simp] theorem State.pass_tyx (s : State) (dt : Nat) : (s.pass dt).tyx = s.tyx := rfl
@[simp] theorem State.pass_log (s : State) (dt : Nat) : (s.pass dt).log = s.log := rfl
@[simp] theorem State.pass_line (s : State) (dt : Nat) : (s.pass dt).line = s.line := rfl
@[simp] theorem State.pass_handed (s : State) (dt : Nat) : (s.pass dt).handed = s.handed := rfl
@[simp] theorem State.pass_builder (s : State) (dt : Nat) : (s.pass dt).builder = s.builder := rfl
@[simp] theorem State.pass_peers (s : State) (dt : Nat) : (s.pass dt).peers = s.peers := rfl
@[simp] theorem State.pass_slots (s : State) (dt : Nat) : (s.pass dt).slots = s.slots := rfl
@[simp] theorem State.pass_operator (s : State) (dt : Nat) : (s.pass dt).operator = s.operator := rfl
@[simp] theorem State.pass_outputs (s : State) (dt : Nat) : (s.pass dt).outputs = s.outputs := rfl
@[simp] theorem State.pass_pins (s : State) (dt : Nat) : (s.pass dt).pins = s.pins := rfl
@[simp] theorem State.pass_freeUses (s : State) (dt : Nat) : (s.pass dt).freeUses = s.freeUses := rfl
@[simp] theorem State.pass_pending (s : State) (dt : Nat) : (s.pass dt).pending = s.pending := rfl

/-! `State.reach` -/

@[simp] theorem State.reach_sampleDue (s : State) (t : Tick) : (s.reach t).sampleDue = s.sampleDue := rfl
@[simp] theorem State.reach_phase (s : State) (t : Tick) : (s.reach t).phase = s.phase := rfl
@[simp] theorem State.reach_restartHeld (s : State) (t : Tick) : (s.reach t).restartHeld = s.restartHeld := rfl
@[simp] theorem State.reach_restartFrom (s : State) (t : Tick) : (s.reach t).restartFrom = s.restartFrom := rfl
@[simp] theorem State.reach_reading (s : State) (t : Tick) : (s.reach t).reading = s.reading := rfl
@[simp] theorem State.reach_selfTest (s : State) (t : Tick) : (s.reach t).selfTest = s.selfTest := rfl
@[simp] theorem State.reach_selfTestSince (s : State) (t : Tick) : (s.reach t).selfTestSince = s.selfTestSince := rfl
@[simp] theorem State.reach_silenceOver (s : State) (t : Tick) : (s.reach t).silenceOver = s.silenceOver := rfl
@[simp] theorem State.reach_config (s : State) (t : Tick) : (s.reach t).config = s.config := rfl
@[simp] theorem State.reach_passAt (s : State) (t : Tick) : (s.reach t).passAt = s.passAt := rfl
@[simp] theorem State.reach_lockdown (s : State) (t : Tick) : (s.reach t).lockdown = s.lockdown := rfl
@[simp] theorem State.reach_lockdownRecord (s : State) (t : Tick) : (s.reach t).lockdownRecord = s.lockdownRecord := rfl
@[simp] theorem State.reach_head (s : State) (t : Tick) : (s.reach t).head = s.head := rfl
@[simp] theorem State.reach_detector (s : State) (t : Tick) : (s.reach t).detector = s.detector := rfl
@[simp] theorem State.reach_txy (s : State) (t : Tick) : (s.reach t).txy = s.txy := rfl
@[simp] theorem State.reach_tyx (s : State) (t : Tick) : (s.reach t).tyx = s.tyx := rfl
@[simp] theorem State.reach_log (s : State) (t : Tick) : (s.reach t).log = s.log := rfl
@[simp] theorem State.reach_line (s : State) (t : Tick) : (s.reach t).line = s.line := rfl
@[simp] theorem State.reach_handed (s : State) (t : Tick) : (s.reach t).handed = s.handed := rfl
@[simp] theorem State.reach_builder (s : State) (t : Tick) : (s.reach t).builder = s.builder := rfl
@[simp] theorem State.reach_peers (s : State) (t : Tick) : (s.reach t).peers = s.peers := rfl
@[simp] theorem State.reach_slots (s : State) (t : Tick) : (s.reach t).slots = s.slots := rfl
@[simp] theorem State.reach_operator (s : State) (t : Tick) : (s.reach t).operator = s.operator := rfl
@[simp] theorem State.reach_outputs (s : State) (t : Tick) : (s.reach t).outputs = s.outputs := rfl
@[simp] theorem State.reach_pins (s : State) (t : Tick) : (s.reach t).pins = s.pins := rfl
@[simp] theorem State.reach_freeUses (s : State) (t : Tick) : (s.reach t).freeUses = s.freeUses := rfl
@[simp] theorem State.reach_pending (s : State) (t : Tick) : (s.reach t).pending = s.pending := rfl

/-! `takeItems` -/

@[simp] theorem takeItems_now (o : TakingOrder) (b a : PeerRecord) (is : List Item) (s : State) : (takeItems o b a is s).now = s.now := rfl
@[simp] theorem takeItems_sampleDue (o : TakingOrder) (b a : PeerRecord) (is : List Item) (s : State) : (takeItems o b a is s).sampleDue = s.sampleDue := rfl
@[simp] theorem takeItems_phase (o : TakingOrder) (b a : PeerRecord) (is : List Item) (s : State) : (takeItems o b a is s).phase = s.phase := rfl
@[simp] theorem takeItems_restartHeld (o : TakingOrder) (b a : PeerRecord) (is : List Item) (s : State) : (takeItems o b a is s).restartHeld = s.restartHeld := rfl
@[simp] theorem takeItems_restartFrom (o : TakingOrder) (b a : PeerRecord) (is : List Item) (s : State) : (takeItems o b a is s).restartFrom = s.restartFrom := rfl
@[simp] theorem takeItems_reading (o : TakingOrder) (b a : PeerRecord) (is : List Item) (s : State) : (takeItems o b a is s).reading = s.reading := rfl
@[simp] theorem takeItems_selfTest (o : TakingOrder) (b a : PeerRecord) (is : List Item) (s : State) : (takeItems o b a is s).selfTest = s.selfTest := rfl
@[simp] theorem takeItems_selfTestSince (o : TakingOrder) (b a : PeerRecord) (is : List Item) (s : State) : (takeItems o b a is s).selfTestSince = s.selfTestSince := rfl
@[simp] theorem takeItems_silenceOver (o : TakingOrder) (b a : PeerRecord) (is : List Item) (s : State) : (takeItems o b a is s).silenceOver = s.silenceOver := rfl
@[simp] theorem takeItems_config (o : TakingOrder) (b a : PeerRecord) (is : List Item) (s : State) : (takeItems o b a is s).config = s.config := rfl
@[simp] theorem takeItems_passAt (o : TakingOrder) (b a : PeerRecord) (is : List Item) (s : State) : (takeItems o b a is s).passAt = s.passAt := rfl
@[simp] theorem takeItems_lockdown (o : TakingOrder) (b a : PeerRecord) (is : List Item) (s : State) : (takeItems o b a is s).lockdown = s.lockdown := rfl
@[simp] theorem takeItems_lockdownRecord (o : TakingOrder) (b a : PeerRecord) (is : List Item) (s : State) : (takeItems o b a is s).lockdownRecord = s.lockdownRecord := rfl
@[simp] theorem takeItems_head (o : TakingOrder) (b a : PeerRecord) (is : List Item) (s : State) : (takeItems o b a is s).head = s.head := rfl
@[simp] theorem takeItems_detector (o : TakingOrder) (b a : PeerRecord) (is : List Item) (s : State) : (takeItems o b a is s).detector = s.detector := rfl
@[simp] theorem takeItems_txy (o : TakingOrder) (b a : PeerRecord) (is : List Item) (s : State) : (takeItems o b a is s).txy = s.txy := rfl
@[simp] theorem takeItems_tyx (o : TakingOrder) (b a : PeerRecord) (is : List Item) (s : State) : (takeItems o b a is s).tyx = s.tyx := rfl
@[simp] theorem takeItems_log (o : TakingOrder) (b a : PeerRecord) (is : List Item) (s : State) : (takeItems o b a is s).log = s.log := rfl
@[simp] theorem takeItems_line (o : TakingOrder) (b a : PeerRecord) (is : List Item) (s : State) : (takeItems o b a is s).line = s.line := rfl
@[simp] theorem takeItems_handed (o : TakingOrder) (b a : PeerRecord) (is : List Item) (s : State) : (takeItems o b a is s).handed = s.handed := rfl
@[simp] theorem takeItems_builder (o : TakingOrder) (b a : PeerRecord) (is : List Item) (s : State) : (takeItems o b a is s).builder = s.builder := rfl
@[simp] theorem takeItems_peers (o : TakingOrder) (b a : PeerRecord) (is : List Item) (s : State) : (takeItems o b a is s).peers = s.peers := rfl
@[simp] theorem takeItems_operator (o : TakingOrder) (b a : PeerRecord) (is : List Item) (s : State) : (takeItems o b a is s).operator = s.operator := rfl
@[simp] theorem takeItems_lanes (o : TakingOrder) (b a : PeerRecord) (is : List Item) (s : State) : (takeItems o b a is s).lanes = s.lanes := rfl
@[simp] theorem takeItems_outputs (o : TakingOrder) (b a : PeerRecord) (is : List Item) (s : State) : (takeItems o b a is s).outputs = s.outputs := rfl
@[simp] theorem takeItems_pins (o : TakingOrder) (b a : PeerRecord) (is : List Item) (s : State) : (takeItems o b a is s).pins = s.pins := rfl
@[simp] theorem takeItems_freeUses (o : TakingOrder) (b a : PeerRecord) (is : List Item) (s : State) : (takeItems o b a is s).freeUses = s.freeUses := rfl
@[simp] theorem takeItems_pending (o : TakingOrder) (b a : PeerRecord) (is : List Item) (s : State) : (takeItems o b a is s).pending = s.pending := rfl

/-! `readViews` -/

@[simp] theorem readViews_now (o : TakingOrder) (f : Bool) (a : PeerRecord) (j : Bool) (s : State) : (readViews o f a j s).now = s.now := rfl
@[simp] theorem readViews_sampleDue (o : TakingOrder) (f : Bool) (a : PeerRecord) (j : Bool) (s : State) : (readViews o f a j s).sampleDue = s.sampleDue := rfl
@[simp] theorem readViews_phase (o : TakingOrder) (f : Bool) (a : PeerRecord) (j : Bool) (s : State) : (readViews o f a j s).phase = s.phase := rfl
@[simp] theorem readViews_restartHeld (o : TakingOrder) (f : Bool) (a : PeerRecord) (j : Bool) (s : State) : (readViews o f a j s).restartHeld = s.restartHeld := rfl
@[simp] theorem readViews_restartFrom (o : TakingOrder) (f : Bool) (a : PeerRecord) (j : Bool) (s : State) : (readViews o f a j s).restartFrom = s.restartFrom := rfl
@[simp] theorem readViews_reading (o : TakingOrder) (f : Bool) (a : PeerRecord) (j : Bool) (s : State) : (readViews o f a j s).reading = s.reading := rfl
@[simp] theorem readViews_selfTest (o : TakingOrder) (f : Bool) (a : PeerRecord) (j : Bool) (s : State) : (readViews o f a j s).selfTest = s.selfTest := rfl
@[simp] theorem readViews_selfTestSince (o : TakingOrder) (f : Bool) (a : PeerRecord) (j : Bool) (s : State) : (readViews o f a j s).selfTestSince = s.selfTestSince := rfl
@[simp] theorem readViews_silenceOver (o : TakingOrder) (f : Bool) (a : PeerRecord) (j : Bool) (s : State) : (readViews o f a j s).silenceOver = s.silenceOver := rfl
@[simp] theorem readViews_config (o : TakingOrder) (f : Bool) (a : PeerRecord) (j : Bool) (s : State) : (readViews o f a j s).config = s.config := rfl
@[simp] theorem readViews_passAt (o : TakingOrder) (f : Bool) (a : PeerRecord) (j : Bool) (s : State) : (readViews o f a j s).passAt = s.passAt := rfl
@[simp] theorem readViews_lockdown (o : TakingOrder) (f : Bool) (a : PeerRecord) (j : Bool) (s : State) : (readViews o f a j s).lockdown = s.lockdown := rfl
@[simp] theorem readViews_lockdownRecord (o : TakingOrder) (f : Bool) (a : PeerRecord) (j : Bool) (s : State) : (readViews o f a j s).lockdownRecord = s.lockdownRecord := rfl
@[simp] theorem readViews_head (o : TakingOrder) (f : Bool) (a : PeerRecord) (j : Bool) (s : State) : (readViews o f a j s).head = s.head := rfl
@[simp] theorem readViews_detector (o : TakingOrder) (f : Bool) (a : PeerRecord) (j : Bool) (s : State) : (readViews o f a j s).detector = s.detector := rfl
@[simp] theorem readViews_txy (o : TakingOrder) (f : Bool) (a : PeerRecord) (j : Bool) (s : State) : (readViews o f a j s).txy = s.txy := rfl
@[simp] theorem readViews_tyx (o : TakingOrder) (f : Bool) (a : PeerRecord) (j : Bool) (s : State) : (readViews o f a j s).tyx = s.tyx := rfl
@[simp] theorem readViews_log (o : TakingOrder) (f : Bool) (a : PeerRecord) (j : Bool) (s : State) : (readViews o f a j s).log = s.log := rfl
@[simp] theorem readViews_line (o : TakingOrder) (f : Bool) (a : PeerRecord) (j : Bool) (s : State) : (readViews o f a j s).line = s.line := rfl
@[simp] theorem readViews_handed (o : TakingOrder) (f : Bool) (a : PeerRecord) (j : Bool) (s : State) : (readViews o f a j s).handed = s.handed := rfl
@[simp] theorem readViews_builder (o : TakingOrder) (f : Bool) (a : PeerRecord) (j : Bool) (s : State) : (readViews o f a j s).builder = s.builder := rfl
@[simp] theorem readViews_peers (o : TakingOrder) (f : Bool) (a : PeerRecord) (j : Bool) (s : State) : (readViews o f a j s).peers = s.peers := rfl
@[simp] theorem readViews_operator (o : TakingOrder) (f : Bool) (a : PeerRecord) (j : Bool) (s : State) : (readViews o f a j s).operator = s.operator := rfl
@[simp] theorem readViews_lanes (o : TakingOrder) (f : Bool) (a : PeerRecord) (j : Bool) (s : State) : (readViews o f a j s).lanes = s.lanes := rfl
@[simp] theorem readViews_outputs (o : TakingOrder) (f : Bool) (a : PeerRecord) (j : Bool) (s : State) : (readViews o f a j s).outputs = s.outputs := rfl
@[simp] theorem readViews_pins (o : TakingOrder) (f : Bool) (a : PeerRecord) (j : Bool) (s : State) : (readViews o f a j s).pins = s.pins := rfl
@[simp] theorem readViews_freeUses (o : TakingOrder) (f : Bool) (a : PeerRecord) (j : Bool) (s : State) : (readViews o f a j s).freeUses = s.freeUses := rfl
@[simp] theorem readViews_pending (o : TakingOrder) (f : Bool) (a : PeerRecord) (j : Bool) (s : State) : (readViews o f a j s).pending = s.pending := rfl

/-! `rangesAfter` -/

@[simp] theorem rangesAfter_now (b s : State) : (rangesAfter b s).now = s.now := rfl
@[simp] theorem rangesAfter_sampleDue (b s : State) : (rangesAfter b s).sampleDue = s.sampleDue := rfl
@[simp] theorem rangesAfter_phase (b s : State) : (rangesAfter b s).phase = s.phase := rfl
@[simp] theorem rangesAfter_restartHeld (b s : State) : (rangesAfter b s).restartHeld = s.restartHeld := rfl
@[simp] theorem rangesAfter_restartFrom (b s : State) : (rangesAfter b s).restartFrom = s.restartFrom := rfl
@[simp] theorem rangesAfter_reading (b s : State) : (rangesAfter b s).reading = s.reading := rfl
@[simp] theorem rangesAfter_selfTest (b s : State) : (rangesAfter b s).selfTest = s.selfTest := rfl
@[simp] theorem rangesAfter_selfTestSince (b s : State) : (rangesAfter b s).selfTestSince = s.selfTestSince := rfl
@[simp] theorem rangesAfter_silenceOver (b s : State) : (rangesAfter b s).silenceOver = s.silenceOver := rfl
@[simp] theorem rangesAfter_config (b s : State) : (rangesAfter b s).config = s.config := rfl
@[simp] theorem rangesAfter_passAt (b s : State) : (rangesAfter b s).passAt = s.passAt := rfl
@[simp] theorem rangesAfter_lockdown (b s : State) : (rangesAfter b s).lockdown = s.lockdown := rfl
@[simp] theorem rangesAfter_lockdownRecord (b s : State) : (rangesAfter b s).lockdownRecord = s.lockdownRecord := rfl
@[simp] theorem rangesAfter_head (b s : State) : (rangesAfter b s).head = s.head := rfl
@[simp] theorem rangesAfter_detector (b s : State) : (rangesAfter b s).detector = s.detector := rfl
@[simp] theorem rangesAfter_txy (b s : State) : (rangesAfter b s).txy = s.txy := rfl
@[simp] theorem rangesAfter_tyx (b s : State) : (rangesAfter b s).tyx = s.tyx := rfl
@[simp] theorem rangesAfter_log (b s : State) : (rangesAfter b s).log = s.log := rfl
@[simp] theorem rangesAfter_line (b s : State) : (rangesAfter b s).line = s.line := rfl
@[simp] theorem rangesAfter_handed (b s : State) : (rangesAfter b s).handed = s.handed := rfl
@[simp] theorem rangesAfter_builder (b s : State) : (rangesAfter b s).builder = s.builder := rfl
@[simp] theorem rangesAfter_peers (b s : State) : (rangesAfter b s).peers = s.peers := rfl
@[simp] theorem rangesAfter_operator (b s : State) : (rangesAfter b s).operator = s.operator := rfl
@[simp] theorem rangesAfter_lanes (b s : State) : (rangesAfter b s).lanes = s.lanes := rfl
@[simp] theorem rangesAfter_outputs (b s : State) : (rangesAfter b s).outputs = s.outputs := rfl
@[simp] theorem rangesAfter_pins (b s : State) : (rangesAfter b s).pins = s.pins := rfl
@[simp] theorem rangesAfter_freeUses (b s : State) : (rangesAfter b s).freeUses = s.freeUses := rfl
@[simp] theorem rangesAfter_pending (b s : State) : (rangesAfter b s).pending = s.pending := rfl

/-! `joinLine` -/

@[simp] theorem joinLine_now (s : State) : (joinLine s).now = s.now := rfl
@[simp] theorem joinLine_sampleDue (s : State) : (joinLine s).sampleDue = s.sampleDue := rfl
@[simp] theorem joinLine_phase (s : State) : (joinLine s).phase = s.phase := rfl
@[simp] theorem joinLine_restartHeld (s : State) : (joinLine s).restartHeld = s.restartHeld := rfl
@[simp] theorem joinLine_restartFrom (s : State) : (joinLine s).restartFrom = s.restartFrom := rfl
@[simp] theorem joinLine_reading (s : State) : (joinLine s).reading = s.reading := rfl
@[simp] theorem joinLine_selfTest (s : State) : (joinLine s).selfTest = s.selfTest := rfl
@[simp] theorem joinLine_selfTestSince (s : State) : (joinLine s).selfTestSince = s.selfTestSince := rfl
@[simp] theorem joinLine_silenceOver (s : State) : (joinLine s).silenceOver = s.silenceOver := rfl
@[simp] theorem joinLine_config (s : State) : (joinLine s).config = s.config := rfl
@[simp] theorem joinLine_passAt (s : State) : (joinLine s).passAt = s.passAt := rfl
@[simp] theorem joinLine_lockdown (s : State) : (joinLine s).lockdown = s.lockdown := rfl
@[simp] theorem joinLine_lockdownRecord (s : State) : (joinLine s).lockdownRecord = s.lockdownRecord := rfl
@[simp] theorem joinLine_head (s : State) : (joinLine s).head = s.head := rfl
@[simp] theorem joinLine_detector (s : State) : (joinLine s).detector = s.detector := rfl
@[simp] theorem joinLine_txy (s : State) : (joinLine s).txy = s.txy := rfl
@[simp] theorem joinLine_tyx (s : State) : (joinLine s).tyx = s.tyx := rfl
@[simp] theorem joinLine_log (s : State) : (joinLine s).log = s.log := rfl
@[simp] theorem joinLine_handed (s : State) : (joinLine s).handed = s.handed := rfl
@[simp] theorem joinLine_builder (s : State) : (joinLine s).builder = s.builder := rfl
@[simp] theorem joinLine_peers (s : State) : (joinLine s).peers = s.peers := rfl
@[simp] theorem joinLine_slots (s : State) : (joinLine s).slots = s.slots := rfl
@[simp] theorem joinLine_operator (s : State) : (joinLine s).operator = s.operator := rfl
@[simp] theorem joinLine_lanes (s : State) : (joinLine s).lanes = s.lanes := rfl
@[simp] theorem joinLine_outputs (s : State) : (joinLine s).outputs = s.outputs := rfl
@[simp] theorem joinLine_pins (s : State) : (joinLine s).pins = s.pins := rfl
@[simp] theorem joinLine_freeUses (s : State) : (joinLine s).freeUses = s.freeUses := rfl
@[simp] theorem joinLine_pending (s : State) : (joinLine s).pending = s.pending := rfl

/-! `startBit` -/

@[simp] theorem startBit_now (s : State) : (startBit s).now = s.now := rfl
@[simp] theorem startBit_sampleDue (s : State) : (startBit s).sampleDue = s.sampleDue := rfl
@[simp] theorem startBit_phase (s : State) : (startBit s).phase = s.phase := rfl
@[simp] theorem startBit_restartHeld (s : State) : (startBit s).restartHeld = s.restartHeld := rfl
@[simp] theorem startBit_restartFrom (s : State) : (startBit s).restartFrom = s.restartFrom := rfl
@[simp] theorem startBit_reading (s : State) : (startBit s).reading = s.reading := rfl
@[simp] theorem startBit_selfTest (s : State) : (startBit s).selfTest = s.selfTest := rfl
@[simp] theorem startBit_selfTestSince (s : State) : (startBit s).selfTestSince = s.selfTestSince := rfl
@[simp] theorem startBit_silenceOver (s : State) : (startBit s).silenceOver = s.silenceOver := rfl
@[simp] theorem startBit_config (s : State) : (startBit s).config = s.config := rfl
@[simp] theorem startBit_passAt (s : State) : (startBit s).passAt = s.passAt := rfl
@[simp] theorem startBit_lockdown (s : State) : (startBit s).lockdown = s.lockdown := rfl
@[simp] theorem startBit_lockdownRecord (s : State) : (startBit s).lockdownRecord = s.lockdownRecord := rfl
@[simp] theorem startBit_head (s : State) : (startBit s).head = s.head := rfl
@[simp] theorem startBit_detector (s : State) : (startBit s).detector = s.detector := rfl
@[simp] theorem startBit_txy (s : State) : (startBit s).txy = s.txy := rfl
@[simp] theorem startBit_tyx (s : State) : (startBit s).tyx = s.tyx := rfl
@[simp] theorem startBit_log (s : State) : (startBit s).log = s.log := rfl
@[simp] theorem startBit_handed (s : State) : (startBit s).handed = s.handed := rfl
@[simp] theorem startBit_builder (s : State) : (startBit s).builder = s.builder := rfl
@[simp] theorem startBit_peers (s : State) : (startBit s).peers = s.peers := rfl
@[simp] theorem startBit_slots (s : State) : (startBit s).slots = s.slots := rfl
@[simp] theorem startBit_operator (s : State) : (startBit s).operator = s.operator := rfl
@[simp] theorem startBit_lanes (s : State) : (startBit s).lanes = s.lanes := rfl
@[simp] theorem startBit_outputs (s : State) : (startBit s).outputs = s.outputs := rfl
@[simp] theorem startBit_pins (s : State) : (startBit s).pins = s.pins := rfl
@[simp] theorem startBit_freeUses (s : State) : (startBit s).freeUses = s.freeUses := rfl
@[simp] theorem startBit_pending (s : State) : (startBit s).pending = s.pending := rfl

/-! `logPassage` -/

@[simp] theorem logPassage_now (k : LogKind) (v : Nat) (r : Bool) (s : State) : (logPassage k v r s).now = s.now := rfl
@[simp] theorem logPassage_sampleDue (k : LogKind) (v : Nat) (r : Bool) (s : State) : (logPassage k v r s).sampleDue = s.sampleDue := rfl
@[simp] theorem logPassage_phase (k : LogKind) (v : Nat) (r : Bool) (s : State) : (logPassage k v r s).phase = s.phase := rfl
@[simp] theorem logPassage_restartHeld (k : LogKind) (v : Nat) (r : Bool) (s : State) : (logPassage k v r s).restartHeld = s.restartHeld := rfl
@[simp] theorem logPassage_restartFrom (k : LogKind) (v : Nat) (r : Bool) (s : State) : (logPassage k v r s).restartFrom = s.restartFrom := rfl
@[simp] theorem logPassage_reading (k : LogKind) (v : Nat) (r : Bool) (s : State) : (logPassage k v r s).reading = s.reading := rfl
@[simp] theorem logPassage_selfTest (k : LogKind) (v : Nat) (r : Bool) (s : State) : (logPassage k v r s).selfTest = s.selfTest := rfl
@[simp] theorem logPassage_selfTestSince (k : LogKind) (v : Nat) (r : Bool) (s : State) : (logPassage k v r s).selfTestSince = s.selfTestSince := rfl
@[simp] theorem logPassage_silenceOver (k : LogKind) (v : Nat) (r : Bool) (s : State) : (logPassage k v r s).silenceOver = s.silenceOver := rfl
@[simp] theorem logPassage_config (k : LogKind) (v : Nat) (r : Bool) (s : State) : (logPassage k v r s).config = s.config := rfl
@[simp] theorem logPassage_passAt (k : LogKind) (v : Nat) (r : Bool) (s : State) : (logPassage k v r s).passAt = s.passAt := rfl
@[simp] theorem logPassage_lockdown (k : LogKind) (v : Nat) (r : Bool) (s : State) : (logPassage k v r s).lockdown = s.lockdown := rfl
@[simp] theorem logPassage_lockdownRecord (k : LogKind) (v : Nat) (r : Bool) (s : State) : (logPassage k v r s).lockdownRecord = s.lockdownRecord := rfl
@[simp] theorem logPassage_head (k : LogKind) (v : Nat) (r : Bool) (s : State) : (logPassage k v r s).head = s.head := rfl
@[simp] theorem logPassage_detector (k : LogKind) (v : Nat) (r : Bool) (s : State) : (logPassage k v r s).detector = s.detector := rfl
@[simp] theorem logPassage_txy (k : LogKind) (v : Nat) (r : Bool) (s : State) : (logPassage k v r s).txy = s.txy := rfl
@[simp] theorem logPassage_tyx (k : LogKind) (v : Nat) (r : Bool) (s : State) : (logPassage k v r s).tyx = s.tyx := rfl
@[simp] theorem logPassage_line (k : LogKind) (v : Nat) (r : Bool) (s : State) : (logPassage k v r s).line = s.line := rfl
@[simp] theorem logPassage_handed (k : LogKind) (v : Nat) (r : Bool) (s : State) : (logPassage k v r s).handed = s.handed := rfl
@[simp] theorem logPassage_builder (k : LogKind) (v : Nat) (r : Bool) (s : State) : (logPassage k v r s).builder = s.builder := rfl
@[simp] theorem logPassage_peers (k : LogKind) (v : Nat) (r : Bool) (s : State) : (logPassage k v r s).peers = s.peers := rfl
@[simp] theorem logPassage_slots (k : LogKind) (v : Nat) (r : Bool) (s : State) : (logPassage k v r s).slots = s.slots := rfl
@[simp] theorem logPassage_operator (k : LogKind) (v : Nat) (r : Bool) (s : State) : (logPassage k v r s).operator = s.operator := rfl
@[simp] theorem logPassage_lanes (k : LogKind) (v : Nat) (r : Bool) (s : State) : (logPassage k v r s).lanes = s.lanes := rfl
@[simp] theorem logPassage_outputs (k : LogKind) (v : Nat) (r : Bool) (s : State) : (logPassage k v r s).outputs = s.outputs := rfl
@[simp] theorem logPassage_pins (k : LogKind) (v : Nat) (r : Bool) (s : State) : (logPassage k v r s).pins = s.pins := rfl
@[simp] theorem logPassage_freeUses (k : LogKind) (v : Nat) (r : Bool) (s : State) : (logPassage k v r s).freeUses = s.freeUses := rfl
@[simp] theorem logPassage_pending (k : LogKind) (v : Nat) (r : Bool) (s : State) : (logPassage k v r s).pending = s.pending := rfl

/-! `dropPassage` -/

@[simp] theorem dropPassage_now (s : State) : (dropPassage s).now = s.now := rfl
@[simp] theorem dropPassage_sampleDue (s : State) : (dropPassage s).sampleDue = s.sampleDue := rfl
@[simp] theorem dropPassage_phase (s : State) : (dropPassage s).phase = s.phase := rfl
@[simp] theorem dropPassage_restartHeld (s : State) : (dropPassage s).restartHeld = s.restartHeld := rfl
@[simp] theorem dropPassage_restartFrom (s : State) : (dropPassage s).restartFrom = s.restartFrom := rfl
@[simp] theorem dropPassage_reading (s : State) : (dropPassage s).reading = s.reading := rfl
@[simp] theorem dropPassage_selfTest (s : State) : (dropPassage s).selfTest = s.selfTest := rfl
@[simp] theorem dropPassage_selfTestSince (s : State) : (dropPassage s).selfTestSince = s.selfTestSince := rfl
@[simp] theorem dropPassage_silenceOver (s : State) : (dropPassage s).silenceOver = s.silenceOver := rfl
@[simp] theorem dropPassage_config (s : State) : (dropPassage s).config = s.config := rfl
@[simp] theorem dropPassage_passAt (s : State) : (dropPassage s).passAt = s.passAt := rfl
@[simp] theorem dropPassage_lockdown (s : State) : (dropPassage s).lockdown = s.lockdown := rfl
@[simp] theorem dropPassage_lockdownRecord (s : State) : (dropPassage s).lockdownRecord = s.lockdownRecord := rfl
@[simp] theorem dropPassage_head (s : State) : (dropPassage s).head = s.head := rfl
@[simp] theorem dropPassage_txy (s : State) : (dropPassage s).txy = s.txy := rfl
@[simp] theorem dropPassage_tyx (s : State) : (dropPassage s).tyx = s.tyx := rfl
@[simp] theorem dropPassage_log (s : State) : (dropPassage s).log = s.log := rfl
@[simp] theorem dropPassage_line (s : State) : (dropPassage s).line = s.line := rfl
@[simp] theorem dropPassage_handed (s : State) : (dropPassage s).handed = s.handed := rfl
@[simp] theorem dropPassage_builder (s : State) : (dropPassage s).builder = s.builder := rfl
@[simp] theorem dropPassage_peers (s : State) : (dropPassage s).peers = s.peers := rfl
@[simp] theorem dropPassage_slots (s : State) : (dropPassage s).slots = s.slots := rfl
@[simp] theorem dropPassage_operator (s : State) : (dropPassage s).operator = s.operator := rfl
@[simp] theorem dropPassage_lanes (s : State) : (dropPassage s).lanes = s.lanes := rfl
@[simp] theorem dropPassage_outputs (s : State) : (dropPassage s).outputs = s.outputs := rfl
@[simp] theorem dropPassage_pins (s : State) : (dropPassage s).pins = s.pins := rfl
@[simp] theorem dropPassage_freeUses (s : State) : (dropPassage s).freeUses = s.freeUses := rfl
@[simp] theorem dropPassage_pending (s : State) : (dropPassage s).pending = s.pending := rfl

/-! `abandonFrames` -/

@[simp] theorem abandonFrames_now (s : State) : (abandonFrames s).now = s.now := rfl
@[simp] theorem abandonFrames_sampleDue (s : State) : (abandonFrames s).sampleDue = s.sampleDue := rfl
@[simp] theorem abandonFrames_phase (s : State) : (abandonFrames s).phase = s.phase := rfl
@[simp] theorem abandonFrames_restartHeld (s : State) : (abandonFrames s).restartHeld = s.restartHeld := rfl
@[simp] theorem abandonFrames_restartFrom (s : State) : (abandonFrames s).restartFrom = s.restartFrom := rfl
@[simp] theorem abandonFrames_reading (s : State) : (abandonFrames s).reading = s.reading := rfl
@[simp] theorem abandonFrames_selfTest (s : State) : (abandonFrames s).selfTest = s.selfTest := rfl
@[simp] theorem abandonFrames_selfTestSince (s : State) : (abandonFrames s).selfTestSince = s.selfTestSince := rfl
@[simp] theorem abandonFrames_silenceOver (s : State) : (abandonFrames s).silenceOver = s.silenceOver := rfl
@[simp] theorem abandonFrames_config (s : State) : (abandonFrames s).config = s.config := rfl
@[simp] theorem abandonFrames_passAt (s : State) : (abandonFrames s).passAt = s.passAt := rfl
@[simp] theorem abandonFrames_lockdown (s : State) : (abandonFrames s).lockdown = s.lockdown := rfl
@[simp] theorem abandonFrames_lockdownRecord (s : State) : (abandonFrames s).lockdownRecord = s.lockdownRecord := rfl
@[simp] theorem abandonFrames_head (s : State) : (abandonFrames s).head = s.head := rfl
@[simp] theorem abandonFrames_detector (s : State) : (abandonFrames s).detector = s.detector := rfl
@[simp] theorem abandonFrames_txy (s : State) : (abandonFrames s).txy = s.txy := rfl
@[simp] theorem abandonFrames_tyx (s : State) : (abandonFrames s).tyx = s.tyx := rfl
@[simp] theorem abandonFrames_log (s : State) : (abandonFrames s).log = s.log := rfl
@[simp] theorem abandonFrames_handed (s : State) : (abandonFrames s).handed = s.handed := rfl
@[simp] theorem abandonFrames_builder (s : State) : (abandonFrames s).builder = s.builder := rfl
@[simp] theorem abandonFrames_peers (s : State) : (abandonFrames s).peers = s.peers := rfl
@[simp] theorem abandonFrames_slots (s : State) : (abandonFrames s).slots = s.slots := rfl
@[simp] theorem abandonFrames_operator (s : State) : (abandonFrames s).operator = s.operator := rfl
@[simp] theorem abandonFrames_lanes (s : State) : (abandonFrames s).lanes = s.lanes := rfl
@[simp] theorem abandonFrames_outputs (s : State) : (abandonFrames s).outputs = s.outputs := rfl
@[simp] theorem abandonFrames_pins (s : State) : (abandonFrames s).pins = s.pins := rfl
@[simp] theorem abandonFrames_freeUses (s : State) : (abandonFrames s).freeUses = s.freeUses := rfl
@[simp] theorem abandonFrames_pending (s : State) : (abandonFrames s).pending = s.pending := rfl

/-! `builderAtLockdown` -/

@[simp] theorem builderAtLockdown_now (s : State) : (builderAtLockdown s).now = s.now := rfl
@[simp] theorem builderAtLockdown_sampleDue (s : State) : (builderAtLockdown s).sampleDue = s.sampleDue := rfl
@[simp] theorem builderAtLockdown_phase (s : State) : (builderAtLockdown s).phase = s.phase := rfl
@[simp] theorem builderAtLockdown_restartHeld (s : State) : (builderAtLockdown s).restartHeld = s.restartHeld := rfl
@[simp] theorem builderAtLockdown_restartFrom (s : State) : (builderAtLockdown s).restartFrom = s.restartFrom := rfl
@[simp] theorem builderAtLockdown_reading (s : State) : (builderAtLockdown s).reading = s.reading := rfl
@[simp] theorem builderAtLockdown_selfTest (s : State) : (builderAtLockdown s).selfTest = s.selfTest := rfl
@[simp] theorem builderAtLockdown_selfTestSince (s : State) : (builderAtLockdown s).selfTestSince = s.selfTestSince := rfl
@[simp] theorem builderAtLockdown_silenceOver (s : State) : (builderAtLockdown s).silenceOver = s.silenceOver := rfl
@[simp] theorem builderAtLockdown_config (s : State) : (builderAtLockdown s).config = s.config := rfl
@[simp] theorem builderAtLockdown_passAt (s : State) : (builderAtLockdown s).passAt = s.passAt := rfl
@[simp] theorem builderAtLockdown_lockdown (s : State) : (builderAtLockdown s).lockdown = s.lockdown := rfl
@[simp] theorem builderAtLockdown_lockdownRecord (s : State) : (builderAtLockdown s).lockdownRecord = s.lockdownRecord := rfl
@[simp] theorem builderAtLockdown_head (s : State) : (builderAtLockdown s).head = s.head := rfl
@[simp] theorem builderAtLockdown_detector (s : State) : (builderAtLockdown s).detector = s.detector := rfl
@[simp] theorem builderAtLockdown_txy (s : State) : (builderAtLockdown s).txy = s.txy := rfl
@[simp] theorem builderAtLockdown_tyx (s : State) : (builderAtLockdown s).tyx = s.tyx := rfl
@[simp] theorem builderAtLockdown_log (s : State) : (builderAtLockdown s).log = s.log := rfl
@[simp] theorem builderAtLockdown_line (s : State) : (builderAtLockdown s).line = s.line := rfl
@[simp] theorem builderAtLockdown_handed (s : State) : (builderAtLockdown s).handed = s.handed := rfl
@[simp] theorem builderAtLockdown_peers (s : State) : (builderAtLockdown s).peers = s.peers := rfl
@[simp] theorem builderAtLockdown_slots (s : State) : (builderAtLockdown s).slots = s.slots := rfl
@[simp] theorem builderAtLockdown_operator (s : State) : (builderAtLockdown s).operator = s.operator := rfl
@[simp] theorem builderAtLockdown_lanes (s : State) : (builderAtLockdown s).lanes = s.lanes := rfl
@[simp] theorem builderAtLockdown_outputs (s : State) : (builderAtLockdown s).outputs = s.outputs := rfl
@[simp] theorem builderAtLockdown_pins (s : State) : (builderAtLockdown s).pins = s.pins := rfl
@[simp] theorem builderAtLockdown_freeUses (s : State) : (builderAtLockdown s).freeUses = s.freeUses := rfl
@[simp] theorem builderAtLockdown_pending (s : State) : (builderAtLockdown s).pending = s.pending := rfl

/-! `showOutputs` -/

@[simp] theorem showOutputs_now (s : State) : (showOutputs s).now = s.now := rfl
@[simp] theorem showOutputs_sampleDue (s : State) : (showOutputs s).sampleDue = s.sampleDue := rfl
@[simp] theorem showOutputs_phase (s : State) : (showOutputs s).phase = s.phase := rfl
@[simp] theorem showOutputs_restartHeld (s : State) : (showOutputs s).restartHeld = s.restartHeld := rfl
@[simp] theorem showOutputs_restartFrom (s : State) : (showOutputs s).restartFrom = s.restartFrom := rfl
@[simp] theorem showOutputs_reading (s : State) : (showOutputs s).reading = s.reading := rfl
@[simp] theorem showOutputs_selfTest (s : State) : (showOutputs s).selfTest = s.selfTest := rfl
@[simp] theorem showOutputs_selfTestSince (s : State) : (showOutputs s).selfTestSince = s.selfTestSince := rfl
@[simp] theorem showOutputs_silenceOver (s : State) : (showOutputs s).silenceOver = s.silenceOver := rfl
@[simp] theorem showOutputs_config (s : State) : (showOutputs s).config = s.config := rfl
@[simp] theorem showOutputs_passAt (s : State) : (showOutputs s).passAt = s.passAt := rfl
@[simp] theorem showOutputs_lockdown (s : State) : (showOutputs s).lockdown = s.lockdown := rfl
@[simp] theorem showOutputs_lockdownRecord (s : State) : (showOutputs s).lockdownRecord = s.lockdownRecord := rfl
@[simp] theorem showOutputs_head (s : State) : (showOutputs s).head = s.head := rfl
@[simp] theorem showOutputs_detector (s : State) : (showOutputs s).detector = s.detector := rfl
@[simp] theorem showOutputs_txy (s : State) : (showOutputs s).txy = s.txy := rfl
@[simp] theorem showOutputs_tyx (s : State) : (showOutputs s).tyx = s.tyx := rfl
@[simp] theorem showOutputs_log (s : State) : (showOutputs s).log = s.log := rfl
@[simp] theorem showOutputs_line (s : State) : (showOutputs s).line = s.line := rfl
@[simp] theorem showOutputs_handed (s : State) : (showOutputs s).handed = s.handed := rfl
@[simp] theorem showOutputs_builder (s : State) : (showOutputs s).builder = s.builder := rfl
@[simp] theorem showOutputs_peers (s : State) : (showOutputs s).peers = s.peers := rfl
@[simp] theorem showOutputs_slots (s : State) : (showOutputs s).slots = s.slots := rfl
@[simp] theorem showOutputs_operator (s : State) : (showOutputs s).operator = s.operator := rfl
@[simp] theorem showOutputs_lanes (s : State) : (showOutputs s).lanes = s.lanes := rfl
@[simp] theorem showOutputs_pins (s : State) : (showOutputs s).pins = s.pins := rfl
@[simp] theorem showOutputs_freeUses (s : State) : (showOutputs s).freeUses = s.freeUses := rfl
@[simp] theorem showOutputs_pending (s : State) : (showOutputs s).pending = s.pending := rfl

/-! `placeAnswer` -/

@[simp] theorem placeAnswer_now (k : Byte) (d : List Byte) (s : State) : (placeAnswer k d s).now = s.now := rfl
@[simp] theorem placeAnswer_sampleDue (k : Byte) (d : List Byte) (s : State) : (placeAnswer k d s).sampleDue = s.sampleDue := rfl
@[simp] theorem placeAnswer_phase (k : Byte) (d : List Byte) (s : State) : (placeAnswer k d s).phase = s.phase := rfl
@[simp] theorem placeAnswer_restartHeld (k : Byte) (d : List Byte) (s : State) : (placeAnswer k d s).restartHeld = s.restartHeld := rfl
@[simp] theorem placeAnswer_restartFrom (k : Byte) (d : List Byte) (s : State) : (placeAnswer k d s).restartFrom = s.restartFrom := rfl
@[simp] theorem placeAnswer_reading (k : Byte) (d : List Byte) (s : State) : (placeAnswer k d s).reading = s.reading := rfl
@[simp] theorem placeAnswer_selfTest (k : Byte) (d : List Byte) (s : State) : (placeAnswer k d s).selfTest = s.selfTest := rfl
@[simp] theorem placeAnswer_selfTestSince (k : Byte) (d : List Byte) (s : State) : (placeAnswer k d s).selfTestSince = s.selfTestSince := rfl
@[simp] theorem placeAnswer_silenceOver (k : Byte) (d : List Byte) (s : State) : (placeAnswer k d s).silenceOver = s.silenceOver := rfl
@[simp] theorem placeAnswer_config (k : Byte) (d : List Byte) (s : State) : (placeAnswer k d s).config = s.config := rfl
@[simp] theorem placeAnswer_passAt (k : Byte) (d : List Byte) (s : State) : (placeAnswer k d s).passAt = s.passAt := rfl
@[simp] theorem placeAnswer_lockdown (k : Byte) (d : List Byte) (s : State) : (placeAnswer k d s).lockdown = s.lockdown := rfl
@[simp] theorem placeAnswer_lockdownRecord (k : Byte) (d : List Byte) (s : State) : (placeAnswer k d s).lockdownRecord = s.lockdownRecord := rfl
@[simp] theorem placeAnswer_head (k : Byte) (d : List Byte) (s : State) : (placeAnswer k d s).head = s.head := rfl
@[simp] theorem placeAnswer_detector (k : Byte) (d : List Byte) (s : State) : (placeAnswer k d s).detector = s.detector := rfl
@[simp] theorem placeAnswer_txy (k : Byte) (d : List Byte) (s : State) : (placeAnswer k d s).txy = s.txy := rfl
@[simp] theorem placeAnswer_tyx (k : Byte) (d : List Byte) (s : State) : (placeAnswer k d s).tyx = s.tyx := rfl
@[simp] theorem placeAnswer_log (k : Byte) (d : List Byte) (s : State) : (placeAnswer k d s).log = s.log := rfl
@[simp] theorem placeAnswer_handed (k : Byte) (d : List Byte) (s : State) : (placeAnswer k d s).handed = s.handed := rfl
@[simp] theorem placeAnswer_builder (k : Byte) (d : List Byte) (s : State) : (placeAnswer k d s).builder = s.builder := rfl
@[simp] theorem placeAnswer_peers (k : Byte) (d : List Byte) (s : State) : (placeAnswer k d s).peers = s.peers := rfl
@[simp] theorem placeAnswer_slots (k : Byte) (d : List Byte) (s : State) : (placeAnswer k d s).slots = s.slots := rfl
@[simp] theorem placeAnswer_operator (k : Byte) (d : List Byte) (s : State) : (placeAnswer k d s).operator = s.operator := rfl
@[simp] theorem placeAnswer_lanes (k : Byte) (d : List Byte) (s : State) : (placeAnswer k d s).lanes = s.lanes := rfl
@[simp] theorem placeAnswer_outputs (k : Byte) (d : List Byte) (s : State) : (placeAnswer k d s).outputs = s.outputs := rfl
@[simp] theorem placeAnswer_pins (k : Byte) (d : List Byte) (s : State) : (placeAnswer k d s).pins = s.pins := rfl
@[simp] theorem placeAnswer_freeUses (k : Byte) (d : List Byte) (s : State) : (placeAnswer k d s).freeUses = s.freeUses := rfl
@[simp] theorem placeAnswer_pending (k : Byte) (d : List Byte) (s : State) : (placeAnswer k d s).pending = s.pending := rfl

/-! `releaseLine` -/

@[simp] theorem releaseLine_now (s : State) : (releaseLine s).now = s.now := rfl
@[simp] theorem releaseLine_sampleDue (s : State) : (releaseLine s).sampleDue = s.sampleDue := rfl
@[simp] theorem releaseLine_phase (s : State) : (releaseLine s).phase = s.phase := rfl
@[simp] theorem releaseLine_restartHeld (s : State) : (releaseLine s).restartHeld = s.restartHeld := rfl
@[simp] theorem releaseLine_restartFrom (s : State) : (releaseLine s).restartFrom = s.restartFrom := rfl
@[simp] theorem releaseLine_reading (s : State) : (releaseLine s).reading = s.reading := rfl
@[simp] theorem releaseLine_selfTest (s : State) : (releaseLine s).selfTest = s.selfTest := rfl
@[simp] theorem releaseLine_selfTestSince (s : State) : (releaseLine s).selfTestSince = s.selfTestSince := rfl
@[simp] theorem releaseLine_silenceOver (s : State) : (releaseLine s).silenceOver = s.silenceOver := rfl
@[simp] theorem releaseLine_config (s : State) : (releaseLine s).config = s.config := rfl
@[simp] theorem releaseLine_passAt (s : State) : (releaseLine s).passAt = s.passAt := rfl
@[simp] theorem releaseLine_lockdown (s : State) : (releaseLine s).lockdown = s.lockdown := rfl
@[simp] theorem releaseLine_lockdownRecord (s : State) : (releaseLine s).lockdownRecord = s.lockdownRecord := rfl
@[simp] theorem releaseLine_head (s : State) : (releaseLine s).head = s.head := rfl
@[simp] theorem releaseLine_detector (s : State) : (releaseLine s).detector = s.detector := rfl
@[simp] theorem releaseLine_txy (s : State) : (releaseLine s).txy = s.txy := rfl
@[simp] theorem releaseLine_tyx (s : State) : (releaseLine s).tyx = s.tyx := rfl
@[simp] theorem releaseLine_log (s : State) : (releaseLine s).log = s.log := rfl
@[simp] theorem releaseLine_handed (s : State) : (releaseLine s).handed = s.handed := rfl
@[simp] theorem releaseLine_builder (s : State) : (releaseLine s).builder = s.builder := rfl
@[simp] theorem releaseLine_peers (s : State) : (releaseLine s).peers = s.peers := rfl
@[simp] theorem releaseLine_slots (s : State) : (releaseLine s).slots = s.slots := rfl
@[simp] theorem releaseLine_operator (s : State) : (releaseLine s).operator = s.operator := rfl
@[simp] theorem releaseLine_lanes (s : State) : (releaseLine s).lanes = s.lanes := rfl
@[simp] theorem releaseLine_outputs (s : State) : (releaseLine s).outputs = s.outputs := rfl
@[simp] theorem releaseLine_pins (s : State) : (releaseLine s).pins = s.pins := rfl
@[simp] theorem releaseLine_freeUses (s : State) : (releaseLine s).freeUses = s.freeUses := rfl
@[simp] theorem releaseLine_pending (s : State) : (releaseLine s).pending = s.pending := rfl

/-! `leaveService` -/

@[simp] theorem leaveService_now (s : State) : (leaveService s).now = s.now := rfl
@[simp] theorem leaveService_sampleDue (s : State) : (leaveService s).sampleDue = s.sampleDue := rfl
@[simp] theorem leaveService_phase (s : State) : (leaveService s).phase = s.phase := rfl
@[simp] theorem leaveService_restartHeld (s : State) : (leaveService s).restartHeld = s.restartHeld := rfl
@[simp] theorem leaveService_restartFrom (s : State) : (leaveService s).restartFrom = s.restartFrom := rfl
@[simp] theorem leaveService_reading (s : State) : (leaveService s).reading = s.reading := rfl
@[simp] theorem leaveService_selfTest (s : State) : (leaveService s).selfTest = s.selfTest := rfl
@[simp] theorem leaveService_selfTestSince (s : State) : (leaveService s).selfTestSince = s.selfTestSince := rfl
@[simp] theorem leaveService_silenceOver (s : State) : (leaveService s).silenceOver = s.silenceOver := rfl
@[simp] theorem leaveService_config (s : State) : (leaveService s).config = s.config := rfl
@[simp] theorem leaveService_passAt (s : State) : (leaveService s).passAt = s.passAt := rfl
@[simp] theorem leaveService_lockdown (s : State) : (leaveService s).lockdown = s.lockdown := rfl
@[simp] theorem leaveService_lockdownRecord (s : State) : (leaveService s).lockdownRecord = s.lockdownRecord := rfl
@[simp] theorem leaveService_head (s : State) : (leaveService s).head = s.head := rfl
@[simp] theorem leaveService_detector (s : State) : (leaveService s).detector = s.detector := rfl
@[simp] theorem leaveService_txy (s : State) : (leaveService s).txy = s.txy := rfl
@[simp] theorem leaveService_tyx (s : State) : (leaveService s).tyx = s.tyx := rfl
@[simp] theorem leaveService_log (s : State) : (leaveService s).log = s.log := rfl
@[simp] theorem leaveService_handed (s : State) : (leaveService s).handed = s.handed := rfl
@[simp] theorem leaveService_builder (s : State) : (leaveService s).builder = s.builder := rfl
@[simp] theorem leaveService_peers (s : State) : (leaveService s).peers = s.peers := rfl
@[simp] theorem leaveService_slots (s : State) : (leaveService s).slots = s.slots := rfl
@[simp] theorem leaveService_operator (s : State) : (leaveService s).operator = s.operator := rfl
@[simp] theorem leaveService_lanes (s : State) : (leaveService s).lanes = s.lanes := rfl
@[simp] theorem leaveService_outputs (s : State) : (leaveService s).outputs = s.outputs := rfl
@[simp] theorem leaveService_pins (s : State) : (leaveService s).pins = s.pins := rfl
@[simp] theorem leaveService_freeUses (s : State) : (leaveService s).freeUses = s.freeUses := rfl
@[simp] theorem leaveService_pending (s : State) : (leaveService s).pending = s.pending := rfl

/-! `countDrop` -/

@[simp] theorem countDrop_now (s : State) : (countDrop s).now = s.now := rfl
@[simp] theorem countDrop_sampleDue (s : State) : (countDrop s).sampleDue = s.sampleDue := rfl
@[simp] theorem countDrop_phase (s : State) : (countDrop s).phase = s.phase := rfl
@[simp] theorem countDrop_restartHeld (s : State) : (countDrop s).restartHeld = s.restartHeld := rfl
@[simp] theorem countDrop_restartFrom (s : State) : (countDrop s).restartFrom = s.restartFrom := rfl
@[simp] theorem countDrop_reading (s : State) : (countDrop s).reading = s.reading := rfl
@[simp] theorem countDrop_selfTest (s : State) : (countDrop s).selfTest = s.selfTest := rfl
@[simp] theorem countDrop_selfTestSince (s : State) : (countDrop s).selfTestSince = s.selfTestSince := rfl
@[simp] theorem countDrop_silenceOver (s : State) : (countDrop s).silenceOver = s.silenceOver := rfl
@[simp] theorem countDrop_config (s : State) : (countDrop s).config = s.config := rfl
@[simp] theorem countDrop_passAt (s : State) : (countDrop s).passAt = s.passAt := rfl
@[simp] theorem countDrop_lockdown (s : State) : (countDrop s).lockdown = s.lockdown := rfl
@[simp] theorem countDrop_lockdownRecord (s : State) : (countDrop s).lockdownRecord = s.lockdownRecord := rfl
@[simp] theorem countDrop_head (s : State) : (countDrop s).head = s.head := rfl
@[simp] theorem countDrop_detector (s : State) : (countDrop s).detector = s.detector := rfl
@[simp] theorem countDrop_txy (s : State) : (countDrop s).txy = s.txy := rfl
@[simp] theorem countDrop_tyx (s : State) : (countDrop s).tyx = s.tyx := rfl
@[simp] theorem countDrop_log (s : State) : (countDrop s).log = s.log := rfl
@[simp] theorem countDrop_handed (s : State) : (countDrop s).handed = s.handed := rfl
@[simp] theorem countDrop_builder (s : State) : (countDrop s).builder = s.builder := rfl
@[simp] theorem countDrop_peers (s : State) : (countDrop s).peers = s.peers := rfl
@[simp] theorem countDrop_slots (s : State) : (countDrop s).slots = s.slots := rfl
@[simp] theorem countDrop_operator (s : State) : (countDrop s).operator = s.operator := rfl
@[simp] theorem countDrop_lanes (s : State) : (countDrop s).lanes = s.lanes := rfl
@[simp] theorem countDrop_outputs (s : State) : (countDrop s).outputs = s.outputs := rfl
@[simp] theorem countDrop_pins (s : State) : (countDrop s).pins = s.pins := rfl
@[simp] theorem countDrop_freeUses (s : State) : (countDrop s).freeUses = s.freeUses := rfl
@[simp] theorem countDrop_pending (s : State) : (countDrop s).pending = s.pending := rfl

/-! `countCollision` -/

@[simp] theorem countCollision_now (s : State) : (countCollision s).now = s.now := rfl
@[simp] theorem countCollision_sampleDue (s : State) : (countCollision s).sampleDue = s.sampleDue := rfl
@[simp] theorem countCollision_phase (s : State) : (countCollision s).phase = s.phase := rfl
@[simp] theorem countCollision_restartHeld (s : State) : (countCollision s).restartHeld = s.restartHeld := rfl
@[simp] theorem countCollision_restartFrom (s : State) : (countCollision s).restartFrom = s.restartFrom := rfl
@[simp] theorem countCollision_reading (s : State) : (countCollision s).reading = s.reading := rfl
@[simp] theorem countCollision_selfTest (s : State) : (countCollision s).selfTest = s.selfTest := rfl
@[simp] theorem countCollision_selfTestSince (s : State) : (countCollision s).selfTestSince = s.selfTestSince := rfl
@[simp] theorem countCollision_silenceOver (s : State) : (countCollision s).silenceOver = s.silenceOver := rfl
@[simp] theorem countCollision_config (s : State) : (countCollision s).config = s.config := rfl
@[simp] theorem countCollision_passAt (s : State) : (countCollision s).passAt = s.passAt := rfl
@[simp] theorem countCollision_lockdown (s : State) : (countCollision s).lockdown = s.lockdown := rfl
@[simp] theorem countCollision_lockdownRecord (s : State) : (countCollision s).lockdownRecord = s.lockdownRecord := rfl
@[simp] theorem countCollision_head (s : State) : (countCollision s).head = s.head := rfl
@[simp] theorem countCollision_detector (s : State) : (countCollision s).detector = s.detector := rfl
@[simp] theorem countCollision_txy (s : State) : (countCollision s).txy = s.txy := rfl
@[simp] theorem countCollision_tyx (s : State) : (countCollision s).tyx = s.tyx := rfl
@[simp] theorem countCollision_log (s : State) : (countCollision s).log = s.log := rfl
@[simp] theorem countCollision_handed (s : State) : (countCollision s).handed = s.handed := rfl
@[simp] theorem countCollision_builder (s : State) : (countCollision s).builder = s.builder := rfl
@[simp] theorem countCollision_peers (s : State) : (countCollision s).peers = s.peers := rfl
@[simp] theorem countCollision_slots (s : State) : (countCollision s).slots = s.slots := rfl
@[simp] theorem countCollision_operator (s : State) : (countCollision s).operator = s.operator := rfl
@[simp] theorem countCollision_lanes (s : State) : (countCollision s).lanes = s.lanes := rfl
@[simp] theorem countCollision_outputs (s : State) : (countCollision s).outputs = s.outputs := rfl
@[simp] theorem countCollision_pins (s : State) : (countCollision s).pins = s.pins := rfl
@[simp] theorem countCollision_freeUses (s : State) : (countCollision s).freeUses = s.freeUses := rfl
@[simp] theorem countCollision_pending (s : State) : (countCollision s).pending = s.pending := rfl

/-! `endLineFault` -/

@[simp] theorem endLineFault_now (s : State) : (endLineFault s).now = s.now := rfl
@[simp] theorem endLineFault_sampleDue (s : State) : (endLineFault s).sampleDue = s.sampleDue := rfl
@[simp] theorem endLineFault_phase (s : State) : (endLineFault s).phase = s.phase := rfl
@[simp] theorem endLineFault_restartHeld (s : State) : (endLineFault s).restartHeld = s.restartHeld := rfl
@[simp] theorem endLineFault_restartFrom (s : State) : (endLineFault s).restartFrom = s.restartFrom := rfl
@[simp] theorem endLineFault_reading (s : State) : (endLineFault s).reading = s.reading := rfl
@[simp] theorem endLineFault_selfTest (s : State) : (endLineFault s).selfTest = s.selfTest := rfl
@[simp] theorem endLineFault_selfTestSince (s : State) : (endLineFault s).selfTestSince = s.selfTestSince := rfl
@[simp] theorem endLineFault_silenceOver (s : State) : (endLineFault s).silenceOver = s.silenceOver := rfl
@[simp] theorem endLineFault_config (s : State) : (endLineFault s).config = s.config := rfl
@[simp] theorem endLineFault_passAt (s : State) : (endLineFault s).passAt = s.passAt := rfl
@[simp] theorem endLineFault_lockdown (s : State) : (endLineFault s).lockdown = s.lockdown := rfl
@[simp] theorem endLineFault_lockdownRecord (s : State) : (endLineFault s).lockdownRecord = s.lockdownRecord := rfl
@[simp] theorem endLineFault_head (s : State) : (endLineFault s).head = s.head := rfl
@[simp] theorem endLineFault_detector (s : State) : (endLineFault s).detector = s.detector := rfl
@[simp] theorem endLineFault_txy (s : State) : (endLineFault s).txy = s.txy := rfl
@[simp] theorem endLineFault_tyx (s : State) : (endLineFault s).tyx = s.tyx := rfl
@[simp] theorem endLineFault_log (s : State) : (endLineFault s).log = s.log := rfl
@[simp] theorem endLineFault_handed (s : State) : (endLineFault s).handed = s.handed := rfl
@[simp] theorem endLineFault_builder (s : State) : (endLineFault s).builder = s.builder := rfl
@[simp] theorem endLineFault_peers (s : State) : (endLineFault s).peers = s.peers := rfl
@[simp] theorem endLineFault_slots (s : State) : (endLineFault s).slots = s.slots := rfl
@[simp] theorem endLineFault_operator (s : State) : (endLineFault s).operator = s.operator := rfl
@[simp] theorem endLineFault_lanes (s : State) : (endLineFault s).lanes = s.lanes := rfl
@[simp] theorem endLineFault_outputs (s : State) : (endLineFault s).outputs = s.outputs := rfl
@[simp] theorem endLineFault_pins (s : State) : (endLineFault s).pins = s.pins := rfl
@[simp] theorem endLineFault_freeUses (s : State) : (endLineFault s).freeUses = s.freeUses := rfl
@[simp] theorem endLineFault_pending (s : State) : (endLineFault s).pending = s.pending := rfl

/-! `telegramCompleted` -/

@[simp] theorem telegramCompleted_now (s : State) : (telegramCompleted s).now = s.now := rfl
@[simp] theorem telegramCompleted_sampleDue (s : State) : (telegramCompleted s).sampleDue = s.sampleDue := rfl
@[simp] theorem telegramCompleted_phase (s : State) : (telegramCompleted s).phase = s.phase := rfl
@[simp] theorem telegramCompleted_restartHeld (s : State) : (telegramCompleted s).restartHeld = s.restartHeld := rfl
@[simp] theorem telegramCompleted_restartFrom (s : State) : (telegramCompleted s).restartFrom = s.restartFrom := rfl
@[simp] theorem telegramCompleted_reading (s : State) : (telegramCompleted s).reading = s.reading := rfl
@[simp] theorem telegramCompleted_selfTest (s : State) : (telegramCompleted s).selfTest = s.selfTest := rfl
@[simp] theorem telegramCompleted_selfTestSince (s : State) : (telegramCompleted s).selfTestSince = s.selfTestSince := rfl
@[simp] theorem telegramCompleted_silenceOver (s : State) : (telegramCompleted s).silenceOver = s.silenceOver := rfl
@[simp] theorem telegramCompleted_config (s : State) : (telegramCompleted s).config = s.config := rfl
@[simp] theorem telegramCompleted_passAt (s : State) : (telegramCompleted s).passAt = s.passAt := rfl
@[simp] theorem telegramCompleted_lockdown (s : State) : (telegramCompleted s).lockdown = s.lockdown := rfl
@[simp] theorem telegramCompleted_lockdownRecord (s : State) : (telegramCompleted s).lockdownRecord = s.lockdownRecord := rfl
@[simp] theorem telegramCompleted_head (s : State) : (telegramCompleted s).head = s.head := rfl
@[simp] theorem telegramCompleted_detector (s : State) : (telegramCompleted s).detector = s.detector := rfl
@[simp] theorem telegramCompleted_txy (s : State) : (telegramCompleted s).txy = s.txy := rfl
@[simp] theorem telegramCompleted_tyx (s : State) : (telegramCompleted s).tyx = s.tyx := rfl
@[simp] theorem telegramCompleted_log (s : State) : (telegramCompleted s).log = s.log := rfl
@[simp] theorem telegramCompleted_line (s : State) : (telegramCompleted s).line = s.line := rfl
@[simp] theorem telegramCompleted_handed (s : State) : (telegramCompleted s).handed = s.handed := rfl
@[simp] theorem telegramCompleted_peers (s : State) : (telegramCompleted s).peers = s.peers := rfl
@[simp] theorem telegramCompleted_slots (s : State) : (telegramCompleted s).slots = s.slots := rfl
@[simp] theorem telegramCompleted_operator (s : State) : (telegramCompleted s).operator = s.operator := rfl
@[simp] theorem telegramCompleted_lanes (s : State) : (telegramCompleted s).lanes = s.lanes := rfl
@[simp] theorem telegramCompleted_outputs (s : State) : (telegramCompleted s).outputs = s.outputs := rfl
@[simp] theorem telegramCompleted_pins (s : State) : (telegramCompleted s).pins = s.pins := rfl
@[simp] theorem telegramCompleted_freeUses (s : State) : (telegramCompleted s).freeUses = s.freeUses := rfl
@[simp] theorem telegramCompleted_pending (s : State) : (telegramCompleted s).pending = s.pending := rfl

/-! `setLevels` -/

@[simp] theorem setLevels_now (s : State) : (setLevels s).now = s.now := rfl
@[simp] theorem setLevels_sampleDue (s : State) : (setLevels s).sampleDue = s.sampleDue := rfl
@[simp] theorem setLevels_phase (s : State) : (setLevels s).phase = s.phase := rfl
@[simp] theorem setLevels_restartHeld (s : State) : (setLevels s).restartHeld = s.restartHeld := rfl
@[simp] theorem setLevels_restartFrom (s : State) : (setLevels s).restartFrom = s.restartFrom := rfl
@[simp] theorem setLevels_reading (s : State) : (setLevels s).reading = s.reading := rfl
@[simp] theorem setLevels_selfTest (s : State) : (setLevels s).selfTest = s.selfTest := rfl
@[simp] theorem setLevels_selfTestSince (s : State) : (setLevels s).selfTestSince = s.selfTestSince := rfl
@[simp] theorem setLevels_silenceOver (s : State) : (setLevels s).silenceOver = s.silenceOver := rfl
@[simp] theorem setLevels_config (s : State) : (setLevels s).config = s.config := rfl
@[simp] theorem setLevels_passAt (s : State) : (setLevels s).passAt = s.passAt := rfl
@[simp] theorem setLevels_lockdown (s : State) : (setLevels s).lockdown = s.lockdown := rfl
@[simp] theorem setLevels_lockdownRecord (s : State) : (setLevels s).lockdownRecord = s.lockdownRecord := rfl
@[simp] theorem setLevels_head (s : State) : (setLevels s).head = s.head := rfl
@[simp] theorem setLevels_detector (s : State) : (setLevels s).detector = s.detector := rfl
@[simp] theorem setLevels_txy (s : State) : (setLevels s).txy = s.txy := rfl
@[simp] theorem setLevels_tyx (s : State) : (setLevels s).tyx = s.tyx := rfl
@[simp] theorem setLevels_log (s : State) : (setLevels s).log = s.log := rfl
@[simp] theorem setLevels_line (s : State) : (setLevels s).line = s.line := rfl
@[simp] theorem setLevels_handed (s : State) : (setLevels s).handed = s.handed := rfl
@[simp] theorem setLevels_builder (s : State) : (setLevels s).builder = s.builder := rfl
@[simp] theorem setLevels_peers (s : State) : (setLevels s).peers = s.peers := rfl
@[simp] theorem setLevels_slots (s : State) : (setLevels s).slots = s.slots := rfl
@[simp] theorem setLevels_operator (s : State) : (setLevels s).operator = s.operator := rfl
@[simp] theorem setLevels_lanes (s : State) : (setLevels s).lanes = s.lanes := rfl
@[simp] theorem setLevels_pins (s : State) : (setLevels s).pins = s.pins := rfl
@[simp] theorem setLevels_freeUses (s : State) : (setLevels s).freeUses = s.freeUses := rfl
@[simp] theorem setLevels_pending (s : State) : (setLevels s).pending = s.pending := rfl

/-! `compareAll` -/

@[simp] theorem compareAll_now (r : Vector PairLevels 4) (s : State) : (compareAll r s).now = s.now := rfl
@[simp] theorem compareAll_sampleDue (r : Vector PairLevels 4) (s : State) : (compareAll r s).sampleDue = s.sampleDue := rfl
@[simp] theorem compareAll_phase (r : Vector PairLevels 4) (s : State) : (compareAll r s).phase = s.phase := rfl
@[simp] theorem compareAll_restartHeld (r : Vector PairLevels 4) (s : State) : (compareAll r s).restartHeld = s.restartHeld := rfl
@[simp] theorem compareAll_restartFrom (r : Vector PairLevels 4) (s : State) : (compareAll r s).restartFrom = s.restartFrom := rfl
@[simp] theorem compareAll_reading (r : Vector PairLevels 4) (s : State) : (compareAll r s).reading = s.reading := rfl
@[simp] theorem compareAll_selfTest (r : Vector PairLevels 4) (s : State) : (compareAll r s).selfTest = s.selfTest := rfl
@[simp] theorem compareAll_selfTestSince (r : Vector PairLevels 4) (s : State) : (compareAll r s).selfTestSince = s.selfTestSince := rfl
@[simp] theorem compareAll_silenceOver (r : Vector PairLevels 4) (s : State) : (compareAll r s).silenceOver = s.silenceOver := rfl
@[simp] theorem compareAll_config (r : Vector PairLevels 4) (s : State) : (compareAll r s).config = s.config := rfl
@[simp] theorem compareAll_passAt (r : Vector PairLevels 4) (s : State) : (compareAll r s).passAt = s.passAt := rfl
@[simp] theorem compareAll_lockdown (r : Vector PairLevels 4) (s : State) : (compareAll r s).lockdown = s.lockdown := rfl
@[simp] theorem compareAll_lockdownRecord (r : Vector PairLevels 4) (s : State) : (compareAll r s).lockdownRecord = s.lockdownRecord := rfl
@[simp] theorem compareAll_head (r : Vector PairLevels 4) (s : State) : (compareAll r s).head = s.head := rfl
@[simp] theorem compareAll_detector (r : Vector PairLevels 4) (s : State) : (compareAll r s).detector = s.detector := rfl
@[simp] theorem compareAll_txy (r : Vector PairLevels 4) (s : State) : (compareAll r s).txy = s.txy := rfl
@[simp] theorem compareAll_tyx (r : Vector PairLevels 4) (s : State) : (compareAll r s).tyx = s.tyx := rfl
@[simp] theorem compareAll_log (r : Vector PairLevels 4) (s : State) : (compareAll r s).log = s.log := rfl
@[simp] theorem compareAll_line (r : Vector PairLevels 4) (s : State) : (compareAll r s).line = s.line := rfl
@[simp] theorem compareAll_handed (r : Vector PairLevels 4) (s : State) : (compareAll r s).handed = s.handed := rfl
@[simp] theorem compareAll_builder (r : Vector PairLevels 4) (s : State) : (compareAll r s).builder = s.builder := rfl
@[simp] theorem compareAll_peers (r : Vector PairLevels 4) (s : State) : (compareAll r s).peers = s.peers := rfl
@[simp] theorem compareAll_slots (r : Vector PairLevels 4) (s : State) : (compareAll r s).slots = s.slots := rfl
@[simp] theorem compareAll_operator (r : Vector PairLevels 4) (s : State) : (compareAll r s).operator = s.operator := rfl
@[simp] theorem compareAll_lanes (r : Vector PairLevels 4) (s : State) : (compareAll r s).lanes = s.lanes := rfl
@[simp] theorem compareAll_pins (r : Vector PairLevels 4) (s : State) : (compareAll r s).pins = s.pins := rfl
@[simp] theorem compareAll_freeUses (r : Vector PairLevels 4) (s : State) : (compareAll r s).freeUses = s.freeUses := rfl
@[simp] theorem compareAll_pending (r : Vector PairLevels 4) (s : State) : (compareAll r s).pending = s.pending := rfl

/-! `clearCounters` -/

@[simp] theorem clearCounters_now (s : State) : (clearCounters s).now = s.now := rfl
@[simp] theorem clearCounters_sampleDue (s : State) : (clearCounters s).sampleDue = s.sampleDue := rfl
@[simp] theorem clearCounters_phase (s : State) : (clearCounters s).phase = s.phase := rfl
@[simp] theorem clearCounters_restartHeld (s : State) : (clearCounters s).restartHeld = s.restartHeld := rfl
@[simp] theorem clearCounters_restartFrom (s : State) : (clearCounters s).restartFrom = s.restartFrom := rfl
@[simp] theorem clearCounters_reading (s : State) : (clearCounters s).reading = s.reading := rfl
@[simp] theorem clearCounters_selfTest (s : State) : (clearCounters s).selfTest = s.selfTest := rfl
@[simp] theorem clearCounters_selfTestSince (s : State) : (clearCounters s).selfTestSince = s.selfTestSince := rfl
@[simp] theorem clearCounters_silenceOver (s : State) : (clearCounters s).silenceOver = s.silenceOver := rfl
@[simp] theorem clearCounters_config (s : State) : (clearCounters s).config = s.config := rfl
@[simp] theorem clearCounters_passAt (s : State) : (clearCounters s).passAt = s.passAt := rfl
@[simp] theorem clearCounters_lockdown (s : State) : (clearCounters s).lockdown = s.lockdown := rfl
@[simp] theorem clearCounters_lockdownRecord (s : State) : (clearCounters s).lockdownRecord = s.lockdownRecord := rfl
@[simp] theorem clearCounters_head (s : State) : (clearCounters s).head = s.head := rfl
@[simp] theorem clearCounters_detector (s : State) : (clearCounters s).detector = s.detector := rfl
@[simp] theorem clearCounters_txy (s : State) : (clearCounters s).txy = s.txy := rfl
@[simp] theorem clearCounters_tyx (s : State) : (clearCounters s).tyx = s.tyx := rfl
@[simp] theorem clearCounters_log (s : State) : (clearCounters s).log = s.log := rfl
@[simp] theorem clearCounters_handed (s : State) : (clearCounters s).handed = s.handed := rfl
@[simp] theorem clearCounters_builder (s : State) : (clearCounters s).builder = s.builder := rfl
@[simp] theorem clearCounters_slots (s : State) : (clearCounters s).slots = s.slots := rfl
@[simp] theorem clearCounters_operator (s : State) : (clearCounters s).operator = s.operator := rfl
@[simp] theorem clearCounters_lanes (s : State) : (clearCounters s).lanes = s.lanes := rfl
@[simp] theorem clearCounters_outputs (s : State) : (clearCounters s).outputs = s.outputs := rfl
@[simp] theorem clearCounters_pins (s : State) : (clearCounters s).pins = s.pins := rfl
@[simp] theorem clearCounters_freeUses (s : State) : (clearCounters s).freeUses = s.freeUses := rfl
@[simp] theorem clearCounters_pending (s : State) : (clearCounters s).pending = s.pending := rfl

/-! `takeLevels` -/

@[simp] theorem takeLevels_now (l : OperatorLevels) (s : State) : (takeLevels l s).now = s.now := rfl
@[simp] theorem takeLevels_sampleDue (l : OperatorLevels) (s : State) : (takeLevels l s).sampleDue = s.sampleDue := rfl
@[simp] theorem takeLevels_phase (l : OperatorLevels) (s : State) : (takeLevels l s).phase = s.phase := rfl
@[simp] theorem takeLevels_restartHeld (l : OperatorLevels) (s : State) : (takeLevels l s).restartHeld = s.restartHeld := rfl
@[simp] theorem takeLevels_restartFrom (l : OperatorLevels) (s : State) : (takeLevels l s).restartFrom = s.restartFrom := rfl
@[simp] theorem takeLevels_reading (l : OperatorLevels) (s : State) : (takeLevels l s).reading = s.reading := rfl
@[simp] theorem takeLevels_selfTest (l : OperatorLevels) (s : State) : (takeLevels l s).selfTest = s.selfTest := rfl
@[simp] theorem takeLevels_selfTestSince (l : OperatorLevels) (s : State) : (takeLevels l s).selfTestSince = s.selfTestSince := rfl
@[simp] theorem takeLevels_silenceOver (l : OperatorLevels) (s : State) : (takeLevels l s).silenceOver = s.silenceOver := rfl
@[simp] theorem takeLevels_config (l : OperatorLevels) (s : State) : (takeLevels l s).config = s.config := rfl
@[simp] theorem takeLevels_passAt (l : OperatorLevels) (s : State) : (takeLevels l s).passAt = s.passAt := rfl
@[simp] theorem takeLevels_lockdown (l : OperatorLevels) (s : State) : (takeLevels l s).lockdown = s.lockdown := rfl
@[simp] theorem takeLevels_lockdownRecord (l : OperatorLevels) (s : State) : (takeLevels l s).lockdownRecord = s.lockdownRecord := rfl
@[simp] theorem takeLevels_head (l : OperatorLevels) (s : State) : (takeLevels l s).head = s.head := rfl
@[simp] theorem takeLevels_detector (l : OperatorLevels) (s : State) : (takeLevels l s).detector = s.detector := rfl
@[simp] theorem takeLevels_txy (l : OperatorLevels) (s : State) : (takeLevels l s).txy = s.txy := rfl
@[simp] theorem takeLevels_tyx (l : OperatorLevels) (s : State) : (takeLevels l s).tyx = s.tyx := rfl
@[simp] theorem takeLevels_log (l : OperatorLevels) (s : State) : (takeLevels l s).log = s.log := rfl
@[simp] theorem takeLevels_line (l : OperatorLevels) (s : State) : (takeLevels l s).line = s.line := rfl
@[simp] theorem takeLevels_handed (l : OperatorLevels) (s : State) : (takeLevels l s).handed = s.handed := rfl
@[simp] theorem takeLevels_builder (l : OperatorLevels) (s : State) : (takeLevels l s).builder = s.builder := rfl
@[simp] theorem takeLevels_peers (l : OperatorLevels) (s : State) : (takeLevels l s).peers = s.peers := rfl
@[simp] theorem takeLevels_slots (l : OperatorLevels) (s : State) : (takeLevels l s).slots = s.slots := rfl
@[simp] theorem takeLevels_lanes (l : OperatorLevels) (s : State) : (takeLevels l s).lanes = s.lanes := rfl
@[simp] theorem takeLevels_outputs (l : OperatorLevels) (s : State) : (takeLevels l s).outputs = s.outputs := rfl
@[simp] theorem takeLevels_freeUses (l : OperatorLevels) (s : State) : (takeLevels l s).freeUses = s.freeUses := rfl
@[simp] theorem takeLevels_pending (l : OperatorLevels) (s : State) : (takeLevels l s).pending = s.pending := rfl

/-! `takeFiltered` -/

@[simp] theorem takeFiltered_now (a b : Bool) (s : State) : (takeFiltered a b s).now = s.now := rfl
@[simp] theorem takeFiltered_sampleDue (a b : Bool) (s : State) : (takeFiltered a b s).sampleDue = s.sampleDue := rfl
@[simp] theorem takeFiltered_phase (a b : Bool) (s : State) : (takeFiltered a b s).phase = s.phase := rfl
@[simp] theorem takeFiltered_restartHeld (a b : Bool) (s : State) : (takeFiltered a b s).restartHeld = s.restartHeld := rfl
@[simp] theorem takeFiltered_restartFrom (a b : Bool) (s : State) : (takeFiltered a b s).restartFrom = s.restartFrom := rfl
@[simp] theorem takeFiltered_reading (a b : Bool) (s : State) : (takeFiltered a b s).reading = s.reading := rfl
@[simp] theorem takeFiltered_selfTest (a b : Bool) (s : State) : (takeFiltered a b s).selfTest = s.selfTest := rfl
@[simp] theorem takeFiltered_selfTestSince (a b : Bool) (s : State) : (takeFiltered a b s).selfTestSince = s.selfTestSince := rfl
@[simp] theorem takeFiltered_silenceOver (a b : Bool) (s : State) : (takeFiltered a b s).silenceOver = s.silenceOver := rfl
@[simp] theorem takeFiltered_config (a b : Bool) (s : State) : (takeFiltered a b s).config = s.config := rfl
@[simp] theorem takeFiltered_passAt (a b : Bool) (s : State) : (takeFiltered a b s).passAt = s.passAt := rfl
@[simp] theorem takeFiltered_lockdown (a b : Bool) (s : State) : (takeFiltered a b s).lockdown = s.lockdown := rfl
@[simp] theorem takeFiltered_lockdownRecord (a b : Bool) (s : State) : (takeFiltered a b s).lockdownRecord = s.lockdownRecord := rfl
@[simp] theorem takeFiltered_detector (a b : Bool) (s : State) : (takeFiltered a b s).detector = s.detector := rfl
@[simp] theorem takeFiltered_txy (a b : Bool) (s : State) : (takeFiltered a b s).txy = s.txy := rfl
@[simp] theorem takeFiltered_tyx (a b : Bool) (s : State) : (takeFiltered a b s).tyx = s.tyx := rfl
@[simp] theorem takeFiltered_log (a b : Bool) (s : State) : (takeFiltered a b s).log = s.log := rfl
@[simp] theorem takeFiltered_line (a b : Bool) (s : State) : (takeFiltered a b s).line = s.line := rfl
@[simp] theorem takeFiltered_handed (a b : Bool) (s : State) : (takeFiltered a b s).handed = s.handed := rfl
@[simp] theorem takeFiltered_builder (a b : Bool) (s : State) : (takeFiltered a b s).builder = s.builder := rfl
@[simp] theorem takeFiltered_peers (a b : Bool) (s : State) : (takeFiltered a b s).peers = s.peers := rfl
@[simp] theorem takeFiltered_slots (a b : Bool) (s : State) : (takeFiltered a b s).slots = s.slots := rfl
@[simp] theorem takeFiltered_operator (a b : Bool) (s : State) : (takeFiltered a b s).operator = s.operator := rfl
@[simp] theorem takeFiltered_lanes (a b : Bool) (s : State) : (takeFiltered a b s).lanes = s.lanes := rfl
@[simp] theorem takeFiltered_outputs (a b : Bool) (s : State) : (takeFiltered a b s).outputs = s.outputs := rfl
@[simp] theorem takeFiltered_freeUses (a b : Bool) (s : State) : (takeFiltered a b s).freeUses = s.freeUses := rfl
@[simp] theorem takeFiltered_pending (a b : Bool) (s : State) : (takeFiltered a b s).pending = s.pending := rfl

/-! `takeSpike` -/

@[simp] theorem takeSpike_now (c : Channel) (s : State) : (takeSpike c s).now = s.now := rfl
@[simp] theorem takeSpike_sampleDue (c : Channel) (s : State) : (takeSpike c s).sampleDue = s.sampleDue := rfl
@[simp] theorem takeSpike_phase (c : Channel) (s : State) : (takeSpike c s).phase = s.phase := rfl
@[simp] theorem takeSpike_restartHeld (c : Channel) (s : State) : (takeSpike c s).restartHeld = s.restartHeld := rfl
@[simp] theorem takeSpike_restartFrom (c : Channel) (s : State) : (takeSpike c s).restartFrom = s.restartFrom := rfl
@[simp] theorem takeSpike_reading (c : Channel) (s : State) : (takeSpike c s).reading = s.reading := rfl
@[simp] theorem takeSpike_selfTest (c : Channel) (s : State) : (takeSpike c s).selfTest = s.selfTest := rfl
@[simp] theorem takeSpike_selfTestSince (c : Channel) (s : State) : (takeSpike c s).selfTestSince = s.selfTestSince := rfl
@[simp] theorem takeSpike_silenceOver (c : Channel) (s : State) : (takeSpike c s).silenceOver = s.silenceOver := rfl
@[simp] theorem takeSpike_config (c : Channel) (s : State) : (takeSpike c s).config = s.config := rfl
@[simp] theorem takeSpike_passAt (c : Channel) (s : State) : (takeSpike c s).passAt = s.passAt := rfl
@[simp] theorem takeSpike_lockdown (c : Channel) (s : State) : (takeSpike c s).lockdown = s.lockdown := rfl
@[simp] theorem takeSpike_lockdownRecord (c : Channel) (s : State) : (takeSpike c s).lockdownRecord = s.lockdownRecord := rfl
@[simp] theorem takeSpike_detector (c : Channel) (s : State) : (takeSpike c s).detector = s.detector := rfl
@[simp] theorem takeSpike_txy (c : Channel) (s : State) : (takeSpike c s).txy = s.txy := rfl
@[simp] theorem takeSpike_tyx (c : Channel) (s : State) : (takeSpike c s).tyx = s.tyx := rfl
@[simp] theorem takeSpike_log (c : Channel) (s : State) : (takeSpike c s).log = s.log := rfl
@[simp] theorem takeSpike_line (c : Channel) (s : State) : (takeSpike c s).line = s.line := rfl
@[simp] theorem takeSpike_handed (c : Channel) (s : State) : (takeSpike c s).handed = s.handed := rfl
@[simp] theorem takeSpike_builder (c : Channel) (s : State) : (takeSpike c s).builder = s.builder := rfl
@[simp] theorem takeSpike_peers (c : Channel) (s : State) : (takeSpike c s).peers = s.peers := rfl
@[simp] theorem takeSpike_slots (c : Channel) (s : State) : (takeSpike c s).slots = s.slots := rfl
@[simp] theorem takeSpike_operator (c : Channel) (s : State) : (takeSpike c s).operator = s.operator := rfl
@[simp] theorem takeSpike_lanes (c : Channel) (s : State) : (takeSpike c s).lanes = s.lanes := rfl
@[simp] theorem takeSpike_outputs (c : Channel) (s : State) : (takeSpike c s).outputs = s.outputs := rfl
@[simp] theorem takeSpike_freeUses (c : Channel) (s : State) : (takeSpike c s).freeUses = s.freeUses := rfl
@[simp] theorem takeSpike_pending (c : Channel) (s : State) : (takeSpike c s).pending = s.pending := rfl

/-! `issueDemand` -/

@[simp] theorem issueDemand_now (i : Fin 4) (k : ResetKind) (s : State) : (issueDemand i k s).now = s.now := rfl
@[simp] theorem issueDemand_sampleDue (i : Fin 4) (k : ResetKind) (s : State) : (issueDemand i k s).sampleDue = s.sampleDue := rfl
@[simp] theorem issueDemand_phase (i : Fin 4) (k : ResetKind) (s : State) : (issueDemand i k s).phase = s.phase := rfl
@[simp] theorem issueDemand_restartHeld (i : Fin 4) (k : ResetKind) (s : State) : (issueDemand i k s).restartHeld = s.restartHeld := rfl
@[simp] theorem issueDemand_restartFrom (i : Fin 4) (k : ResetKind) (s : State) : (issueDemand i k s).restartFrom = s.restartFrom := rfl
@[simp] theorem issueDemand_reading (i : Fin 4) (k : ResetKind) (s : State) : (issueDemand i k s).reading = s.reading := rfl
@[simp] theorem issueDemand_selfTest (i : Fin 4) (k : ResetKind) (s : State) : (issueDemand i k s).selfTest = s.selfTest := rfl
@[simp] theorem issueDemand_selfTestSince (i : Fin 4) (k : ResetKind) (s : State) : (issueDemand i k s).selfTestSince = s.selfTestSince := rfl
@[simp] theorem issueDemand_silenceOver (i : Fin 4) (k : ResetKind) (s : State) : (issueDemand i k s).silenceOver = s.silenceOver := rfl
@[simp] theorem issueDemand_config (i : Fin 4) (k : ResetKind) (s : State) : (issueDemand i k s).config = s.config := rfl
@[simp] theorem issueDemand_passAt (i : Fin 4) (k : ResetKind) (s : State) : (issueDemand i k s).passAt = s.passAt := rfl
@[simp] theorem issueDemand_lockdown (i : Fin 4) (k : ResetKind) (s : State) : (issueDemand i k s).lockdown = s.lockdown := rfl
@[simp] theorem issueDemand_lockdownRecord (i : Fin 4) (k : ResetKind) (s : State) : (issueDemand i k s).lockdownRecord = s.lockdownRecord := rfl
@[simp] theorem issueDemand_head (i : Fin 4) (k : ResetKind) (s : State) : (issueDemand i k s).head = s.head := rfl
@[simp] theorem issueDemand_detector (i : Fin 4) (k : ResetKind) (s : State) : (issueDemand i k s).detector = s.detector := rfl
@[simp] theorem issueDemand_txy (i : Fin 4) (k : ResetKind) (s : State) : (issueDemand i k s).txy = s.txy := rfl
@[simp] theorem issueDemand_tyx (i : Fin 4) (k : ResetKind) (s : State) : (issueDemand i k s).tyx = s.tyx := rfl
@[simp] theorem issueDemand_log (i : Fin 4) (k : ResetKind) (s : State) : (issueDemand i k s).log = s.log := rfl
@[simp] theorem issueDemand_line (i : Fin 4) (k : ResetKind) (s : State) : (issueDemand i k s).line = s.line := rfl
@[simp] theorem issueDemand_handed (i : Fin 4) (k : ResetKind) (s : State) : (issueDemand i k s).handed = s.handed := rfl
@[simp] theorem issueDemand_builder (i : Fin 4) (k : ResetKind) (s : State) : (issueDemand i k s).builder = s.builder := rfl
@[simp] theorem issueDemand_peers (i : Fin 4) (k : ResetKind) (s : State) : (issueDemand i k s).peers = s.peers := rfl
@[simp] theorem issueDemand_lanes (i : Fin 4) (k : ResetKind) (s : State) : (issueDemand i k s).lanes = s.lanes := rfl
@[simp] theorem issueDemand_outputs (i : Fin 4) (k : ResetKind) (s : State) : (issueDemand i k s).outputs = s.outputs := rfl
@[simp] theorem issueDemand_pins (i : Fin 4) (k : ResetKind) (s : State) : (issueDemand i k s).pins = s.pins := rfl
@[simp] theorem issueDemand_freeUses (i : Fin 4) (k : ResetKind) (s : State) : (issueDemand i k s).freeUses = s.freeUses := rfl
@[simp] theorem issueDemand_pending (i : Fin 4) (k : ResetKind) (s : State) : (issueDemand i k s).pending = s.pending := rfl

/-! `takeReason` -/

@[simp] theorem takeReason_now (s : State) : (takeReason s).now = s.now := by unfold takeReason; split <;> rfl
@[simp] theorem takeReason_sampleDue (s : State) : (takeReason s).sampleDue = s.sampleDue := by unfold takeReason; split <;> rfl
@[simp] theorem takeReason_phase (s : State) : (takeReason s).phase = s.phase := by unfold takeReason; split <;> rfl
@[simp] theorem takeReason_restartHeld (s : State) : (takeReason s).restartHeld = s.restartHeld := by unfold takeReason; split <;> rfl
@[simp] theorem takeReason_restartFrom (s : State) : (takeReason s).restartFrom = s.restartFrom := by unfold takeReason; split <;> rfl
@[simp] theorem takeReason_reading (s : State) : (takeReason s).reading = s.reading := by unfold takeReason; split <;> rfl
@[simp] theorem takeReason_selfTest (s : State) : (takeReason s).selfTest = s.selfTest := by unfold takeReason; split <;> rfl
@[simp] theorem takeReason_selfTestSince (s : State) : (takeReason s).selfTestSince = s.selfTestSince := by unfold takeReason; split <;> rfl
@[simp] theorem takeReason_silenceOver (s : State) : (takeReason s).silenceOver = s.silenceOver := by unfold takeReason; split <;> rfl
@[simp] theorem takeReason_config (s : State) : (takeReason s).config = s.config := by unfold takeReason; split <;> rfl
@[simp] theorem takeReason_passAt (s : State) : (takeReason s).passAt = s.passAt := by unfold takeReason; split <;> rfl
@[simp] theorem takeReason_lockdown (s : State) : (takeReason s).lockdown = s.lockdown := by unfold takeReason; split <;> rfl
@[simp] theorem takeReason_lockdownRecord (s : State) : (takeReason s).lockdownRecord = s.lockdownRecord := by unfold takeReason; split <;> rfl
@[simp] theorem takeReason_head (s : State) : (takeReason s).head = s.head := by unfold takeReason; split <;> rfl
@[simp] theorem takeReason_detector (s : State) : (takeReason s).detector = s.detector := by unfold takeReason; split <;> rfl
@[simp] theorem takeReason_txy (s : State) : (takeReason s).txy = s.txy := by unfold takeReason; split <;> rfl
@[simp] theorem takeReason_tyx (s : State) : (takeReason s).tyx = s.tyx := by unfold takeReason; split <;> rfl
@[simp] theorem takeReason_log (s : State) : (takeReason s).log = s.log := by unfold takeReason; split <;> rfl
@[simp] theorem takeReason_line (s : State) : (takeReason s).line = s.line := by unfold takeReason; split <;> rfl
@[simp] theorem takeReason_handed (s : State) : (takeReason s).handed = s.handed := by unfold takeReason; split <;> rfl
@[simp] theorem takeReason_peers (s : State) : (takeReason s).peers = s.peers := by unfold takeReason; split <;> rfl
@[simp] theorem takeReason_slots (s : State) : (takeReason s).slots = s.slots := by unfold takeReason; split <;> rfl
@[simp] theorem takeReason_operator (s : State) : (takeReason s).operator = s.operator := by unfold takeReason; split <;> rfl
@[simp] theorem takeReason_lanes (s : State) : (takeReason s).lanes = s.lanes := by unfold takeReason; split <;> rfl
@[simp] theorem takeReason_outputs (s : State) : (takeReason s).outputs = s.outputs := by unfold takeReason; split <;> rfl
@[simp] theorem takeReason_pins (s : State) : (takeReason s).pins = s.pins := by unfold takeReason; split <;> rfl
@[simp] theorem takeReason_freeUses (s : State) : (takeReason s).freeUses = s.freeUses := by unfold takeReason; split <;> rfl
@[simp] theorem takeReason_pending (s : State) : (takeReason s).pending = s.pending := by unfold takeReason; split <;> rfl

/-! `fillSlot` -/

@[simp] theorem fillSlot_now (s : State) : (fillSlot s).now = s.now := by unfold fillSlot; split <;> rfl
@[simp] theorem fillSlot_sampleDue (s : State) : (fillSlot s).sampleDue = s.sampleDue := by unfold fillSlot; split <;> rfl
@[simp] theorem fillSlot_phase (s : State) : (fillSlot s).phase = s.phase := by unfold fillSlot; split <;> rfl
@[simp] theorem fillSlot_restartHeld (s : State) : (fillSlot s).restartHeld = s.restartHeld := by unfold fillSlot; split <;> rfl
@[simp] theorem fillSlot_restartFrom (s : State) : (fillSlot s).restartFrom = s.restartFrom := by unfold fillSlot; split <;> rfl
@[simp] theorem fillSlot_reading (s : State) : (fillSlot s).reading = s.reading := by unfold fillSlot; split <;> rfl
@[simp] theorem fillSlot_selfTest (s : State) : (fillSlot s).selfTest = s.selfTest := by unfold fillSlot; split <;> rfl
@[simp] theorem fillSlot_selfTestSince (s : State) : (fillSlot s).selfTestSince = s.selfTestSince := by unfold fillSlot; split <;> rfl
@[simp] theorem fillSlot_silenceOver (s : State) : (fillSlot s).silenceOver = s.silenceOver := by unfold fillSlot; split <;> rfl
@[simp] theorem fillSlot_config (s : State) : (fillSlot s).config = s.config := by unfold fillSlot; split <;> rfl
@[simp] theorem fillSlot_passAt (s : State) : (fillSlot s).passAt = s.passAt := by unfold fillSlot; split <;> rfl
@[simp] theorem fillSlot_lockdown (s : State) : (fillSlot s).lockdown = s.lockdown := by unfold fillSlot; split <;> rfl
@[simp] theorem fillSlot_lockdownRecord (s : State) : (fillSlot s).lockdownRecord = s.lockdownRecord := by unfold fillSlot; split <;> rfl
@[simp] theorem fillSlot_head (s : State) : (fillSlot s).head = s.head := by unfold fillSlot; split <;> rfl
@[simp] theorem fillSlot_detector (s : State) : (fillSlot s).detector = s.detector := by unfold fillSlot; split <;> rfl
@[simp] theorem fillSlot_txy (s : State) : (fillSlot s).txy = s.txy := by unfold fillSlot; split <;> rfl
@[simp] theorem fillSlot_tyx (s : State) : (fillSlot s).tyx = s.tyx := by unfold fillSlot; split <;> rfl
@[simp] theorem fillSlot_log (s : State) : (fillSlot s).log = s.log := by unfold fillSlot; split <;> rfl
@[simp] theorem fillSlot_handed (s : State) : (fillSlot s).handed = s.handed := by unfold fillSlot; split <;> rfl
@[simp] theorem fillSlot_peers (s : State) : (fillSlot s).peers = s.peers := by unfold fillSlot; split <;> rfl
@[simp] theorem fillSlot_slots (s : State) : (fillSlot s).slots = s.slots := by unfold fillSlot; split <;> rfl
@[simp] theorem fillSlot_operator (s : State) : (fillSlot s).operator = s.operator := by unfold fillSlot; split <;> rfl
@[simp] theorem fillSlot_lanes (s : State) : (fillSlot s).lanes = s.lanes := by unfold fillSlot; split <;> rfl
@[simp] theorem fillSlot_outputs (s : State) : (fillSlot s).outputs = s.outputs := by unfold fillSlot; split <;> rfl
@[simp] theorem fillSlot_pins (s : State) : (fillSlot s).pins = s.pins := by unfold fillSlot; split <;> rfl
@[simp] theorem fillSlot_freeUses (s : State) : (fillSlot s).freeUses = s.freeUses := by unfold fillSlot; split <;> rfl
@[simp] theorem fillSlot_pending (s : State) : (fillSlot s).pending = s.pending := by unfold fillSlot; split <;> rfl

/-! `serve` -/

@[simp] theorem serve_now (s : State) : (serve s).now = s.now := by unfold serve; split <;> (try split) <;> rfl
@[simp] theorem serve_sampleDue (s : State) : (serve s).sampleDue = s.sampleDue := by unfold serve; split <;> (try split) <;> rfl
@[simp] theorem serve_phase (s : State) : (serve s).phase = s.phase := by unfold serve; split <;> (try split) <;> rfl
@[simp] theorem serve_restartHeld (s : State) : (serve s).restartHeld = s.restartHeld := by unfold serve; split <;> (try split) <;> rfl
@[simp] theorem serve_restartFrom (s : State) : (serve s).restartFrom = s.restartFrom := by unfold serve; split <;> (try split) <;> rfl
@[simp] theorem serve_reading (s : State) : (serve s).reading = s.reading := by unfold serve; split <;> (try split) <;> rfl
@[simp] theorem serve_selfTest (s : State) : (serve s).selfTest = s.selfTest := by unfold serve; split <;> (try split) <;> rfl
@[simp] theorem serve_selfTestSince (s : State) : (serve s).selfTestSince = s.selfTestSince := by unfold serve; split <;> (try split) <;> rfl
@[simp] theorem serve_silenceOver (s : State) : (serve s).silenceOver = s.silenceOver := by unfold serve; split <;> (try split) <;> rfl
@[simp] theorem serve_config (s : State) : (serve s).config = s.config := by unfold serve; split <;> (try split) <;> rfl
@[simp] theorem serve_passAt (s : State) : (serve s).passAt = s.passAt := by unfold serve; split <;> (try split) <;> rfl
@[simp] theorem serve_lockdown (s : State) : (serve s).lockdown = s.lockdown := by unfold serve; split <;> (try split) <;> rfl
@[simp] theorem serve_lockdownRecord (s : State) : (serve s).lockdownRecord = s.lockdownRecord := by unfold serve; split <;> (try split) <;> rfl
@[simp] theorem serve_head (s : State) : (serve s).head = s.head := by unfold serve; split <;> (try split) <;> rfl
@[simp] theorem serve_detector (s : State) : (serve s).detector = s.detector := by unfold serve; split <;> (try split) <;> rfl
@[simp] theorem serve_txy (s : State) : (serve s).txy = s.txy := by unfold serve; split <;> (try split) <;> rfl
@[simp] theorem serve_tyx (s : State) : (serve s).tyx = s.tyx := by unfold serve; split <;> (try split) <;> rfl
@[simp] theorem serve_log (s : State) : (serve s).log = s.log := by unfold serve; split <;> (try split) <;> rfl
@[simp] theorem serve_handed (s : State) : (serve s).handed = s.handed := by unfold serve; split <;> (try split) <;> rfl
@[simp] theorem serve_builder (s : State) : (serve s).builder = s.builder := by unfold serve; split <;> (try split) <;> rfl
@[simp] theorem serve_peers (s : State) : (serve s).peers = s.peers := by unfold serve; split <;> (try split) <;> rfl
@[simp] theorem serve_slots (s : State) : (serve s).slots = s.slots := by unfold serve; split <;> (try split) <;> rfl
@[simp] theorem serve_operator (s : State) : (serve s).operator = s.operator := by unfold serve; split <;> (try split) <;> rfl
@[simp] theorem serve_lanes (s : State) : (serve s).lanes = s.lanes := by unfold serve; split <;> (try split) <;> rfl
@[simp] theorem serve_outputs (s : State) : (serve s).outputs = s.outputs := by unfold serve; split <;> (try split) <;> rfl
@[simp] theorem serve_pins (s : State) : (serve s).pins = s.pins := by unfold serve; split <;> (try split) <;> rfl
@[simp] theorem serve_freeUses (s : State) : (serve s).freeUses = s.freeUses := by unfold serve; split <;> (try split) <;> rfl
@[simp] theorem serve_pending (s : State) : (serve s).pending = s.pending := by unfold serve; split <;> (try split) <;> rfl

/-! `noteChange` -/

@[simp] theorem noteChange_now (b s : State) : (noteChange b s).now = s.now := by unfold noteChange; split <;> simp
@[simp] theorem noteChange_sampleDue (b s : State) : (noteChange b s).sampleDue = s.sampleDue := by unfold noteChange; split <;> simp
@[simp] theorem noteChange_phase (b s : State) : (noteChange b s).phase = s.phase := by unfold noteChange; split <;> simp
@[simp] theorem noteChange_restartHeld (b s : State) : (noteChange b s).restartHeld = s.restartHeld := by unfold noteChange; split <;> simp
@[simp] theorem noteChange_restartFrom (b s : State) : (noteChange b s).restartFrom = s.restartFrom := by unfold noteChange; split <;> simp
@[simp] theorem noteChange_reading (b s : State) : (noteChange b s).reading = s.reading := by unfold noteChange; split <;> simp
@[simp] theorem noteChange_selfTest (b s : State) : (noteChange b s).selfTest = s.selfTest := by unfold noteChange; split <;> simp
@[simp] theorem noteChange_selfTestSince (b s : State) : (noteChange b s).selfTestSince = s.selfTestSince := by unfold noteChange; split <;> simp
@[simp] theorem noteChange_silenceOver (b s : State) : (noteChange b s).silenceOver = s.silenceOver := by unfold noteChange; split <;> simp
@[simp] theorem noteChange_config (b s : State) : (noteChange b s).config = s.config := by unfold noteChange; split <;> simp
@[simp] theorem noteChange_passAt (b s : State) : (noteChange b s).passAt = s.passAt := by unfold noteChange; split <;> simp
@[simp] theorem noteChange_lockdown (b s : State) : (noteChange b s).lockdown = s.lockdown := by unfold noteChange; split <;> simp
@[simp] theorem noteChange_lockdownRecord (b s : State) : (noteChange b s).lockdownRecord = s.lockdownRecord := by unfold noteChange; split <;> simp
@[simp] theorem noteChange_head (b s : State) : (noteChange b s).head = s.head := by unfold noteChange; split <;> simp
@[simp] theorem noteChange_detector (b s : State) : (noteChange b s).detector = s.detector := by unfold noteChange; split <;> simp
@[simp] theorem noteChange_txy (b s : State) : (noteChange b s).txy = s.txy := by unfold noteChange; split <;> simp
@[simp] theorem noteChange_tyx (b s : State) : (noteChange b s).tyx = s.tyx := by unfold noteChange; split <;> simp
@[simp] theorem noteChange_log (b s : State) : (noteChange b s).log = s.log := by unfold noteChange; split <;> simp
@[simp] theorem noteChange_line (b s : State) : (noteChange b s).line = s.line := by unfold noteChange; split <;> simp
@[simp] theorem noteChange_handed (b s : State) : (noteChange b s).handed = s.handed := by unfold noteChange; split <;> simp
@[simp] theorem noteChange_peers (b s : State) : (noteChange b s).peers = s.peers := by unfold noteChange; split <;> simp
@[simp] theorem noteChange_slots (b s : State) : (noteChange b s).slots = s.slots := by unfold noteChange; split <;> simp
@[simp] theorem noteChange_operator (b s : State) : (noteChange b s).operator = s.operator := by unfold noteChange; split <;> simp
@[simp] theorem noteChange_lanes (b s : State) : (noteChange b s).lanes = s.lanes := by unfold noteChange; split <;> simp
@[simp] theorem noteChange_outputs (b s : State) : (noteChange b s).outputs = s.outputs := by unfold noteChange; split <;> simp
@[simp] theorem noteChange_pins (b s : State) : (noteChange b s).pins = s.pins := by unfold noteChange; split <;> simp
@[simp] theorem noteChange_freeUses (b s : State) : (noteChange b s).freeUses = s.freeUses := by unfold noteChange; split <;> simp
@[simp] theorem noteChange_pending (b s : State) : (noteChange b s).pending = s.pending := by unfold noteChange; split <;> simp

/-! `declareOn` -/

@[simp] theorem declareOn_now (c : Cause) (n : Nat) (p : Slot → Bool) (s : State) : (declareOn c n p s).now = s.now := by unfold declareOn; split <;> rfl
@[simp] theorem declareOn_sampleDue (c : Cause) (n : Nat) (p : Slot → Bool) (s : State) : (declareOn c n p s).sampleDue = s.sampleDue := by unfold declareOn; split <;> rfl
@[simp] theorem declareOn_phase (c : Cause) (n : Nat) (p : Slot → Bool) (s : State) : (declareOn c n p s).phase = s.phase := by unfold declareOn; split <;> rfl
@[simp] theorem declareOn_restartHeld (c : Cause) (n : Nat) (p : Slot → Bool) (s : State) : (declareOn c n p s).restartHeld = s.restartHeld := by unfold declareOn; split <;> rfl
@[simp] theorem declareOn_restartFrom (c : Cause) (n : Nat) (p : Slot → Bool) (s : State) : (declareOn c n p s).restartFrom = s.restartFrom := by unfold declareOn; split <;> rfl
@[simp] theorem declareOn_reading (c : Cause) (n : Nat) (p : Slot → Bool) (s : State) : (declareOn c n p s).reading = s.reading := by unfold declareOn; split <;> rfl
@[simp] theorem declareOn_selfTest (c : Cause) (n : Nat) (p : Slot → Bool) (s : State) : (declareOn c n p s).selfTest = s.selfTest := by unfold declareOn; split <;> rfl
@[simp] theorem declareOn_selfTestSince (c : Cause) (n : Nat) (p : Slot → Bool) (s : State) : (declareOn c n p s).selfTestSince = s.selfTestSince := by unfold declareOn; split <;> rfl
@[simp] theorem declareOn_silenceOver (c : Cause) (n : Nat) (p : Slot → Bool) (s : State) : (declareOn c n p s).silenceOver = s.silenceOver := by unfold declareOn; split <;> rfl
@[simp] theorem declareOn_config (c : Cause) (n : Nat) (p : Slot → Bool) (s : State) : (declareOn c n p s).config = s.config := by unfold declareOn; split <;> rfl
@[simp] theorem declareOn_passAt (c : Cause) (n : Nat) (p : Slot → Bool) (s : State) : (declareOn c n p s).passAt = s.passAt := by unfold declareOn; split <;> rfl
@[simp] theorem declareOn_lockdown (c : Cause) (n : Nat) (p : Slot → Bool) (s : State) : (declareOn c n p s).lockdown = s.lockdown := by unfold declareOn; split <;> rfl
@[simp] theorem declareOn_lockdownRecord (c : Cause) (n : Nat) (p : Slot → Bool) (s : State) : (declareOn c n p s).lockdownRecord = s.lockdownRecord := by unfold declareOn; split <;> rfl
@[simp] theorem declareOn_head (c : Cause) (n : Nat) (p : Slot → Bool) (s : State) : (declareOn c n p s).head = s.head := by unfold declareOn; split <;> rfl
@[simp] theorem declareOn_detector (c : Cause) (n : Nat) (p : Slot → Bool) (s : State) : (declareOn c n p s).detector = s.detector := by unfold declareOn; split <;> rfl
@[simp] theorem declareOn_txy (c : Cause) (n : Nat) (p : Slot → Bool) (s : State) : (declareOn c n p s).txy = s.txy := by unfold declareOn; split <;> rfl
@[simp] theorem declareOn_tyx (c : Cause) (n : Nat) (p : Slot → Bool) (s : State) : (declareOn c n p s).tyx = s.tyx := by unfold declareOn; split <;> rfl
@[simp] theorem declareOn_log (c : Cause) (n : Nat) (p : Slot → Bool) (s : State) : (declareOn c n p s).log = s.log := by unfold declareOn; split <;> rfl
@[simp] theorem declareOn_line (c : Cause) (n : Nat) (p : Slot → Bool) (s : State) : (declareOn c n p s).line = s.line := by unfold declareOn; split <;> rfl
@[simp] theorem declareOn_handed (c : Cause) (n : Nat) (p : Slot → Bool) (s : State) : (declareOn c n p s).handed = s.handed := by unfold declareOn; split <;> rfl
@[simp] theorem declareOn_builder (c : Cause) (n : Nat) (p : Slot → Bool) (s : State) : (declareOn c n p s).builder = s.builder := by unfold declareOn; split <;> rfl
@[simp] theorem declareOn_peers (c : Cause) (n : Nat) (p : Slot → Bool) (s : State) : (declareOn c n p s).peers = s.peers := by unfold declareOn; split <;> rfl
@[simp] theorem declareOn_operator (c : Cause) (n : Nat) (p : Slot → Bool) (s : State) : (declareOn c n p s).operator = s.operator := by unfold declareOn; split <;> rfl
@[simp] theorem declareOn_lanes (c : Cause) (n : Nat) (p : Slot → Bool) (s : State) : (declareOn c n p s).lanes = s.lanes := by unfold declareOn; split <;> rfl
@[simp] theorem declareOn_outputs (c : Cause) (n : Nat) (p : Slot → Bool) (s : State) : (declareOn c n p s).outputs = s.outputs := by unfold declareOn; split <;> rfl
@[simp] theorem declareOn_pins (c : Cause) (n : Nat) (p : Slot → Bool) (s : State) : (declareOn c n p s).pins = s.pins := by unfold declareOn; split <;> rfl
@[simp] theorem declareOn_freeUses (c : Cause) (n : Nat) (p : Slot → Bool) (s : State) : (declareOn c n p s).freeUses = s.freeUses := by unfold declareOn; split <;> rfl
@[simp] theorem declareOn_pending (c : Cause) (n : Nat) (p : Slot → Bool) (s : State) : (declareOn c n p s).pending = s.pending := by unfold declareOn; split <;> rfl

/-! `declareAll` -/

@[simp] theorem declareAll_now (c : Cause) (s : State) : (declareAll c s).now = s.now := by simp [declareAll]
@[simp] theorem declareAll_sampleDue (c : Cause) (s : State) : (declareAll c s).sampleDue = s.sampleDue := by simp [declareAll]
@[simp] theorem declareAll_phase (c : Cause) (s : State) : (declareAll c s).phase = s.phase := by simp [declareAll]
@[simp] theorem declareAll_restartHeld (c : Cause) (s : State) : (declareAll c s).restartHeld = s.restartHeld := by simp [declareAll]
@[simp] theorem declareAll_restartFrom (c : Cause) (s : State) : (declareAll c s).restartFrom = s.restartFrom := by simp [declareAll]
@[simp] theorem declareAll_reading (c : Cause) (s : State) : (declareAll c s).reading = s.reading := by simp [declareAll]
@[simp] theorem declareAll_selfTest (c : Cause) (s : State) : (declareAll c s).selfTest = s.selfTest := by simp [declareAll]
@[simp] theorem declareAll_selfTestSince (c : Cause) (s : State) : (declareAll c s).selfTestSince = s.selfTestSince := by simp [declareAll]
@[simp] theorem declareAll_silenceOver (c : Cause) (s : State) : (declareAll c s).silenceOver = s.silenceOver := by simp [declareAll]
@[simp] theorem declareAll_config (c : Cause) (s : State) : (declareAll c s).config = s.config := by simp [declareAll]
@[simp] theorem declareAll_passAt (c : Cause) (s : State) : (declareAll c s).passAt = s.passAt := by simp [declareAll]
@[simp] theorem declareAll_lockdown (c : Cause) (s : State) : (declareAll c s).lockdown = s.lockdown := by simp [declareAll]
@[simp] theorem declareAll_lockdownRecord (c : Cause) (s : State) : (declareAll c s).lockdownRecord = s.lockdownRecord := by simp [declareAll]
@[simp] theorem declareAll_head (c : Cause) (s : State) : (declareAll c s).head = s.head := by simp [declareAll]
@[simp] theorem declareAll_detector (c : Cause) (s : State) : (declareAll c s).detector = s.detector := by simp [declareAll]
@[simp] theorem declareAll_txy (c : Cause) (s : State) : (declareAll c s).txy = s.txy := by simp [declareAll]
@[simp] theorem declareAll_tyx (c : Cause) (s : State) : (declareAll c s).tyx = s.tyx := by simp [declareAll]
@[simp] theorem declareAll_log (c : Cause) (s : State) : (declareAll c s).log = s.log := by simp [declareAll]
@[simp] theorem declareAll_line (c : Cause) (s : State) : (declareAll c s).line = s.line := by simp [declareAll]
@[simp] theorem declareAll_handed (c : Cause) (s : State) : (declareAll c s).handed = s.handed := by simp [declareAll]
@[simp] theorem declareAll_builder (c : Cause) (s : State) : (declareAll c s).builder = s.builder := by simp [declareAll]
@[simp] theorem declareAll_peers (c : Cause) (s : State) : (declareAll c s).peers = s.peers := by simp [declareAll]
@[simp] theorem declareAll_operator (c : Cause) (s : State) : (declareAll c s).operator = s.operator := by simp [declareAll]
@[simp] theorem declareAll_lanes (c : Cause) (s : State) : (declareAll c s).lanes = s.lanes := by simp [declareAll]
@[simp] theorem declareAll_outputs (c : Cause) (s : State) : (declareAll c s).outputs = s.outputs := by simp [declareAll]
@[simp] theorem declareAll_pins (c : Cause) (s : State) : (declareAll c s).pins = s.pins := by simp [declareAll]
@[simp] theorem declareAll_freeUses (c : Cause) (s : State) : (declareAll c s).freeUses = s.freeUses := by simp [declareAll]
@[simp] theorem declareAll_pending (c : Cause) (s : State) : (declareAll c s).pending = s.pending := by simp [declareAll]

/-! `declareUsing` -/

@[simp] theorem declareUsing_now (c : Cause) (n : Nat) (s : State) : (declareUsing c n s).now = s.now := by simp [declareUsing]
@[simp] theorem declareUsing_sampleDue (c : Cause) (n : Nat) (s : State) : (declareUsing c n s).sampleDue = s.sampleDue := by simp [declareUsing]
@[simp] theorem declareUsing_phase (c : Cause) (n : Nat) (s : State) : (declareUsing c n s).phase = s.phase := by simp [declareUsing]
@[simp] theorem declareUsing_restartHeld (c : Cause) (n : Nat) (s : State) : (declareUsing c n s).restartHeld = s.restartHeld := by simp [declareUsing]
@[simp] theorem declareUsing_restartFrom (c : Cause) (n : Nat) (s : State) : (declareUsing c n s).restartFrom = s.restartFrom := by simp [declareUsing]
@[simp] theorem declareUsing_reading (c : Cause) (n : Nat) (s : State) : (declareUsing c n s).reading = s.reading := by simp [declareUsing]
@[simp] theorem declareUsing_selfTest (c : Cause) (n : Nat) (s : State) : (declareUsing c n s).selfTest = s.selfTest := by simp [declareUsing]
@[simp] theorem declareUsing_selfTestSince (c : Cause) (n : Nat) (s : State) : (declareUsing c n s).selfTestSince = s.selfTestSince := by simp [declareUsing]
@[simp] theorem declareUsing_silenceOver (c : Cause) (n : Nat) (s : State) : (declareUsing c n s).silenceOver = s.silenceOver := by simp [declareUsing]
@[simp] theorem declareUsing_config (c : Cause) (n : Nat) (s : State) : (declareUsing c n s).config = s.config := by simp [declareUsing]
@[simp] theorem declareUsing_passAt (c : Cause) (n : Nat) (s : State) : (declareUsing c n s).passAt = s.passAt := by simp [declareUsing]
@[simp] theorem declareUsing_lockdown (c : Cause) (n : Nat) (s : State) : (declareUsing c n s).lockdown = s.lockdown := by simp [declareUsing]
@[simp] theorem declareUsing_lockdownRecord (c : Cause) (n : Nat) (s : State) : (declareUsing c n s).lockdownRecord = s.lockdownRecord := by simp [declareUsing]
@[simp] theorem declareUsing_head (c : Cause) (n : Nat) (s : State) : (declareUsing c n s).head = s.head := by simp [declareUsing]
@[simp] theorem declareUsing_detector (c : Cause) (n : Nat) (s : State) : (declareUsing c n s).detector = s.detector := by simp [declareUsing]
@[simp] theorem declareUsing_txy (c : Cause) (n : Nat) (s : State) : (declareUsing c n s).txy = s.txy := by simp [declareUsing]
@[simp] theorem declareUsing_tyx (c : Cause) (n : Nat) (s : State) : (declareUsing c n s).tyx = s.tyx := by simp [declareUsing]
@[simp] theorem declareUsing_log (c : Cause) (n : Nat) (s : State) : (declareUsing c n s).log = s.log := by simp [declareUsing]
@[simp] theorem declareUsing_line (c : Cause) (n : Nat) (s : State) : (declareUsing c n s).line = s.line := by simp [declareUsing]
@[simp] theorem declareUsing_handed (c : Cause) (n : Nat) (s : State) : (declareUsing c n s).handed = s.handed := by simp [declareUsing]
@[simp] theorem declareUsing_builder (c : Cause) (n : Nat) (s : State) : (declareUsing c n s).builder = s.builder := by simp [declareUsing]
@[simp] theorem declareUsing_peers (c : Cause) (n : Nat) (s : State) : (declareUsing c n s).peers = s.peers := by simp [declareUsing]
@[simp] theorem declareUsing_operator (c : Cause) (n : Nat) (s : State) : (declareUsing c n s).operator = s.operator := by simp [declareUsing]
@[simp] theorem declareUsing_lanes (c : Cause) (n : Nat) (s : State) : (declareUsing c n s).lanes = s.lanes := by simp [declareUsing]
@[simp] theorem declareUsing_outputs (c : Cause) (n : Nat) (s : State) : (declareUsing c n s).outputs = s.outputs := by simp [declareUsing]
@[simp] theorem declareUsing_pins (c : Cause) (n : Nat) (s : State) : (declareUsing c n s).pins = s.pins := by simp [declareUsing]
@[simp] theorem declareUsing_freeUses (c : Cause) (n : Nat) (s : State) : (declareUsing c n s).freeUses = s.freeUses := by simp [declareUsing]
@[simp] theorem declareUsing_pending (c : Cause) (n : Nat) (s : State) : (declareUsing c n s).pending = s.pending := by simp [declareUsing]

/-! `declareAt` -/

@[simp] theorem declareAt_now (c : Cause) (i : Fin 4) (s : State) : (declareAt c i s).now = s.now := by unfold declareAt; split <;> rfl
@[simp] theorem declareAt_sampleDue (c : Cause) (i : Fin 4) (s : State) : (declareAt c i s).sampleDue = s.sampleDue := by unfold declareAt; split <;> rfl
@[simp] theorem declareAt_phase (c : Cause) (i : Fin 4) (s : State) : (declareAt c i s).phase = s.phase := by unfold declareAt; split <;> rfl
@[simp] theorem declareAt_restartHeld (c : Cause) (i : Fin 4) (s : State) : (declareAt c i s).restartHeld = s.restartHeld := by unfold declareAt; split <;> rfl
@[simp] theorem declareAt_restartFrom (c : Cause) (i : Fin 4) (s : State) : (declareAt c i s).restartFrom = s.restartFrom := by unfold declareAt; split <;> rfl
@[simp] theorem declareAt_reading (c : Cause) (i : Fin 4) (s : State) : (declareAt c i s).reading = s.reading := by unfold declareAt; split <;> rfl
@[simp] theorem declareAt_selfTest (c : Cause) (i : Fin 4) (s : State) : (declareAt c i s).selfTest = s.selfTest := by unfold declareAt; split <;> rfl
@[simp] theorem declareAt_selfTestSince (c : Cause) (i : Fin 4) (s : State) : (declareAt c i s).selfTestSince = s.selfTestSince := by unfold declareAt; split <;> rfl
@[simp] theorem declareAt_silenceOver (c : Cause) (i : Fin 4) (s : State) : (declareAt c i s).silenceOver = s.silenceOver := by unfold declareAt; split <;> rfl
@[simp] theorem declareAt_config (c : Cause) (i : Fin 4) (s : State) : (declareAt c i s).config = s.config := by unfold declareAt; split <;> rfl
@[simp] theorem declareAt_passAt (c : Cause) (i : Fin 4) (s : State) : (declareAt c i s).passAt = s.passAt := by unfold declareAt; split <;> rfl
@[simp] theorem declareAt_lockdown (c : Cause) (i : Fin 4) (s : State) : (declareAt c i s).lockdown = s.lockdown := by unfold declareAt; split <;> rfl
@[simp] theorem declareAt_lockdownRecord (c : Cause) (i : Fin 4) (s : State) : (declareAt c i s).lockdownRecord = s.lockdownRecord := by unfold declareAt; split <;> rfl
@[simp] theorem declareAt_head (c : Cause) (i : Fin 4) (s : State) : (declareAt c i s).head = s.head := by unfold declareAt; split <;> rfl
@[simp] theorem declareAt_detector (c : Cause) (i : Fin 4) (s : State) : (declareAt c i s).detector = s.detector := by unfold declareAt; split <;> rfl
@[simp] theorem declareAt_txy (c : Cause) (i : Fin 4) (s : State) : (declareAt c i s).txy = s.txy := by unfold declareAt; split <;> rfl
@[simp] theorem declareAt_tyx (c : Cause) (i : Fin 4) (s : State) : (declareAt c i s).tyx = s.tyx := by unfold declareAt; split <;> rfl
@[simp] theorem declareAt_log (c : Cause) (i : Fin 4) (s : State) : (declareAt c i s).log = s.log := by unfold declareAt; split <;> rfl
@[simp] theorem declareAt_line (c : Cause) (i : Fin 4) (s : State) : (declareAt c i s).line = s.line := by unfold declareAt; split <;> rfl
@[simp] theorem declareAt_handed (c : Cause) (i : Fin 4) (s : State) : (declareAt c i s).handed = s.handed := by unfold declareAt; split <;> rfl
@[simp] theorem declareAt_builder (c : Cause) (i : Fin 4) (s : State) : (declareAt c i s).builder = s.builder := by unfold declareAt; split <;> rfl
@[simp] theorem declareAt_peers (c : Cause) (i : Fin 4) (s : State) : (declareAt c i s).peers = s.peers := by unfold declareAt; split <;> rfl
@[simp] theorem declareAt_operator (c : Cause) (i : Fin 4) (s : State) : (declareAt c i s).operator = s.operator := by unfold declareAt; split <;> rfl
@[simp] theorem declareAt_lanes (c : Cause) (i : Fin 4) (s : State) : (declareAt c i s).lanes = s.lanes := by unfold declareAt; split <;> rfl
@[simp] theorem declareAt_outputs (c : Cause) (i : Fin 4) (s : State) : (declareAt c i s).outputs = s.outputs := by unfold declareAt; split <;> rfl
@[simp] theorem declareAt_pins (c : Cause) (i : Fin 4) (s : State) : (declareAt c i s).pins = s.pins := by unfold declareAt; split <;> rfl
@[simp] theorem declareAt_freeUses (c : Cause) (i : Fin 4) (s : State) : (declareAt c i s).freeUses = s.freeUses := by unfold declareAt; split <;> rfl
@[simp] theorem declareAt_pending (c : Cause) (i : Fin 4) (s : State) : (declareAt c i s).pending = s.pending := by unfold declareAt; split <;> rfl

/-! `notice` -/

@[simp] theorem notice_now (b s : State) : (notice b s).now = s.now := by simp [notice]
@[simp] theorem notice_sampleDue (b s : State) : (notice b s).sampleDue = s.sampleDue := by simp [notice]
@[simp] theorem notice_phase (b s : State) : (notice b s).phase = s.phase := by simp [notice]
@[simp] theorem notice_restartHeld (b s : State) : (notice b s).restartHeld = s.restartHeld := by simp [notice]
@[simp] theorem notice_restartFrom (b s : State) : (notice b s).restartFrom = s.restartFrom := by simp [notice]
@[simp] theorem notice_reading (b s : State) : (notice b s).reading = s.reading := by simp [notice]
@[simp] theorem notice_selfTest (b s : State) : (notice b s).selfTest = s.selfTest := by simp [notice]
@[simp] theorem notice_selfTestSince (b s : State) : (notice b s).selfTestSince = s.selfTestSince := by simp [notice]
@[simp] theorem notice_silenceOver (b s : State) : (notice b s).silenceOver = s.silenceOver := by simp [notice]
@[simp] theorem notice_config (b s : State) : (notice b s).config = s.config := by simp [notice]
@[simp] theorem notice_passAt (b s : State) : (notice b s).passAt = s.passAt := by simp [notice]
@[simp] theorem notice_lockdown (b s : State) : (notice b s).lockdown = s.lockdown := by simp [notice]
@[simp] theorem notice_lockdownRecord (b s : State) : (notice b s).lockdownRecord = s.lockdownRecord := by simp [notice]
@[simp] theorem notice_head (b s : State) : (notice b s).head = s.head := by simp [notice]
@[simp] theorem notice_detector (b s : State) : (notice b s).detector = s.detector := by simp [notice]
@[simp] theorem notice_txy (b s : State) : (notice b s).txy = s.txy := by simp [notice]
@[simp] theorem notice_tyx (b s : State) : (notice b s).tyx = s.tyx := by simp [notice]
@[simp] theorem notice_log (b s : State) : (notice b s).log = s.log := by simp [notice]
@[simp] theorem notice_line (b s : State) : (notice b s).line = s.line := by simp [notice]
@[simp] theorem notice_handed (b s : State) : (notice b s).handed = s.handed := by simp [notice]
@[simp] theorem notice_peers (b s : State) : (notice b s).peers = s.peers := by simp [notice]
@[simp] theorem notice_slots (b s : State) : (notice b s).slots = s.slots := by simp [notice]
@[simp] theorem notice_operator (b s : State) : (notice b s).operator = s.operator := by simp [notice]
@[simp] theorem notice_lanes (b s : State) : (notice b s).lanes = s.lanes := by simp [notice]
@[simp] theorem notice_pins (b s : State) : (notice b s).pins = s.pins := by simp [notice]
@[simp] theorem notice_freeUses (b s : State) : (notice b s).freeUses = s.freeUses := by simp [notice]
@[simp] theorem notice_pending (b s : State) : (notice b s).pending = s.pending := by simp [notice]

/-! `readRound` -/

@[simp] theorem readRound_now (o : TakingOrder) (f : Bool) (a : PeerRecord) (j : Bool) (s : State) : (readRound o f a j s).now = s.now := by simp [readRound]
@[simp] theorem readRound_sampleDue (o : TakingOrder) (f : Bool) (a : PeerRecord) (j : Bool) (s : State) : (readRound o f a j s).sampleDue = s.sampleDue := by simp [readRound]
@[simp] theorem readRound_phase (o : TakingOrder) (f : Bool) (a : PeerRecord) (j : Bool) (s : State) : (readRound o f a j s).phase = s.phase := by simp [readRound]
@[simp] theorem readRound_restartHeld (o : TakingOrder) (f : Bool) (a : PeerRecord) (j : Bool) (s : State) : (readRound o f a j s).restartHeld = s.restartHeld := by simp [readRound]
@[simp] theorem readRound_restartFrom (o : TakingOrder) (f : Bool) (a : PeerRecord) (j : Bool) (s : State) : (readRound o f a j s).restartFrom = s.restartFrom := by simp [readRound]
@[simp] theorem readRound_reading (o : TakingOrder) (f : Bool) (a : PeerRecord) (j : Bool) (s : State) : (readRound o f a j s).reading = s.reading := by simp [readRound]
@[simp] theorem readRound_selfTest (o : TakingOrder) (f : Bool) (a : PeerRecord) (j : Bool) (s : State) : (readRound o f a j s).selfTest = s.selfTest := by simp [readRound]
@[simp] theorem readRound_selfTestSince (o : TakingOrder) (f : Bool) (a : PeerRecord) (j : Bool) (s : State) : (readRound o f a j s).selfTestSince = s.selfTestSince := by simp [readRound]
@[simp] theorem readRound_silenceOver (o : TakingOrder) (f : Bool) (a : PeerRecord) (j : Bool) (s : State) : (readRound o f a j s).silenceOver = s.silenceOver := by simp [readRound]
@[simp] theorem readRound_config (o : TakingOrder) (f : Bool) (a : PeerRecord) (j : Bool) (s : State) : (readRound o f a j s).config = s.config := by simp [readRound]
@[simp] theorem readRound_passAt (o : TakingOrder) (f : Bool) (a : PeerRecord) (j : Bool) (s : State) : (readRound o f a j s).passAt = s.passAt := by simp [readRound]
@[simp] theorem readRound_lockdown (o : TakingOrder) (f : Bool) (a : PeerRecord) (j : Bool) (s : State) : (readRound o f a j s).lockdown = s.lockdown := by simp [readRound]
@[simp] theorem readRound_lockdownRecord (o : TakingOrder) (f : Bool) (a : PeerRecord) (j : Bool) (s : State) : (readRound o f a j s).lockdownRecord = s.lockdownRecord := by simp [readRound]
@[simp] theorem readRound_head (o : TakingOrder) (f : Bool) (a : PeerRecord) (j : Bool) (s : State) : (readRound o f a j s).head = s.head := by simp [readRound]
@[simp] theorem readRound_detector (o : TakingOrder) (f : Bool) (a : PeerRecord) (j : Bool) (s : State) : (readRound o f a j s).detector = s.detector := by simp [readRound]
@[simp] theorem readRound_txy (o : TakingOrder) (f : Bool) (a : PeerRecord) (j : Bool) (s : State) : (readRound o f a j s).txy = s.txy := by simp [readRound]
@[simp] theorem readRound_tyx (o : TakingOrder) (f : Bool) (a : PeerRecord) (j : Bool) (s : State) : (readRound o f a j s).tyx = s.tyx := by simp [readRound]
@[simp] theorem readRound_log (o : TakingOrder) (f : Bool) (a : PeerRecord) (j : Bool) (s : State) : (readRound o f a j s).log = s.log := by simp [readRound]
@[simp] theorem readRound_line (o : TakingOrder) (f : Bool) (a : PeerRecord) (j : Bool) (s : State) : (readRound o f a j s).line = s.line := by simp [readRound]
@[simp] theorem readRound_handed (o : TakingOrder) (f : Bool) (a : PeerRecord) (j : Bool) (s : State) : (readRound o f a j s).handed = s.handed := by simp [readRound]
@[simp] theorem readRound_peers (o : TakingOrder) (f : Bool) (a : PeerRecord) (j : Bool) (s : State) : (readRound o f a j s).peers = s.peers := by simp [readRound]
@[simp] theorem readRound_operator (o : TakingOrder) (f : Bool) (a : PeerRecord) (j : Bool) (s : State) : (readRound o f a j s).operator = s.operator := by simp [readRound]
@[simp] theorem readRound_lanes (o : TakingOrder) (f : Bool) (a : PeerRecord) (j : Bool) (s : State) : (readRound o f a j s).lanes = s.lanes := by simp [readRound]
@[simp] theorem readRound_pins (o : TakingOrder) (f : Bool) (a : PeerRecord) (j : Bool) (s : State) : (readRound o f a j s).pins = s.pins := by simp [readRound]
@[simp] theorem readRound_freeUses (o : TakingOrder) (f : Bool) (a : PeerRecord) (j : Bool) (s : State) : (readRound o f a j s).freeUses = s.freeUses := by simp [readRound]
@[simp] theorem readRound_pending (o : TakingOrder) (f : Bool) (a : PeerRecord) (j : Bool) (s : State) : (readRound o f a j s).pending = s.pending := by simp [readRound]

/-! `handViews` -/

@[simp] theorem handViews_now (o : TakingOrder) (b a : PeerRecord) (s : State) : (handViews o b a s).now = s.now := by simp [handViews]
@[simp] theorem handViews_sampleDue (o : TakingOrder) (b a : PeerRecord) (s : State) : (handViews o b a s).sampleDue = s.sampleDue := by simp [handViews]
@[simp] theorem handViews_phase (o : TakingOrder) (b a : PeerRecord) (s : State) : (handViews o b a s).phase = s.phase := by simp [handViews]
@[simp] theorem handViews_restartHeld (o : TakingOrder) (b a : PeerRecord) (s : State) : (handViews o b a s).restartHeld = s.restartHeld := by simp [handViews]
@[simp] theorem handViews_restartFrom (o : TakingOrder) (b a : PeerRecord) (s : State) : (handViews o b a s).restartFrom = s.restartFrom := by simp [handViews]
@[simp] theorem handViews_reading (o : TakingOrder) (b a : PeerRecord) (s : State) : (handViews o b a s).reading = s.reading := by simp [handViews]
@[simp] theorem handViews_selfTest (o : TakingOrder) (b a : PeerRecord) (s : State) : (handViews o b a s).selfTest = s.selfTest := by simp [handViews]
@[simp] theorem handViews_selfTestSince (o : TakingOrder) (b a : PeerRecord) (s : State) : (handViews o b a s).selfTestSince = s.selfTestSince := by simp [handViews]
@[simp] theorem handViews_silenceOver (o : TakingOrder) (b a : PeerRecord) (s : State) : (handViews o b a s).silenceOver = s.silenceOver := by simp [handViews]
@[simp] theorem handViews_config (o : TakingOrder) (b a : PeerRecord) (s : State) : (handViews o b a s).config = s.config := by simp [handViews]
@[simp] theorem handViews_passAt (o : TakingOrder) (b a : PeerRecord) (s : State) : (handViews o b a s).passAt = s.passAt := by simp [handViews]
@[simp] theorem handViews_lockdown (o : TakingOrder) (b a : PeerRecord) (s : State) : (handViews o b a s).lockdown = s.lockdown := by simp [handViews]
@[simp] theorem handViews_lockdownRecord (o : TakingOrder) (b a : PeerRecord) (s : State) : (handViews o b a s).lockdownRecord = s.lockdownRecord := by simp [handViews]
@[simp] theorem handViews_head (o : TakingOrder) (b a : PeerRecord) (s : State) : (handViews o b a s).head = s.head := by simp [handViews]
@[simp] theorem handViews_detector (o : TakingOrder) (b a : PeerRecord) (s : State) : (handViews o b a s).detector = s.detector := by simp [handViews]
@[simp] theorem handViews_txy (o : TakingOrder) (b a : PeerRecord) (s : State) : (handViews o b a s).txy = s.txy := by simp [handViews]
@[simp] theorem handViews_tyx (o : TakingOrder) (b a : PeerRecord) (s : State) : (handViews o b a s).tyx = s.tyx := by simp [handViews]
@[simp] theorem handViews_log (o : TakingOrder) (b a : PeerRecord) (s : State) : (handViews o b a s).log = s.log := by simp [handViews]
@[simp] theorem handViews_line (o : TakingOrder) (b a : PeerRecord) (s : State) : (handViews o b a s).line = s.line := by simp [handViews]
@[simp] theorem handViews_handed (o : TakingOrder) (b a : PeerRecord) (s : State) : (handViews o b a s).handed = s.handed := by simp [handViews]
@[simp] theorem handViews_peers (o : TakingOrder) (b a : PeerRecord) (s : State) : (handViews o b a s).peers = s.peers := by simp [handViews]
@[simp] theorem handViews_operator (o : TakingOrder) (b a : PeerRecord) (s : State) : (handViews o b a s).operator = s.operator := by simp [handViews]
@[simp] theorem handViews_lanes (o : TakingOrder) (b a : PeerRecord) (s : State) : (handViews o b a s).lanes = s.lanes := by simp [handViews]
@[simp] theorem handViews_pins (o : TakingOrder) (b a : PeerRecord) (s : State) : (handViews o b a s).pins = s.pins := by simp [handViews]
@[simp] theorem handViews_freeUses (o : TakingOrder) (b a : PeerRecord) (s : State) : (handViews o b a s).freeUses = s.freeUses := by simp [handViews]
@[simp] theorem handViews_pending (o : TakingOrder) (b a : PeerRecord) (s : State) : (handViews o b a s).pending = s.pending := by simp [handViews]

/-! `endLoopTest` -/

@[simp] theorem endLoopTest_now (c : LockdownCause) (s : State) : (endLoopTest c s).now = s.now := by unfold endLoopTest; split <;> rfl
@[simp] theorem endLoopTest_sampleDue (c : LockdownCause) (s : State) : (endLoopTest c s).sampleDue = s.sampleDue := by unfold endLoopTest; split <;> rfl
@[simp] theorem endLoopTest_phase (c : LockdownCause) (s : State) : (endLoopTest c s).phase = s.phase := by unfold endLoopTest; split <;> rfl
@[simp] theorem endLoopTest_restartHeld (c : LockdownCause) (s : State) : (endLoopTest c s).restartHeld = s.restartHeld := by unfold endLoopTest; split <;> rfl
@[simp] theorem endLoopTest_restartFrom (c : LockdownCause) (s : State) : (endLoopTest c s).restartFrom = s.restartFrom := by unfold endLoopTest; split <;> rfl
@[simp] theorem endLoopTest_reading (c : LockdownCause) (s : State) : (endLoopTest c s).reading = s.reading := by unfold endLoopTest; split <;> rfl
@[simp] theorem endLoopTest_selfTest (c : LockdownCause) (s : State) : (endLoopTest c s).selfTest = s.selfTest := by unfold endLoopTest; split <;> rfl
@[simp] theorem endLoopTest_selfTestSince (c : LockdownCause) (s : State) : (endLoopTest c s).selfTestSince = s.selfTestSince := by unfold endLoopTest; split <;> rfl
@[simp] theorem endLoopTest_silenceOver (c : LockdownCause) (s : State) : (endLoopTest c s).silenceOver = s.silenceOver := by unfold endLoopTest; split <;> rfl
@[simp] theorem endLoopTest_config (c : LockdownCause) (s : State) : (endLoopTest c s).config = s.config := by unfold endLoopTest; split <;> rfl
@[simp] theorem endLoopTest_passAt (c : LockdownCause) (s : State) : (endLoopTest c s).passAt = s.passAt := by unfold endLoopTest; split <;> rfl
@[simp] theorem endLoopTest_lockdown (c : LockdownCause) (s : State) : (endLoopTest c s).lockdown = s.lockdown := by unfold endLoopTest; split <;> rfl
@[simp] theorem endLoopTest_lockdownRecord (c : LockdownCause) (s : State) : (endLoopTest c s).lockdownRecord = s.lockdownRecord := by unfold endLoopTest; split <;> rfl
@[simp] theorem endLoopTest_head (c : LockdownCause) (s : State) : (endLoopTest c s).head = s.head := by unfold endLoopTest; split <;> rfl
@[simp] theorem endLoopTest_detector (c : LockdownCause) (s : State) : (endLoopTest c s).detector = s.detector := by unfold endLoopTest; split <;> rfl
@[simp] theorem endLoopTest_txy (c : LockdownCause) (s : State) : (endLoopTest c s).txy = s.txy := by unfold endLoopTest; split <;> rfl
@[simp] theorem endLoopTest_tyx (c : LockdownCause) (s : State) : (endLoopTest c s).tyx = s.tyx := by unfold endLoopTest; split <;> rfl
@[simp] theorem endLoopTest_log (c : LockdownCause) (s : State) : (endLoopTest c s).log = s.log := by unfold endLoopTest; split <;> rfl
@[simp] theorem endLoopTest_handed (c : LockdownCause) (s : State) : (endLoopTest c s).handed = s.handed := by unfold endLoopTest; split <;> rfl
@[simp] theorem endLoopTest_builder (c : LockdownCause) (s : State) : (endLoopTest c s).builder = s.builder := by unfold endLoopTest; split <;> rfl
@[simp] theorem endLoopTest_peers (c : LockdownCause) (s : State) : (endLoopTest c s).peers = s.peers := by unfold endLoopTest; split <;> rfl
@[simp] theorem endLoopTest_slots (c : LockdownCause) (s : State) : (endLoopTest c s).slots = s.slots := by unfold endLoopTest; split <;> rfl
@[simp] theorem endLoopTest_operator (c : LockdownCause) (s : State) : (endLoopTest c s).operator = s.operator := by unfold endLoopTest; split <;> rfl
@[simp] theorem endLoopTest_lanes (c : LockdownCause) (s : State) : (endLoopTest c s).lanes = s.lanes := by unfold endLoopTest; split <;> rfl
@[simp] theorem endLoopTest_outputs (c : LockdownCause) (s : State) : (endLoopTest c s).outputs = s.outputs := by unfold endLoopTest; split <;> rfl
@[simp] theorem endLoopTest_pins (c : LockdownCause) (s : State) : (endLoopTest c s).pins = s.pins := by unfold endLoopTest; split <;> rfl
@[simp] theorem endLoopTest_freeUses (c : LockdownCause) (s : State) : (endLoopTest c s).freeUses = s.freeUses := by unfold endLoopTest; split <;> rfl
@[simp] theorem endLoopTest_pending (c : LockdownCause) (s : State) : (endLoopTest c s).pending = s.pending := by unfold endLoopTest; split <;> rfl

/-! `count` -/

@[simp] theorem count_now (d : Direction) (s : State) : (count d s).now = s.now := by cases d <;> rfl
@[simp] theorem count_sampleDue (d : Direction) (s : State) : (count d s).sampleDue = s.sampleDue := by cases d <;> rfl
@[simp] theorem count_phase (d : Direction) (s : State) : (count d s).phase = s.phase := by cases d <;> rfl
@[simp] theorem count_restartHeld (d : Direction) (s : State) : (count d s).restartHeld = s.restartHeld := by cases d <;> rfl
@[simp] theorem count_restartFrom (d : Direction) (s : State) : (count d s).restartFrom = s.restartFrom := by cases d <;> rfl
@[simp] theorem count_reading (d : Direction) (s : State) : (count d s).reading = s.reading := by cases d <;> rfl
@[simp] theorem count_selfTest (d : Direction) (s : State) : (count d s).selfTest = s.selfTest := by cases d <;> rfl
@[simp] theorem count_selfTestSince (d : Direction) (s : State) : (count d s).selfTestSince = s.selfTestSince := by cases d <;> rfl
@[simp] theorem count_silenceOver (d : Direction) (s : State) : (count d s).silenceOver = s.silenceOver := by cases d <;> rfl
@[simp] theorem count_config (d : Direction) (s : State) : (count d s).config = s.config := by cases d <;> rfl
@[simp] theorem count_passAt (d : Direction) (s : State) : (count d s).passAt = s.passAt := by cases d <;> rfl
@[simp] theorem count_lockdown (d : Direction) (s : State) : (count d s).lockdown = s.lockdown := by cases d <;> rfl
@[simp] theorem count_lockdownRecord (d : Direction) (s : State) : (count d s).lockdownRecord = s.lockdownRecord := by cases d <;> rfl
@[simp] theorem count_head (d : Direction) (s : State) : (count d s).head = s.head := by cases d <;> rfl
@[simp] theorem count_detector (d : Direction) (s : State) : (count d s).detector = s.detector := by cases d <;> rfl
@[simp] theorem count_log (d : Direction) (s : State) : (count d s).log = s.log := by cases d <;> rfl
@[simp] theorem count_line (d : Direction) (s : State) : (count d s).line = s.line := by cases d <;> rfl
@[simp] theorem count_handed (d : Direction) (s : State) : (count d s).handed = s.handed := by cases d <;> rfl
@[simp] theorem count_builder (d : Direction) (s : State) : (count d s).builder = s.builder := by cases d <;> rfl
@[simp] theorem count_peers (d : Direction) (s : State) : (count d s).peers = s.peers := by cases d <;> rfl
@[simp] theorem count_operator (d : Direction) (s : State) : (count d s).operator = s.operator := by cases d <;> rfl
@[simp] theorem count_lanes (d : Direction) (s : State) : (count d s).lanes = s.lanes := by cases d <;> rfl
@[simp] theorem count_outputs (d : Direction) (s : State) : (count d s).outputs = s.outputs := by cases d <;> rfl
@[simp] theorem count_pins (d : Direction) (s : State) : (count d s).pins = s.pins := by cases d <;> rfl
@[simp] theorem count_freeUses (d : Direction) (s : State) : (count d s).freeUses = s.freeUses := by cases d <;> rfl
@[simp] theorem count_pending (d : Direction) (s : State) : (count d s).pending = s.pending := by cases d <;> rfl

/-! `firstLockdownTelegram` -/

@[simp] theorem firstLockdownTelegram_now (s : State) : (firstLockdownTelegram s).now = s.now := by unfold firstLockdownTelegram; split <;> simp
@[simp] theorem firstLockdownTelegram_sampleDue (s : State) : (firstLockdownTelegram s).sampleDue = s.sampleDue := by unfold firstLockdownTelegram; split <;> simp
@[simp] theorem firstLockdownTelegram_phase (s : State) : (firstLockdownTelegram s).phase = s.phase := by unfold firstLockdownTelegram; split <;> simp
@[simp] theorem firstLockdownTelegram_restartHeld (s : State) : (firstLockdownTelegram s).restartHeld = s.restartHeld := by unfold firstLockdownTelegram; split <;> simp
@[simp] theorem firstLockdownTelegram_restartFrom (s : State) : (firstLockdownTelegram s).restartFrom = s.restartFrom := by unfold firstLockdownTelegram; split <;> simp
@[simp] theorem firstLockdownTelegram_reading (s : State) : (firstLockdownTelegram s).reading = s.reading := by unfold firstLockdownTelegram; split <;> simp
@[simp] theorem firstLockdownTelegram_selfTest (s : State) : (firstLockdownTelegram s).selfTest = s.selfTest := by unfold firstLockdownTelegram; split <;> simp
@[simp] theorem firstLockdownTelegram_selfTestSince (s : State) : (firstLockdownTelegram s).selfTestSince = s.selfTestSince := by unfold firstLockdownTelegram; split <;> simp
@[simp] theorem firstLockdownTelegram_config (s : State) : (firstLockdownTelegram s).config = s.config := by unfold firstLockdownTelegram; split <;> simp
@[simp] theorem firstLockdownTelegram_passAt (s : State) : (firstLockdownTelegram s).passAt = s.passAt := by unfold firstLockdownTelegram; split <;> simp
@[simp] theorem firstLockdownTelegram_lockdown (s : State) : (firstLockdownTelegram s).lockdown = s.lockdown := by unfold firstLockdownTelegram; split <;> simp
@[simp] theorem firstLockdownTelegram_lockdownRecord (s : State) : (firstLockdownTelegram s).lockdownRecord = s.lockdownRecord := by unfold firstLockdownTelegram; split <;> simp
@[simp] theorem firstLockdownTelegram_head (s : State) : (firstLockdownTelegram s).head = s.head := by unfold firstLockdownTelegram; split <;> simp
@[simp] theorem firstLockdownTelegram_detector (s : State) : (firstLockdownTelegram s).detector = s.detector := by unfold firstLockdownTelegram; split <;> simp
@[simp] theorem firstLockdownTelegram_txy (s : State) : (firstLockdownTelegram s).txy = s.txy := by unfold firstLockdownTelegram; split <;> simp
@[simp] theorem firstLockdownTelegram_tyx (s : State) : (firstLockdownTelegram s).tyx = s.tyx := by unfold firstLockdownTelegram; split <;> simp
@[simp] theorem firstLockdownTelegram_log (s : State) : (firstLockdownTelegram s).log = s.log := by unfold firstLockdownTelegram; split <;> simp
@[simp] theorem firstLockdownTelegram_line (s : State) : (firstLockdownTelegram s).line = s.line := by unfold firstLockdownTelegram; split <;> simp
@[simp] theorem firstLockdownTelegram_handed (s : State) : (firstLockdownTelegram s).handed = s.handed := by unfold firstLockdownTelegram; split <;> simp
@[simp] theorem firstLockdownTelegram_peers (s : State) : (firstLockdownTelegram s).peers = s.peers := by unfold firstLockdownTelegram; split <;> simp
@[simp] theorem firstLockdownTelegram_slots (s : State) : (firstLockdownTelegram s).slots = s.slots := by unfold firstLockdownTelegram; split <;> simp
@[simp] theorem firstLockdownTelegram_operator (s : State) : (firstLockdownTelegram s).operator = s.operator := by unfold firstLockdownTelegram; split <;> simp
@[simp] theorem firstLockdownTelegram_lanes (s : State) : (firstLockdownTelegram s).lanes = s.lanes := by unfold firstLockdownTelegram; split <;> simp
@[simp] theorem firstLockdownTelegram_outputs (s : State) : (firstLockdownTelegram s).outputs = s.outputs := by unfold firstLockdownTelegram; split <;> simp
@[simp] theorem firstLockdownTelegram_pins (s : State) : (firstLockdownTelegram s).pins = s.pins := by unfold firstLockdownTelegram; split <;> simp
@[simp] theorem firstLockdownTelegram_freeUses (s : State) : (firstLockdownTelegram s).freeUses = s.freeUses := by unfold firstLockdownTelegram; split <;> simp
@[simp] theorem firstLockdownTelegram_pending (s : State) : (firstLockdownTelegram s).pending = s.pending := by unfold firstLockdownTelegram; split <;> simp

/-! `requestRefusal` -/

@[simp] theorem requestRefusal_now (s : State) : (requestRefusal s).now = s.now := by unfold requestRefusal; split <;> rfl
@[simp] theorem requestRefusal_sampleDue (s : State) : (requestRefusal s).sampleDue = s.sampleDue := by unfold requestRefusal; split <;> rfl
@[simp] theorem requestRefusal_phase (s : State) : (requestRefusal s).phase = s.phase := by unfold requestRefusal; split <;> rfl
@[simp] theorem requestRefusal_restartHeld (s : State) : (requestRefusal s).restartHeld = s.restartHeld := by unfold requestRefusal; split <;> rfl
@[simp] theorem requestRefusal_restartFrom (s : State) : (requestRefusal s).restartFrom = s.restartFrom := by unfold requestRefusal; split <;> rfl
@[simp] theorem requestRefusal_reading (s : State) : (requestRefusal s).reading = s.reading := by unfold requestRefusal; split <;> rfl
@[simp] theorem requestRefusal_selfTest (s : State) : (requestRefusal s).selfTest = s.selfTest := by unfold requestRefusal; split <;> rfl
@[simp] theorem requestRefusal_selfTestSince (s : State) : (requestRefusal s).selfTestSince = s.selfTestSince := by unfold requestRefusal; split <;> rfl
@[simp] theorem requestRefusal_silenceOver (s : State) : (requestRefusal s).silenceOver = s.silenceOver := by unfold requestRefusal; split <;> rfl
@[simp] theorem requestRefusal_config (s : State) : (requestRefusal s).config = s.config := by unfold requestRefusal; split <;> rfl
@[simp] theorem requestRefusal_passAt (s : State) : (requestRefusal s).passAt = s.passAt := by unfold requestRefusal; split <;> rfl
@[simp] theorem requestRefusal_lockdown (s : State) : (requestRefusal s).lockdown = s.lockdown := by unfold requestRefusal; split <;> rfl
@[simp] theorem requestRefusal_lockdownRecord (s : State) : (requestRefusal s).lockdownRecord = s.lockdownRecord := by unfold requestRefusal; split <;> rfl
@[simp] theorem requestRefusal_head (s : State) : (requestRefusal s).head = s.head := by unfold requestRefusal; split <;> rfl
@[simp] theorem requestRefusal_detector (s : State) : (requestRefusal s).detector = s.detector := by unfold requestRefusal; split <;> rfl
@[simp] theorem requestRefusal_txy (s : State) : (requestRefusal s).txy = s.txy := by unfold requestRefusal; split <;> rfl
@[simp] theorem requestRefusal_tyx (s : State) : (requestRefusal s).tyx = s.tyx := by unfold requestRefusal; split <;> rfl
@[simp] theorem requestRefusal_log (s : State) : (requestRefusal s).log = s.log := by unfold requestRefusal; split <;> rfl
@[simp] theorem requestRefusal_line (s : State) : (requestRefusal s).line = s.line := by unfold requestRefusal; split <;> rfl
@[simp] theorem requestRefusal_handed (s : State) : (requestRefusal s).handed = s.handed := by unfold requestRefusal; split <;> rfl
@[simp] theorem requestRefusal_builder (s : State) : (requestRefusal s).builder = s.builder := by unfold requestRefusal; split <;> rfl
@[simp] theorem requestRefusal_peers (s : State) : (requestRefusal s).peers = s.peers := by unfold requestRefusal; split <;> rfl
@[simp] theorem requestRefusal_slots (s : State) : (requestRefusal s).slots = s.slots := by unfold requestRefusal; split <;> rfl
@[simp] theorem requestRefusal_operator (s : State) : (requestRefusal s).operator = s.operator := by unfold requestRefusal; split <;> rfl
@[simp] theorem requestRefusal_lanes (s : State) : (requestRefusal s).lanes = s.lanes := by unfold requestRefusal; split <;> rfl
@[simp] theorem requestRefusal_pins (s : State) : (requestRefusal s).pins = s.pins := by unfold requestRefusal; split <;> rfl
@[simp] theorem requestRefusal_freeUses (s : State) : (requestRefusal s).freeUses = s.freeUses := by unfold requestRefusal; split <;> rfl
@[simp] theorem requestRefusal_pending (s : State) : (requestRefusal s).pending = s.pending := by unfold requestRefusal; split <;> rfl

/-! `enterLockdown` -/

@[simp] theorem enterLockdown_now (c : LockdownCause) (s : State) : (enterLockdown c s).now = s.now := by unfold enterLockdown; split <;> simp
@[simp] theorem enterLockdown_sampleDue (c : LockdownCause) (s : State) : (enterLockdown c s).sampleDue = s.sampleDue := by unfold enterLockdown; split <;> simp
@[simp] theorem enterLockdown_phase (c : LockdownCause) (s : State) : (enterLockdown c s).phase = s.phase := by unfold enterLockdown; split <;> simp
@[simp] theorem enterLockdown_restartHeld (c : LockdownCause) (s : State) : (enterLockdown c s).restartHeld = s.restartHeld := by unfold enterLockdown; split <;> simp
@[simp] theorem enterLockdown_restartFrom (c : LockdownCause) (s : State) : (enterLockdown c s).restartFrom = s.restartFrom := by unfold enterLockdown; split <;> simp
@[simp] theorem enterLockdown_selfTestSince (c : LockdownCause) (s : State) : (enterLockdown c s).selfTestSince = s.selfTestSince := by unfold enterLockdown; split <;> simp
@[simp] theorem enterLockdown_config (c : LockdownCause) (s : State) : (enterLockdown c s).config = s.config := by unfold enterLockdown; split <;> simp
@[simp] theorem enterLockdown_passAt (c : LockdownCause) (s : State) : (enterLockdown c s).passAt = s.passAt := by unfold enterLockdown; split <;> simp
@[simp] theorem enterLockdown_head (c : LockdownCause) (s : State) : (enterLockdown c s).head = s.head := by unfold enterLockdown; split <;> simp
@[simp] theorem enterLockdown_txy (c : LockdownCause) (s : State) : (enterLockdown c s).txy = s.txy := by unfold enterLockdown; split <;> simp
@[simp] theorem enterLockdown_tyx (c : LockdownCause) (s : State) : (enterLockdown c s).tyx = s.tyx := by unfold enterLockdown; split <;> simp
@[simp] theorem enterLockdown_log (c : LockdownCause) (s : State) : (enterLockdown c s).log = s.log := by unfold enterLockdown; split <;> simp
@[simp] theorem enterLockdown_handed (c : LockdownCause) (s : State) : (enterLockdown c s).handed = s.handed := by unfold enterLockdown; split <;> simp
@[simp] theorem enterLockdown_peers (c : LockdownCause) (s : State) : (enterLockdown c s).peers = s.peers := by unfold enterLockdown; split <;> simp
@[simp] theorem enterLockdown_operator (c : LockdownCause) (s : State) : (enterLockdown c s).operator = s.operator := by unfold enterLockdown; split <;> simp
@[simp] theorem enterLockdown_lanes (c : LockdownCause) (s : State) : (enterLockdown c s).lanes = s.lanes := by unfold enterLockdown; split <;> simp
@[simp] theorem enterLockdown_outputs (c : LockdownCause) (s : State) : (enterLockdown c s).outputs = s.outputs := by unfold enterLockdown; split <;> simp
@[simp] theorem enterLockdown_pins (c : LockdownCause) (s : State) : (enterLockdown c s).pins = s.pins := by unfold enterLockdown; split <;> simp
@[simp] theorem enterLockdown_freeUses (c : LockdownCause) (s : State) : (enterLockdown c s).freeUses = s.freeUses := by unfold enterLockdown; split <;> simp
@[simp] theorem enterLockdown_pending (c : LockdownCause) (s : State) : (enterLockdown c s).pending = s.pending := by unfold enterLockdown; split <;> simp

/-! `refuseConfirmation` -/

@[simp] theorem refuseConfirmation_now (i : Fin 4) (s : State) : (refuseConfirmation i s).now = s.now := by simp [refuseConfirmation]
@[simp] theorem refuseConfirmation_sampleDue (i : Fin 4) (s : State) : (refuseConfirmation i s).sampleDue = s.sampleDue := by simp [refuseConfirmation]
@[simp] theorem refuseConfirmation_phase (i : Fin 4) (s : State) : (refuseConfirmation i s).phase = s.phase := by simp [refuseConfirmation]
@[simp] theorem refuseConfirmation_restartHeld (i : Fin 4) (s : State) : (refuseConfirmation i s).restartHeld = s.restartHeld := by simp [refuseConfirmation]
@[simp] theorem refuseConfirmation_restartFrom (i : Fin 4) (s : State) : (refuseConfirmation i s).restartFrom = s.restartFrom := by simp [refuseConfirmation]
@[simp] theorem refuseConfirmation_reading (i : Fin 4) (s : State) : (refuseConfirmation i s).reading = s.reading := by simp [refuseConfirmation]
@[simp] theorem refuseConfirmation_selfTest (i : Fin 4) (s : State) : (refuseConfirmation i s).selfTest = s.selfTest := by simp [refuseConfirmation]
@[simp] theorem refuseConfirmation_selfTestSince (i : Fin 4) (s : State) : (refuseConfirmation i s).selfTestSince = s.selfTestSince := by simp [refuseConfirmation]
@[simp] theorem refuseConfirmation_silenceOver (i : Fin 4) (s : State) : (refuseConfirmation i s).silenceOver = s.silenceOver := by simp [refuseConfirmation]
@[simp] theorem refuseConfirmation_config (i : Fin 4) (s : State) : (refuseConfirmation i s).config = s.config := by simp [refuseConfirmation]
@[simp] theorem refuseConfirmation_passAt (i : Fin 4) (s : State) : (refuseConfirmation i s).passAt = s.passAt := by simp [refuseConfirmation]
@[simp] theorem refuseConfirmation_lockdown (i : Fin 4) (s : State) : (refuseConfirmation i s).lockdown = s.lockdown := by simp [refuseConfirmation]
@[simp] theorem refuseConfirmation_lockdownRecord (i : Fin 4) (s : State) : (refuseConfirmation i s).lockdownRecord = s.lockdownRecord := by simp [refuseConfirmation]
@[simp] theorem refuseConfirmation_head (i : Fin 4) (s : State) : (refuseConfirmation i s).head = s.head := by simp [refuseConfirmation]
@[simp] theorem refuseConfirmation_detector (i : Fin 4) (s : State) : (refuseConfirmation i s).detector = s.detector := by simp [refuseConfirmation]
@[simp] theorem refuseConfirmation_txy (i : Fin 4) (s : State) : (refuseConfirmation i s).txy = s.txy := by simp [refuseConfirmation]
@[simp] theorem refuseConfirmation_tyx (i : Fin 4) (s : State) : (refuseConfirmation i s).tyx = s.tyx := by simp [refuseConfirmation]
@[simp] theorem refuseConfirmation_log (i : Fin 4) (s : State) : (refuseConfirmation i s).log = s.log := by simp [refuseConfirmation]
@[simp] theorem refuseConfirmation_line (i : Fin 4) (s : State) : (refuseConfirmation i s).line = s.line := by simp [refuseConfirmation]
@[simp] theorem refuseConfirmation_handed (i : Fin 4) (s : State) : (refuseConfirmation i s).handed = s.handed := by simp [refuseConfirmation]
@[simp] theorem refuseConfirmation_builder (i : Fin 4) (s : State) : (refuseConfirmation i s).builder = s.builder := by simp [refuseConfirmation]
@[simp] theorem refuseConfirmation_peers (i : Fin 4) (s : State) : (refuseConfirmation i s).peers = s.peers := by simp [refuseConfirmation]
@[simp] theorem refuseConfirmation_operator (i : Fin 4) (s : State) : (refuseConfirmation i s).operator = s.operator := by simp [refuseConfirmation]
@[simp] theorem refuseConfirmation_lanes (i : Fin 4) (s : State) : (refuseConfirmation i s).lanes = s.lanes := by simp [refuseConfirmation]
@[simp] theorem refuseConfirmation_pins (i : Fin 4) (s : State) : (refuseConfirmation i s).pins = s.pins := by simp [refuseConfirmation]
@[simp] theorem refuseConfirmation_freeUses (i : Fin 4) (s : State) : (refuseConfirmation i s).freeUses = s.freeUses := by simp [refuseConfirmation]
@[simp] theorem refuseConfirmation_pending (i : Fin 4) (s : State) : (refuseConfirmation i s).pending = s.pending := by simp [refuseConfirmation]

/-! `judgeCounts` -/

@[simp] theorem judgeCounts_now (s : State) : (judgeCounts s).now = s.now := by unfold judgeCounts; split <;> simp
@[simp] theorem judgeCounts_sampleDue (s : State) : (judgeCounts s).sampleDue = s.sampleDue := by unfold judgeCounts; split <;> simp
@[simp] theorem judgeCounts_phase (s : State) : (judgeCounts s).phase = s.phase := by unfold judgeCounts; split <;> simp
@[simp] theorem judgeCounts_restartHeld (s : State) : (judgeCounts s).restartHeld = s.restartHeld := by unfold judgeCounts; split <;> simp
@[simp] theorem judgeCounts_restartFrom (s : State) : (judgeCounts s).restartFrom = s.restartFrom := by unfold judgeCounts; split <;> simp
@[simp] theorem judgeCounts_selfTestSince (s : State) : (judgeCounts s).selfTestSince = s.selfTestSince := by unfold judgeCounts; split <;> simp
@[simp] theorem judgeCounts_config (s : State) : (judgeCounts s).config = s.config := by unfold judgeCounts; split <;> simp
@[simp] theorem judgeCounts_passAt (s : State) : (judgeCounts s).passAt = s.passAt := by unfold judgeCounts; split <;> simp
@[simp] theorem judgeCounts_head (s : State) : (judgeCounts s).head = s.head := by unfold judgeCounts; split <;> simp
@[simp] theorem judgeCounts_txy (s : State) : (judgeCounts s).txy = s.txy := by unfold judgeCounts; split <;> simp
@[simp] theorem judgeCounts_tyx (s : State) : (judgeCounts s).tyx = s.tyx := by unfold judgeCounts; split <;> simp
@[simp] theorem judgeCounts_log (s : State) : (judgeCounts s).log = s.log := by unfold judgeCounts; split <;> simp
@[simp] theorem judgeCounts_handed (s : State) : (judgeCounts s).handed = s.handed := by unfold judgeCounts; split <;> simp
@[simp] theorem judgeCounts_peers (s : State) : (judgeCounts s).peers = s.peers := by unfold judgeCounts; split <;> simp
@[simp] theorem judgeCounts_operator (s : State) : (judgeCounts s).operator = s.operator := by unfold judgeCounts; split <;> simp
@[simp] theorem judgeCounts_lanes (s : State) : (judgeCounts s).lanes = s.lanes := by unfold judgeCounts; split <;> simp
@[simp] theorem judgeCounts_pins (s : State) : (judgeCounts s).pins = s.pins := by unfold judgeCounts; split <;> simp
@[simp] theorem judgeCounts_freeUses (s : State) : (judgeCounts s).freeUses = s.freeUses := by unfold judgeCounts; split <;> simp
@[simp] theorem judgeCounts_pending (s : State) : (judgeCounts s).pending = s.pending := by unfold judgeCounts; split <;> simp

/-! `failHead` -/

@[simp] theorem failHead_now (s : State) : (failHead s).now = s.now := by unfold failHead; simp only []; split <;> rfl
@[simp] theorem failHead_sampleDue (s : State) : (failHead s).sampleDue = s.sampleDue := by unfold failHead; simp only []; split <;> rfl
@[simp] theorem failHead_phase (s : State) : (failHead s).phase = s.phase := by unfold failHead; simp only []; split <;> rfl
@[simp] theorem failHead_restartHeld (s : State) : (failHead s).restartHeld = s.restartHeld := by unfold failHead; simp only []; split <;> rfl
@[simp] theorem failHead_restartFrom (s : State) : (failHead s).restartFrom = s.restartFrom := by unfold failHead; simp only []; split <;> rfl
@[simp] theorem failHead_reading (s : State) : (failHead s).reading = s.reading := by unfold failHead; simp only []; split <;> rfl
@[simp] theorem failHead_selfTest (s : State) : (failHead s).selfTest = s.selfTest := by unfold failHead; simp only []; split <;> rfl
@[simp] theorem failHead_selfTestSince (s : State) : (failHead s).selfTestSince = s.selfTestSince := by unfold failHead; simp only []; split <;> rfl
@[simp] theorem failHead_silenceOver (s : State) : (failHead s).silenceOver = s.silenceOver := by unfold failHead; simp only []; split <;> rfl
@[simp] theorem failHead_config (s : State) : (failHead s).config = s.config := by unfold failHead; simp only []; split <;> rfl
@[simp] theorem failHead_passAt (s : State) : (failHead s).passAt = s.passAt := by unfold failHead; simp only []; split <;> rfl
@[simp] theorem failHead_lockdown (s : State) : (failHead s).lockdown = s.lockdown := by unfold failHead; simp only []; split <;> rfl
@[simp] theorem failHead_lockdownRecord (s : State) : (failHead s).lockdownRecord = s.lockdownRecord := by unfold failHead; simp only []; split <;> rfl
@[simp] theorem failHead_txy (s : State) : (failHead s).txy = s.txy := by unfold failHead; simp only []; split <;> rfl
@[simp] theorem failHead_tyx (s : State) : (failHead s).tyx = s.tyx := by unfold failHead; simp only []; split <;> rfl
@[simp] theorem failHead_log (s : State) : (failHead s).log = s.log := by unfold failHead; simp only []; split <;> rfl
@[simp] theorem failHead_line (s : State) : (failHead s).line = s.line := by unfold failHead; simp only []; split <;> rfl
@[simp] theorem failHead_handed (s : State) : (failHead s).handed = s.handed := by unfold failHead; simp only []; split <;> rfl
@[simp] theorem failHead_builder (s : State) : (failHead s).builder = s.builder := by unfold failHead; simp only []; split <;> rfl
@[simp] theorem failHead_peers (s : State) : (failHead s).peers = s.peers := by unfold failHead; simp only []; split <;> rfl
@[simp] theorem failHead_slots (s : State) : (failHead s).slots = s.slots := by unfold failHead; simp only []; split <;> rfl
@[simp] theorem failHead_operator (s : State) : (failHead s).operator = s.operator := by unfold failHead; simp only []; split <;> rfl
@[simp] theorem failHead_lanes (s : State) : (failHead s).lanes = s.lanes := by unfold failHead; simp only []; split <;> rfl
@[simp] theorem failHead_outputs (s : State) : (failHead s).outputs = s.outputs := by unfold failHead; simp only []; split <;> rfl
@[simp] theorem failHead_pins (s : State) : (failHead s).pins = s.pins := by unfold failHead; simp only []; split <;> rfl
@[simp] theorem failHead_freeUses (s : State) : (failHead s).freeUses = s.freeUses := by unfold failHead; simp only []; split <;> rfl
@[simp] theorem failHead_pending (s : State) : (failHead s).pending = s.pending := by unfold failHead; simp only []; split <;> rfl

/-! `endPassage` -/

@[simp] theorem endPassage_now (e : Ending) (s : State) : (endPassage e s).now = s.now := by unfold endPassage; (split <;> (try simp)); split <;> simp
@[simp] theorem endPassage_sampleDue (e : Ending) (s : State) : (endPassage e s).sampleDue = s.sampleDue := by unfold endPassage; (split <;> (try simp)); split <;> simp
@[simp] theorem endPassage_phase (e : Ending) (s : State) : (endPassage e s).phase = s.phase := by unfold endPassage; (split <;> (try simp)); split <;> simp
@[simp] theorem endPassage_restartHeld (e : Ending) (s : State) : (endPassage e s).restartHeld = s.restartHeld := by unfold endPassage; (split <;> (try simp)); split <;> simp
@[simp] theorem endPassage_restartFrom (e : Ending) (s : State) : (endPassage e s).restartFrom = s.restartFrom := by unfold endPassage; (split <;> (try simp)); split <;> simp
@[simp] theorem endPassage_reading (e : Ending) (s : State) : (endPassage e s).reading = s.reading := by unfold endPassage; (split <;> (try simp)); split <;> simp
@[simp] theorem endPassage_selfTest (e : Ending) (s : State) : (endPassage e s).selfTest = s.selfTest := by unfold endPassage; (split <;> (try simp)); split <;> simp
@[simp] theorem endPassage_selfTestSince (e : Ending) (s : State) : (endPassage e s).selfTestSince = s.selfTestSince := by unfold endPassage; (split <;> (try simp)); split <;> simp
@[simp] theorem endPassage_silenceOver (e : Ending) (s : State) : (endPassage e s).silenceOver = s.silenceOver := by unfold endPassage; (split <;> (try simp)); split <;> simp
@[simp] theorem endPassage_config (e : Ending) (s : State) : (endPassage e s).config = s.config := by unfold endPassage; (split <;> (try simp)); split <;> simp
@[simp] theorem endPassage_passAt (e : Ending) (s : State) : (endPassage e s).passAt = s.passAt := by unfold endPassage; (split <;> (try simp)); split <;> simp
@[simp] theorem endPassage_lockdown (e : Ending) (s : State) : (endPassage e s).lockdown = s.lockdown := by unfold endPassage; (split <;> (try simp)); split <;> simp
@[simp] theorem endPassage_lockdownRecord (e : Ending) (s : State) : (endPassage e s).lockdownRecord = s.lockdownRecord := by unfold endPassage; (split <;> (try simp)); split <;> simp
@[simp] theorem endPassage_head (e : Ending) (s : State) : (endPassage e s).head = s.head := by unfold endPassage; (split <;> (try simp)); split <;> simp
@[simp] theorem endPassage_detector (e : Ending) (s : State) : (endPassage e s).detector = s.detector := by unfold endPassage; (split <;> (try simp)); split <;> simp
@[simp] theorem endPassage_line (e : Ending) (s : State) : (endPassage e s).line = s.line := by unfold endPassage; (split <;> (try simp)); split <;> simp
@[simp] theorem endPassage_handed (e : Ending) (s : State) : (endPassage e s).handed = s.handed := by unfold endPassage; (split <;> (try simp)); split <;> simp
@[simp] theorem endPassage_builder (e : Ending) (s : State) : (endPassage e s).builder = s.builder := by unfold endPassage; (split <;> (try simp)); split <;> simp
@[simp] theorem endPassage_peers (e : Ending) (s : State) : (endPassage e s).peers = s.peers := by unfold endPassage; (split <;> (try simp)); split <;> simp
@[simp] theorem endPassage_operator (e : Ending) (s : State) : (endPassage e s).operator = s.operator := by unfold endPassage; (split <;> (try simp)); split <;> simp
@[simp] theorem endPassage_lanes (e : Ending) (s : State) : (endPassage e s).lanes = s.lanes := by unfold endPassage; (split <;> (try simp)); split <;> simp
@[simp] theorem endPassage_outputs (e : Ending) (s : State) : (endPassage e s).outputs = s.outputs := by unfold endPassage; (split <;> (try simp)); split <;> simp
@[simp] theorem endPassage_pins (e : Ending) (s : State) : (endPassage e s).pins = s.pins := by unfold endPassage; (split <;> (try simp)); split <;> simp
@[simp] theorem endPassage_freeUses (e : Ending) (s : State) : (endPassage e s).freeUses = s.freeUses := by unfold endPassage; (split <;> (try simp)); split <;> simp
@[simp] theorem endPassage_pending (e : Ending) (s : State) : (endPassage e s).pending = s.pending := by unfold endPassage; (split <;> (try simp)); split <;> simp

/-! `telegramDropped` -/

@[simp] theorem telegramDropped_now (s : State) : (telegramDropped s).now = s.now := by unfold telegramDropped; split <;> (try split) <;> simp
@[simp] theorem telegramDropped_sampleDue (s : State) : (telegramDropped s).sampleDue = s.sampleDue := by unfold telegramDropped; split <;> (try split) <;> simp
@[simp] theorem telegramDropped_phase (s : State) : (telegramDropped s).phase = s.phase := by unfold telegramDropped; split <;> (try split) <;> simp
@[simp] theorem telegramDropped_restartHeld (s : State) : (telegramDropped s).restartHeld = s.restartHeld := by unfold telegramDropped; split <;> (try split) <;> simp
@[simp] theorem telegramDropped_restartFrom (s : State) : (telegramDropped s).restartFrom = s.restartFrom := by unfold telegramDropped; split <;> (try split) <;> simp
@[simp] theorem telegramDropped_reading (s : State) : (telegramDropped s).reading = s.reading := by unfold telegramDropped; split <;> (try split) <;> simp
@[simp] theorem telegramDropped_selfTest (s : State) : (telegramDropped s).selfTest = s.selfTest := by unfold telegramDropped; split <;> (try split) <;> simp
@[simp] theorem telegramDropped_selfTestSince (s : State) : (telegramDropped s).selfTestSince = s.selfTestSince := by unfold telegramDropped; split <;> (try split) <;> simp
@[simp] theorem telegramDropped_silenceOver (s : State) : (telegramDropped s).silenceOver = s.silenceOver := by unfold telegramDropped; split <;> (try split) <;> simp
@[simp] theorem telegramDropped_config (s : State) : (telegramDropped s).config = s.config := by unfold telegramDropped; split <;> (try split) <;> simp
@[simp] theorem telegramDropped_passAt (s : State) : (telegramDropped s).passAt = s.passAt := by unfold telegramDropped; split <;> (try split) <;> simp
@[simp] theorem telegramDropped_lockdown (s : State) : (telegramDropped s).lockdown = s.lockdown := by unfold telegramDropped; split <;> (try split) <;> simp
@[simp] theorem telegramDropped_lockdownRecord (s : State) : (telegramDropped s).lockdownRecord = s.lockdownRecord := by unfold telegramDropped; split <;> (try split) <;> simp
@[simp] theorem telegramDropped_head (s : State) : (telegramDropped s).head = s.head := by unfold telegramDropped; split <;> (try split) <;> simp
@[simp] theorem telegramDropped_detector (s : State) : (telegramDropped s).detector = s.detector := by unfold telegramDropped; split <;> (try split) <;> simp
@[simp] theorem telegramDropped_txy (s : State) : (telegramDropped s).txy = s.txy := by unfold telegramDropped; split <;> (try split) <;> simp
@[simp] theorem telegramDropped_tyx (s : State) : (telegramDropped s).tyx = s.tyx := by unfold telegramDropped; split <;> (try split) <;> simp
@[simp] theorem telegramDropped_log (s : State) : (telegramDropped s).log = s.log := by unfold telegramDropped; split <;> (try split) <;> simp
@[simp] theorem telegramDropped_line (s : State) : (telegramDropped s).line = s.line := by unfold telegramDropped; split <;> (try split) <;> simp
@[simp] theorem telegramDropped_handed (s : State) : (telegramDropped s).handed = s.handed := by unfold telegramDropped; split <;> (try split) <;> simp
@[simp] theorem telegramDropped_peers (s : State) : (telegramDropped s).peers = s.peers := by unfold telegramDropped; split <;> (try split) <;> simp
@[simp] theorem telegramDropped_slots (s : State) : (telegramDropped s).slots = s.slots := by unfold telegramDropped; split <;> (try split) <;> simp
@[simp] theorem telegramDropped_operator (s : State) : (telegramDropped s).operator = s.operator := by unfold telegramDropped; split <;> (try split) <;> simp
@[simp] theorem telegramDropped_lanes (s : State) : (telegramDropped s).lanes = s.lanes := by unfold telegramDropped; split <;> (try split) <;> simp
@[simp] theorem telegramDropped_outputs (s : State) : (telegramDropped s).outputs = s.outputs := by unfold telegramDropped; split <;> (try split) <;> simp
@[simp] theorem telegramDropped_pins (s : State) : (telegramDropped s).pins = s.pins := by unfold telegramDropped; split <;> (try split) <;> simp
@[simp] theorem telegramDropped_freeUses (s : State) : (telegramDropped s).freeUses = s.freeUses := by unfold telegramDropped; split <;> (try split) <;> simp
@[simp] theorem telegramDropped_pending (s : State) : (telegramDropped s).pending = s.pending := by unfold telegramDropped; split <;> (try split) <;> simp

/-! `noteRuns` -/

@[simp] theorem noteRuns_now (b s : State) : (noteRuns b s).now = s.now := by unfold noteRuns; split <;> rfl
@[simp] theorem noteRuns_sampleDue (b s : State) : (noteRuns b s).sampleDue = s.sampleDue := by unfold noteRuns; split <;> rfl
@[simp] theorem noteRuns_phase (b s : State) : (noteRuns b s).phase = s.phase := by unfold noteRuns; split <;> rfl
@[simp] theorem noteRuns_restartHeld (b s : State) : (noteRuns b s).restartHeld = s.restartHeld := by unfold noteRuns; split <;> rfl
@[simp] theorem noteRuns_restartFrom (b s : State) : (noteRuns b s).restartFrom = s.restartFrom := by unfold noteRuns; split <;> rfl
@[simp] theorem noteRuns_reading (b s : State) : (noteRuns b s).reading = s.reading := by unfold noteRuns; split <;> rfl
@[simp] theorem noteRuns_selfTest (b s : State) : (noteRuns b s).selfTest = s.selfTest := by unfold noteRuns; split <;> rfl
@[simp] theorem noteRuns_selfTestSince (b s : State) : (noteRuns b s).selfTestSince = s.selfTestSince := by unfold noteRuns; split <;> rfl
@[simp] theorem noteRuns_silenceOver (b s : State) : (noteRuns b s).silenceOver = s.silenceOver := by unfold noteRuns; split <;> rfl
@[simp] theorem noteRuns_config (b s : State) : (noteRuns b s).config = s.config := by unfold noteRuns; split <;> rfl
@[simp] theorem noteRuns_passAt (b s : State) : (noteRuns b s).passAt = s.passAt := by unfold noteRuns; split <;> rfl
@[simp] theorem noteRuns_lockdown (b s : State) : (noteRuns b s).lockdown = s.lockdown := by unfold noteRuns; split <;> rfl
@[simp] theorem noteRuns_lockdownRecord (b s : State) : (noteRuns b s).lockdownRecord = s.lockdownRecord := by unfold noteRuns; split <;> rfl
@[simp] theorem noteRuns_head (b s : State) : (noteRuns b s).head = s.head := by unfold noteRuns; split <;> rfl
@[simp] theorem noteRuns_detector (b s : State) : (noteRuns b s).detector = s.detector := by unfold noteRuns; split <;> rfl
@[simp] theorem noteRuns_txy (b s : State) : (noteRuns b s).txy = s.txy := by unfold noteRuns; split <;> rfl
@[simp] theorem noteRuns_tyx (b s : State) : (noteRuns b s).tyx = s.tyx := by unfold noteRuns; split <;> rfl
@[simp] theorem noteRuns_log (b s : State) : (noteRuns b s).log = s.log := by unfold noteRuns; split <;> rfl
@[simp] theorem noteRuns_line (b s : State) : (noteRuns b s).line = s.line := by unfold noteRuns; split <;> rfl
@[simp] theorem noteRuns_handed (b s : State) : (noteRuns b s).handed = s.handed := by unfold noteRuns; split <;> rfl
@[simp] theorem noteRuns_builder (b s : State) : (noteRuns b s).builder = s.builder := by unfold noteRuns; split <;> rfl
@[simp] theorem noteRuns_peers (b s : State) : (noteRuns b s).peers = s.peers := by unfold noteRuns; split <;> rfl
@[simp] theorem noteRuns_slots (b s : State) : (noteRuns b s).slots = s.slots := by unfold noteRuns; split <;> rfl
@[simp] theorem noteRuns_operator (b s : State) : (noteRuns b s).operator = s.operator := by unfold noteRuns; split <;> rfl
@[simp] theorem noteRuns_outputs (b s : State) : (noteRuns b s).outputs = s.outputs := by unfold noteRuns; split <;> rfl
@[simp] theorem noteRuns_pins (b s : State) : (noteRuns b s).pins = s.pins := by unfold noteRuns; split <;> rfl
@[simp] theorem noteRuns_freeUses (b s : State) : (noteRuns b s).freeUses = s.freeUses := by unfold noteRuns; split <;> rfl
@[simp] theorem noteRuns_pending (b s : State) : (noteRuns b s).pending = s.pending := by unfold noteRuns; split <;> rfl

/-! `finish` -/

@[simp] theorem finish_now (b a : State) : (finish b a).now = a.now := by simp [finish]
@[simp] theorem finish_sampleDue (b a : State) : (finish b a).sampleDue = a.sampleDue := by simp [finish]
@[simp] theorem finish_phase (b a : State) : (finish b a).phase = a.phase := by simp [finish]
@[simp] theorem finish_restartHeld (b a : State) : (finish b a).restartHeld = a.restartHeld := by simp [finish]
@[simp] theorem finish_restartFrom (b a : State) : (finish b a).restartFrom = a.restartFrom := by simp [finish]
@[simp] theorem finish_reading (b a : State) : (finish b a).reading = a.reading := by simp [finish]
@[simp] theorem finish_selfTest (b a : State) : (finish b a).selfTest = a.selfTest := by simp [finish]
@[simp] theorem finish_selfTestSince (b a : State) : (finish b a).selfTestSince = a.selfTestSince := by simp [finish]
@[simp] theorem finish_silenceOver (b a : State) : (finish b a).silenceOver = a.silenceOver := by simp [finish]
@[simp] theorem finish_config (b a : State) : (finish b a).config = a.config := by simp [finish]
@[simp] theorem finish_passAt (b a : State) : (finish b a).passAt = a.passAt := by simp [finish]
@[simp] theorem finish_lockdown (b a : State) : (finish b a).lockdown = a.lockdown := by simp [finish]
@[simp] theorem finish_lockdownRecord (b a : State) : (finish b a).lockdownRecord = a.lockdownRecord := by simp [finish]
@[simp] theorem finish_head (b a : State) : (finish b a).head = a.head := by simp [finish]
@[simp] theorem finish_detector (b a : State) : (finish b a).detector = a.detector := by simp [finish]
@[simp] theorem finish_txy (b a : State) : (finish b a).txy = a.txy := by simp [finish]
@[simp] theorem finish_tyx (b a : State) : (finish b a).tyx = a.tyx := by simp [finish]
@[simp] theorem finish_log (b a : State) : (finish b a).log = a.log := by simp [finish]
@[simp] theorem finish_handed (b a : State) : (finish b a).handed = a.handed := by simp [finish]
@[simp] theorem finish_peers (b a : State) : (finish b a).peers = a.peers := by simp [finish]
@[simp] theorem finish_slots (b a : State) : (finish b a).slots = a.slots := by simp [finish]
@[simp] theorem finish_operator (b a : State) : (finish b a).operator = a.operator := by simp [finish]
@[simp] theorem finish_pins (b a : State) : (finish b a).pins = a.pins := by simp [finish]
@[simp] theorem finish_freeUses (b a : State) : (finish b a).freeUses = a.freeUses := by simp [finish]
@[simp] theorem finish_pending (b a : State) : (finish b a).pending = a.pending := by simp [finish]

end Sys2Proof.Machine
end

