-- ==== Sys2Proof/Laws/Ops.lean ====
section
/-! SUPPORT. What the shared operations can do, once for each: the end of an event, the two ways a command is taken, and
the operations on slots and the entry to lockdown. -/

namespace Sys2Proof.Machine

/-! ### The end of an event -/

/-- A reason sets the request flag, if anything. -/
theorem takeReason_cases (s : State) :
    takeReason s = s ∨ takeReason s = { s with builder := { s.builder with request := true } } := by
  unfold takeReason; split
  · exact .inl rfl
  · exact .inr rfl

/-- After a reason is taken the flag is set or the slot filled. -/
theorem takeReason_requests (s : State) :
    (takeReason s).builder.request = true ∨ (takeReason s).line.telegramSlot = true := by
  unfold takeReason; split
  · rename_i h; exact .inr h.1
  · exact .inl rfl

theorem noteChange_cases (b s : State) :
    noteChange b s = s ∨ noteChange b s = { s with builder := { s.builder with request := true } } := by
  unfold noteChange; split
  · exact takeReason_cases s
  · exact .inl rfl

theorem fillSlot_cases (s : State) :
    fillSlot s = s ∨ (s.line.telegramSlot = false ∧ fillSlot s =
      { s with builder := { s.builder with request := false }, line := { s.line with telegramSlot := true } }) := by
  unfold fillSlot; split
  · rename_i h; exact .inr ⟨h.2.1, rfl⟩
  · exact .inl rfl

/-- Taking into service leaves a frame in service as it is, and takes one only from a filled slot. -/
theorem serve_cases (s : State) :
    serve s = s ∨ (s.line.service = none ∧ s.mayServe = true ∧ ∃ f, s.line.nextService = some f ∧ serve s =
      { s with line := { s.line with
          service := some f, attempt := 0,
          transmitter := if s.lineIsIdle then .slotDelay s.now else .awaitIdle } }) := by
  unfold serve; split
  · rename_i h
    split
    · rename_i f hf; exact .inr ⟨h.1, h.2, f, hf, rfl⟩
    · exact .inl rfl
  · exact .inl rfl

/-- Lane Q alone apart, a state that ends like `t` does so too: what lane Q has taken and has still to take is free in
`Ends`. -/
theorem Ends.of_lanes {u v t : State} (h : Ends v t) {c : Complement Evaluation} {x : Complement Tick} {b : List LaneEvent} {e : Nat}
    {d : List LaneDifference}
    (hv : v = { u with lanes := { u.lanes with copy := c, time := x, behind := b, events := e, differing := d } }) :
    Ends u t := by
  subst hv
  exact ⟨h.rest, h.slotKept, h.serviceKept⟩

theorem noteLanes_eq (s : State) : ∃ b e d,
    noteLanes s = { s with lanes := { s.lanes with behind := b, events := e, differing := d } } :=
  ⟨_, _, _, rfl⟩

/-- The comparison of the lanes after an event ends it as it stood. -/
theorem Ends.noteLanes {u v : State} (h : Ends u v) : Ends u (noteLanes v) := by
  obtain ⟨b, e, d, hv⟩ := noteLanes_eq v
  rw [hv]
  have hf : v.lanes.faulty = u.lanes.faulty := congrArg (·.lanes.faulty) h.rest
  have hp : v.lanes.periodSince = u.lanes.periodSince := congrArg (·.lanes.periodSince) h.rest
  refine ⟨?_, h.slotKept, h.serviceKept⟩
  have g := congrArg (fun x : State => { x with lanes := { v.lanes with behind := b, events := e, differing := d } }) h.rest
  simp only at g ⊢
  rw [g, hf, hp]

/-- What every event ends with touches the telegram request, the filling and the service of a slot, lamps, status line and
alarm, what lane Q is behind by and the differences found, and nothing else. -/
theorem finish_ends (b u : State) : Ends u (finish b u) := by
  unfold finish
  apply Ends.noteLanes
  obtain h1 | h1 := noteChange_cases b u <;> rw [h1] <;>
    obtain h2 | ⟨h2, h2'⟩ := fillSlot_cases _ <;> (first | rw [h2] | rw [h2']) <;>
    obtain h3 | ⟨h3, -, f, -, h3'⟩ := serve_cases _ <;> (first | rw [h3] | rw [h3']) <;>
    constructor <;> simp_all [showOutputs]

theorem finish_lamps (b u : State) (i : Fin 4) :
    (finish b u).outputs.lamps[i].pattern = (finish b u).lampCommand i := by
  have h : ∀ s : State, (showOutputs s).outputs.lamps[i].pattern = s.lampCommand i := by
    intro s
    simp only [showOutputs, Fin.getElem_fin, Vector.getElem_ofFn, Lamp.command]
    split
    · assumption
    · rfl
  exact h _

/-! ### Characters on the line -/

/-- A character's own bits carry it, without a framing error (R53). -/
@[simp] theorem value_charBits (c : Byte) : (charBits c).value = c := by revert c; decide +kernel

@[simp] theorem framingError_charBits (c : Byte) : (charBits c).framingError = false := rfl

/-! ### Lane Q -/

/-- The compared values computed from lane P's evaluation are lane P's (9.3). -/
@[simp] theorem evaluation_compared (s : State) (time : Tick) : s.evaluation.compared time = s.laneP := rfl

@[simp] theorem State.wait_lanes (s : State) (dt : Nat) : (s.wait dt).lanes = s.lanes.wait dt := rfl
@[simp] theorem State.upTo_lanes (s : State) (t : Tick) : (s.upTo t).lanes = s.lanes.wait (t - s.now) := rfl
@[simp] theorem Lanes.wait_copy (l : Lanes) (dt : Nat) : (l.wait dt).copy = l.copy := rfl
@[simp] theorem Lanes.wait_time (l : Lanes) (dt : Nat) : (l.wait dt).time = ⟨l.time.value + dt⟩ := rfl
@[simp] theorem Lanes.wait_behind (l : Lanes) (dt : Nat) : (l.wait dt).behind = l.behind := rfl
@[simp] theorem Lanes.wait_faulty (l : Lanes) (dt : Nat) : (l.wait dt).faulty = l.faulty := rfl
@[simp] theorem Lanes.wait_differing (l : Lanes) (dt : Nat) : (l.wait dt).differing = l.differing := rfl
@[simp] theorem Lanes.wait_events (l : Lanes) (dt : Nat) : (l.wait dt).events = l.events := rfl
@[simp] theorem Lanes.wait_periodSince (l : Lanes) (dt : Nat) : (l.wait dt).periodSince = l.periodSince := rfl

/-- The passing of time alone changes no value that the lanes compare. -/
@[simp] theorem Lanes.wait_laneQ (l : Lanes) (dt : Nat) : (l.wait dt).laneQ = l.laneQ := rfl

/-- Lane Q's station time is the exact inverse of lane P's once both count the same ticks (R30, R157). -/
theorem Lanes.stationTime_eq {s : State} (h : s.lanes.time = ⟨s.now⟩) : s.lanes.stationTime = ~~~s.stationTime := by
  simp [Lanes.stationTime, State.stationTime, h]

/-- Aligned, lane Q holds the exact inverse of lane P's values (R157). -/
@[simp] theorem alignLanes_laneQ (s : State) : (alignLanes s).lanes.laneQ = (alignLanes s).laneP.inverse := rfl

/-- What a sample does to a run reaches lane Q's waiting events, if anything, and nothing else. -/
theorem noteRuns_eq (b s : State) : ∃ q e, noteRuns b s = { s with lanes := { s.lanes with behind := q, events := e } } := by
  unfold noteRuns; split
  · exact ⟨s.lanes.behind, s.lanes.events, rfl⟩
  · exact ⟨_, _, rfl⟩

theorem compare_keeps (x : Tick) (items : List LaneItem) (p : Compared) (l : Lanes) :
    Lanes.compare x items p l = { l with differing := (Lanes.compare x items p l).differing } := rfl

/-- What lane Q takes changes its copy, what it is behind by and the differences found, and nothing else. -/
theorem follow_keeps (now : Tick) (items : List LaneItem) (p : Compared) (es : List LaneEvent) :
    ∀ l : Lanes, ∃ c b d, l.follow now items p es = { l with copy := c, behind := b, differing := d } := by
  induction es with
  | nil => intro l; exact ⟨l.copy, [], l.differing, rfl⟩
  | cons e es ih =>
    intro l
    simp only [Lanes.follow]
    split
    · obtain ⟨c, b, d, h⟩ := ih (Lanes.compare e.due items p { l with copy := e.copy })
      exact ⟨c, b, d, h⟩
    · exact ⟨l.copy, e :: es, l.differing, rfl⟩

theorem catchUp_eq (s : State) : ∃ c b d,
    catchUp s = { s with lanes := { s.lanes with copy := c, behind := b, differing := d } } := by
  obtain ⟨c, b, d, h⟩ := follow_keeps s.now s.comparedItems s.laneP s.lanes.behind s.lanes
  exact ⟨c, b, d, by rw [catchUp, h]⟩

/-- Up to lane Q, the state a timer's event starts from is the one before at that instant. -/
theorem reach_eq (s : State) (t : Tick) : ∃ c b d,
    s.reach t = { s with
      now := max s.now t
      lanes := { s.lanes with
        copy := c, time := ⟨s.lanes.time.value + (t - s.now)⟩, behind := b, differing := d } } :=
  catchUp_eq (s.upTo t)

theorem pass_eq (s : State) (dt : Nat) : ∃ c b d,
    s.pass dt = { s with
      now := s.now + dt
      lanes := { s.lanes with copy := c, time := ⟨s.lanes.time.value + dt⟩, behind := b, differing := d } } :=
  catchUp_eq (s.wait dt)

/-- With nothing to take, lane Q stays as it is. -/
theorem catchUp_of_nil {s : State} (h : s.lanes.behind = []) : catchUp s = s := by
  have e : s.lanes = { s.lanes with behind := [] } := by rw [← h]
  simp only [catchUp, h, Lanes.follow, ← e]

/-- The items of the differences after one is noted: it is among them just when it differs, and the others stay. -/
theorem noteDifference_item {x : Tick} {item other : LaneItem} {differs : Bool} {ds : List LaneDifference} :
    (∃ d ∈ noteDifference x item differs ds, d.item = other) ↔
      if other = item then differs = true else ∃ d ∈ ds, d.item = other := by
  unfold noteDifference
  cases differs
  · simp only [List.mem_filter, bne_iff_ne, ne_eq, Bool.false_eq_true, if_false]
    split
    · rename_i e; subst e; simp
    · rename_i e
      exact ⟨fun ⟨d, h, h'⟩ => ⟨d, h.1, h'⟩, fun ⟨d, h, h'⟩ => ⟨d, ⟨h, fun g => e (h'.symm.trans g)⟩, h'⟩⟩
  · simp only [if_true]
    split
    · rename_i h
      split
      · rename_i e
        subst e
        simpa using h
      · rfl
    · simp only [List.mem_append, List.mem_singleton]
      split
      · rename_i e
        subst e
        simp only [iff_true]
        exact ⟨_, .inr rfl, rfl⟩
      · rename_i e
        constructor
        · rintro ⟨d, h | rfl, h'⟩
          · exact ⟨d, h, h'⟩
          · exact absurd h'.symm e
        · rintro ⟨d, h, h'⟩
          exact ⟨d, .inl h, h'⟩

/-! ### How a command is taken -/

/-- A command of a timer: nothing happens while the timer does not run, and else the event, at its instant. -/
theorem whenDue_cases {d : Option Tick} {s t : State} {f : State → State} (h : whenDue d s f = .next t) :
    (d = none ∧ t = s) ∨ ∃ x, d = some x ∧ t = finish (s.reach x) (f (s.reach x)) := by
  cases d with
  | none => exact .inl ⟨rfl, by simpa [whenDue] using h.symm⟩
  | some x => exact .inr ⟨x, rfl, by simpa [whenDue, happens] using h.symm⟩

/-- A command from outside: only time passes where the event cannot arise, and else the event follows. -/
theorem onInput_cases {dt : Nat} {s t : State} {p : State → Bool} {f : State → State}
    (h : onInput dt s p f = .next t) :
    (p (s.pass dt) = false ∧ t = s.pass dt) ∨
      (p (s.pass dt) = true ∧ t = finish (s.pass dt) (f (s.pass dt))) := by
  unfold onInput at h
  split at h
  · rename_i hp; exact .inr ⟨hp, by simpa [happens] using h.symm⟩
  · rename_i hp; exact .inl ⟨by simpa using hp, by simpa using h.symm⟩

theorem whenDue_some {x : Tick} {s : State} {f : State → State} :
    whenDue (some x) s f = .next (finish (s.reach x) (f (s.reach x))) := rfl

theorem onInput_arises {dt : Nat} {s : State} {p : State → Bool} {f : State → State} (h : p (s.pass dt) = true) :
    onInput dt s p f = .next (finish (s.pass dt) (f (s.pass dt))) := by
  simp [onInput, h, happens]

/-- A command of a timer that runs out at `x`, the instant given by an equation. -/
theorem whenDue_of_eq {x : Tick} {d : Option Tick} {s : State} {f : State → State} (h : d = some x) :
    whenDue d s f = .next (finish (s.reach x) (f (s.reach x))) := by
  subst h; rfl

theorem whenDue_none {s : State} {f : State → State} : whenDue none s f = .next s := rfl

theorem onInput_not {dt : Nat} {s : State} {p : State → Bool} {f : State → State} (h : p (s.pass dt) = false) :
    onInput dt s p f = .next (s.pass dt) := by
  simp [onInput, h]

/-- What the end of an event leaves, for the state after the event given by an equation. -/
theorem ends_of_eq {b u u' : State} (h : u' = u) : Ends u (finish b u') := h ▸ finish_ends b u'

/-- A request or a filled slot is still one or the other after the end of the event. -/
theorem finish_requests {b u : State} (h : u.builder.request = true ∨ u.line.telegramSlot = true) :
    (finish b u).builder.request = true ∨ (finish b u).line.telegramSlot = true := by
  have h1 : (noteChange b u).builder.request = true ∨ (noteChange b u).line.telegramSlot = true := by
    obtain e | e := noteChange_cases b u <;> rw [e]
    · exact h
    · exact .inl rfl
  have h2 : (fillSlot (noteChange b u)).builder.request = true ∨ (fillSlot (noteChange b u)).line.telegramSlot = true := by
    obtain e | ⟨-, e⟩ := fillSlot_cases (noteChange b u) <;> rw [e]
    · exact h1
    · exact .inr rfl
  simp only [finish]
  obtain e | ⟨-, -, f, -, e⟩ := serve_cases (fillSlot (noteChange b u)) <;> rw [e] <;> simpa [showOutputs] using h2

/-! ### Frames handed on -/

/-- A frame taken before time passes or after it is the same. -/
theorem State.takeHanded_pass (s : State) (frame : Handed) (dt : Nat) :
    (s.takeHanded frame).pass dt = (s.pass dt).takeHanded frame := rfl

/-- What a frame is handed on as: nothing, a telegram of a station with a record, or a query to the own station where the
station takes queries (R57). -/
theorem handedOn_cases (s : State) (body : List Byte) :
    handedOn s body = none ∨
    (∃ tel, parseBody body = .telegram tel ∧ (s.peer? tel.sender.toNat).isSome = true ∧
      handedOn s body = some (.telegram tel)) ∨
    (∃ target kind parameter, parseBody body = .query target kind parameter ∧ target.toNat = s.own ∧
      s.takesQueries = true ∧ handedOn s body = some (.query kind parameter)) := by
  unfold handedOn
  split
  · rename_i tel h
    split
    · rename_i hp; exact .inr (.inl ⟨tel, h, hp, rfl⟩)
    · exact .inl rfl
  · rename_i target kind parameter h
    split
    · rename_i hq; exact .inr (.inr ⟨target, kind, parameter, h, hq.1, hq.2, rfl⟩)
    · exact .inl rfl
  · exact .inl rfl
  · exact .inl rfl

/-- A valid frame is counted, and enters lockdown, or is handed on behind those that wait, or is ignored (R56, R57, R58). -/
theorem receiveFrame_cases (body : List Byte) (s : State) : ∃ counted,
    counted = { s with line := { s.line with framesGood := countUp s.line.framesGood } } ∧
    ((isOwnNumber s body = true ∧ receiveFrame body s = enterLockdown .duplicateStation counted) ∨
     (isOwnNumber s body = false ∧ handedOn s body = none ∧ receiveFrame body s = counted) ∨
     (isOwnNumber s body = false ∧ ∃ frame, handedOn s body = some frame ∧
       receiveFrame body s = { counted with handed := s.handed ++ [frame] })) := by
  refine ⟨_, rfl, ?_⟩
  unfold receiveFrame
  cases ho : isOwnNumber s body
  · cases hh : handedOn s body with
    | none => exact .inr (.inl ⟨rfl, rfl, by simp [State.handOn]⟩)
    | some frame => exact .inr (.inr ⟨rfl, frame, rfl, by simp [State.handOn]⟩)
  · exact .inl ⟨rfl, by simp⟩

/-- The verdict on a burst leaves the frames handed on, or puts one behind them (R56, R57). -/
theorem takeVerdict_handed (v : Verdict) (s : State) :
    (takeVerdict v s).handed = s.handed ∨ ∃ frame, (takeVerdict v s).handed = s.handed ++ [frame] := by
  cases v with
  | notJudged => exact .inl rfl
  | invalid => exact .inl rfl
  | valid body =>
    obtain ⟨c, rfl, ⟨-, h⟩ | ⟨-, -, h⟩ | ⟨-, frame, -, h⟩⟩ := receiveFrame_cases body s <;>
      rw [show takeVerdict (.valid body) s = receiveFrame body s from rfl, h]
    · exact .inl (by simp)
    · exact .inl rfl
    · exact .inr ⟨frame, rfl⟩

/-- A command of a timer whose event leaves the frames handed on leaves them. -/
theorem whenDue_handed {due : Option Tick} {s t : State} {f : State → State} (hf : ∀ u, (f u).handed = u.handed)
    (h : whenDue due s f = .next t) : t.handed = s.handed := by
  cases due with
  | none => rw [whenDue_none] at h; cases h; rfl
  | some x => rw [whenDue_some] at h; cases h; simp [hf]

/-- A command from outside whose event leaves the frames handed on leaves them. -/
theorem onInput_handed {dt : Nat} {s t : State} {p : State → Bool} {f : State → State}
    (hf : ∀ u, (f u).handed = u.handed) (h : onInput dt s p f = .next t) : t.handed = s.handed := by
  unfold onInput at h
  split at h
  · simp only [happens] at h; cases h; simp [hf]
  · cases h; rfl

/-- A query of an unknown kind is taken from its hand-over as one of the five kinds is; another one is not this command
(R178). -/
theorem execQueryOfUnknownKind_eq (dt : Nat) (kind parameter : Byte) (s : State) :
    execQueryOfUnknownKind dt kind parameter s =
      if 1 ≤ kind.toNat ∧ kind.toNat ≤ 5 then .next (s.pass dt) else onQuery dt kind parameter s (refuseQuery kind) := by
  unfold execQueryOfUnknownKind unknownKind
  split <;> split <;> first | rfl | (rename_i h1 h2; simp at h1; omega)

/-- The command of a frame handed on takes that frame (R57). -/
theorem Handed.command_takes (use : Nat) (frame : Handed) : frameTaken (frame.command use) = some frame := by
  cases frame with
  | telegram tel => rfl
  | query kind parameter =>
    have e : ∀ n : Nat, n < 256 → kind.toNat = n → kind = BitVec.ofNat 8 n := by
      intro n hn h; apply BitVec.eq_of_toNat_eq; simp [h]; omega
    simp only [Handed.command, queryCommand]
    split <;> rename_i h
    · rw [e 1 (by omega) h]; rfl
    · rw [e 2 (by omega) h]; rfl
    · rw [e 3 (by omega) h]; rfl
    · rw [e 4 (by omega) h]; rfl
    · rw [e 5 (by omega) h]; rfl
    · rename_i h1 h2 h3 h4
      simp only [imp_false] at h1 h2 h3 h4 h
      exact if_neg (by omega)

/-! ### The part's own clock -/

/-- An event that may be raised has run out, does not wait for the sample, and none such has run out before it. -/
theorem mem_dueEvents {s : State} {e : TimedEvent} (h : e ∈ dueEvents s) :
    e ∈ timedEvents s ∧ e.due ≤ s.now ∧ waitsForSample s e = false ∧
      ∀ f ∈ timedEvents s, f.due ≤ s.now → waitsForSample s f = false → e.due ≤ f.due := by
  simp only [dueEvents, List.mem_filter, Bool.and_eq_true, decide_eq_true_eq, Bool.not_eq_true', List.all_eq_true] at h
  exact ⟨h.1.1, h.1.2.1, h.1.2.2, fun f hf hd hw => h.2 f ⟨hf, hd, hw⟩⟩

/-! ### Views -/

@[simp] theorem atViews_state (w : State) (r : PeerRecord) (t : Telegram) (sl : Slot) :
    (sl.atViews w r t).state = sl.state := by unfold Slot.atViews; split <;> rfl

@[simp] theorem atViews_reset (w : State) (r : PeerRecord) (t : Telegram) (sl : Slot) :
    (sl.atViews w r t).reset = sl.reset := by unfold Slot.atViews; split <;> rfl

@[simp] theorem atViews_record (w : State) (r : PeerRecord) (t : Telegram) (sl : Slot) :
    (sl.atViews w r t).record = sl.record := by unfold Slot.atViews; split <;> rfl

@[simp] theorem atViews_boundary (w : State) (r : PeerRecord) (t : Telegram) (sl : Slot) :
    (sl.atViews w r t).boundary = sl.boundary := by unfold Slot.atViews; split <;> rfl

/-! ### The clearing conditions -/

theorem everyPeer_iff {s : State} {sl : Slot} {p : PeerRecord → Bool} :
    s.everyPeer sl p = true ↔ ∀ b ∈ sl.boundary, b.station ≠ s.own → ∃ r, s.peer? b.station = some r ∧ p r = true := by
  simp only [State.everyPeer, Slot.peerStations, List.all_eq_true, List.mem_filter, List.mem_map, bne_iff_ne, ne_eq]
  constructor
  · intro h b hb hn
    have := h b.station ⟨⟨b, hb, rfl⟩, hn⟩
    split at this
    · exact ⟨_, by assumption, this⟩
    · cases this
  · rintro h _ ⟨⟨b, hb, rfl⟩, hn⟩
    obtain ⟨r, hr, hp⟩ := h b hb hn
    simp [hr, hp]

/-- The judgement of the clearing conditions says just that the slot's inputs are trusted (R111). -/
theorem clearingConditions_iff {s : State} {sl : Slot} : s.clearingConditions sl = true ↔ InputsTrusted s sl := by
  simp only [State.clearingConditions, Bool.and_eq_true, everyPeer_iff, beq_iff_eq, State.inService, State.headReady,
    Bool.not_eq_true']
  constructor
  · rintro ⟨⟨⟨⟨⟨h1, h2, h3⟩, h4, h5⟩, h6⟩, h7⟩, h8⟩
    refine ⟨h1, h2, h3, h4, h5, fun b hb hn => ?_⟩
    obtain ⟨r, hr, hf⟩ := h6 b hb hn
    obtain ⟨r2, hr2, hi⟩ := h7 b hb hn
    obtain ⟨r3, hr3, hs⟩ := h8 b hb hn
    rw [hr] at hr2 hr3
    cases hr2
    cases hr3
    simp only [PeerRecord.showsSound, PeerRecord.view?] at hs
    split at hs
    · rename_i v hv
      simp only [Bool.and_eq_true, bne_iff_ne, ne_eq] at hs
      exact ⟨r, v, hr, hf, hi, hv, hs.1, hs.2⟩
    · cases hs
  · rintro ⟨h1, h2, h3, h4, h5, h6⟩
    refine ⟨⟨⟨⟨⟨h1, h2, h3⟩, h4, h5⟩, fun b hb hn => ?_⟩, fun b hb hn => ?_⟩, fun b hb hn => ?_⟩
    all_goals obtain ⟨r, v, hr, hf, hi, hv, hd, ha⟩ := h6 b hb hn
    · exact ⟨r, hr, hf⟩
    · exact ⟨r, hr, hi⟩
    · exact ⟨r, hr, by simp [PeerRecord.showsSound, PeerRecord.view?, hv, hd, ha]⟩

/-! ### Judgement, causes and lockdown -/

/-- A judgement moves a slot among the evaluating states only; when the conditions fail it is out of CLEARING and CLEAR. -/
theorem judgeClearing_cases (now : Tick) (holds changed : Bool) (sl : Slot) :
    judgeClearing now holds changed sl = sl ∨
    (holds = true ∧ (sl.state = .occupied ∨ sl.state = .sweep ∧ sl.entered = true) ∧
      judgeClearing now holds changed sl = sl.startClearing now) ∨
    (holds = true ∧ changed = true ∧ sl.state = .clearing ∧
      judgeClearing now holds changed sl = { sl with confirmSince := some now }) ∨
    ((sl.state = .clearing ∨ sl.state = .clear) ∧ (holds = false ∨ changed = true) ∧
      judgeClearing now holds changed sl = sl.toOccupied) := by
  unfold judgeClearing
  cases h : sl.state <;> cases holds <;> cases changed <;> cases he : sl.entered <;> simp_all

/-- With the conditions failed, a judgement only takes the slot out of CLEARING and CLEAR. -/
theorem judgeClearing_fails (now : Tick) (changed : Bool) (sl : Slot) :
    judgeClearing now false changed sl = sl.unclear := by
  unfold judgeClearing Slot.unclear Slot.toOccupied
  cases h : sl.state <;> simp

/-- A declared cause leaves the slot DISTURBED. -/
theorem disturb_state (cause : Cause) (time : Word32) (station : Nat) (sl : Slot) :
    (disturb cause time station sl).state = .disturbed := by
  unfold disturb; split
  · assumption
  · rfl

theorem clearingConditions_lockdown {s : State} (h : s.lockdown = true) (sl : Slot) : s.clearingConditions sl = false := by
  simp [State.clearingConditions, State.inService, h]

/-- In lockdown a judgement takes every slot it reaches out of CLEARING and CLEAR. -/
theorem judgeAll_of_lockdown {s : State} (h : s.lockdown = true) :
    judgeAll s = { s with slots := s.slots.map Slot.unclear } := by
  simp [judgeAll, judgeSlots, judge, clearingConditions_lockdown h, judgeClearing_fails]

/-- One slot changed by its number is one place of the list set. -/
theorem modifySlot_eq {s : State} {i : Fin 4} {sl : Slot} (f : Slot → Slot) (h : s.slots[i.val]? = some sl) :
    s.modifySlot i f = { s with slots := s.slots.set i.val (f sl) } := by
  simp only [State.modifySlot]
  congr 1
  apply List.ext_getElem?
  intro j
  simp only [List.getElem?_modify, List.getElem?_set]
  split
  · rename_i e
    subst e
    have hl : i.val < s.slots.length := by
      rcases Nat.lt_or_ge i.val s.slots.length with hl | hl
      · exact hl
      · simp [List.getElem?_eq_none hl] at h
    have he : s.slots[i.val] = sl := Option.some.inj ((List.getElem?_eq_getElem hl).symm.trans h)
    simp [hl, he]
  · simp

/-! ### Entry to lockdown -/

/-- In lockdown no change of what is published is a reason. -/
theorem noteChange_of_lockdown {b s : State} (h : s.lockdown = true) : noteChange b s = s := by
  simp [noteChange, State.inService, h]

/-- At lockdown entry the first LOCKDOWN telegram is requested or not; in RUN it is. -/
theorem firstLockdownTelegram_cases {s : State} (h : s.line.telegramSlot = false) :
    (s.phase ≠ .run ∧ firstLockdownTelegram s = s) ∨
    firstLockdownTelegram s = { s with silenceOver := true, builder := { s.builder with request := true } } := by
  unfold firstLockdownTelegram
  split
  · exact .inr (by simp [takeReason, h])
  · rename_i hd
    refine .inl ⟨fun e => ?_, rfl⟩
    simp [firstLockdownTelegramDue, e] at hd

/-- What the outputs show in lockdown. -/
theorem showOutputs_of_lockdown {s : State} (h : s.lockdown = true) :
    (showOutputs s).outputs.status = { high := false, since := none } ∧
    (showOutputs s).outputs.alarm.shows = .standing .lockdown ∧
    ∀ i : Fin 4, (showOutputs s).outputs.lamps[i].pattern = .flashFast := by
  refine ⟨by simp [showOutputs, StatusLine.command, State.inService, h], ?_, fun i => ?_⟩
  · simp only [showOutputs, State.alarmCondition, h, Alarm.command]
    simp only [if_true]
    split
    · assumption
    · rfl
  · simp only [showOutputs, Fin.getElem_fin, Vector.getElem_ofFn, Lamp.command, State.lampCommand, h]
    simp only [if_true]
    split
    · assumption
    · rfl

/-- The end of the character being driven is the next character boundary, and the first one's end at least (R69). -/
theorem characterEnd_boundary (since now : Tick) : ∃ n, 1 ≤ n ∧ characterEnd since now = since + 2 * n ∧
    (n = 1 ∨ since + 2 * (n - 1) < now) ∧ now ≤ since + 2 * n := by
  have h : ∀ a b : Nat, (max 1 ((a - b + 1) / 2) = 1 ∨ b + 2 * (max 1 ((a - b + 1) / 2) - 1) < a) ∧
      a ≤ b + 2 * max 1 ((a - b + 1) / 2) := by intro a b; omega
  exact ⟨max 1 ((now - since + 1) / 2), Nat.le_max_left _ _, rfl, (h now since).1, (h now since).2⟩

/-- The comparison of the lanes after an entry to lockdown leaves it as it stood. -/
theorem EntersLockdown.noteLanes {cause : LockdownCause} {w v : State} (h : EntersLockdown cause w v) :
    EntersLockdown cause w (noteLanes v) := by
  obtain ⟨b, e, d, hv⟩ := noteLanes_eq v
  rw [hv]
  have hf : v.lanes.faulty = w.lanes.faulty := congrArg (·.lanes.faulty) h.rest
  have hp : v.lanes.periodSince = w.lanes.periodSince := congrArg (·.lanes.periodSince) h.rest
  refine ⟨?_, h.joins, h.stays, h.cutOff, h.answers, h.telegram, h.lamps, h.alarm⟩
  have g := congrArg (fun x : State => { x with lanes := { v.lanes with behind := b, events := e, differing := d } }) h.rest
  simp only at g ⊢
  rw [g, hf, hp]

/-- Everything that entry to lockdown does, with the end of its event. -/
theorem enterLockdown_enters {cause : LockdownCause} {b w : State} (h : w.lockdown = false) :
    EntersLockdown cause w (finish b (enterLockdown cause w)) := by
  have hl : (enterLockdown cause w).lockdown = true := by simp [enterLockdown, h]
  simp only [finish, noteChange_of_lockdown hl]
  apply EntersLockdown.noteLanes
  have hs : ∀ s : State, s.lockdown = true → (serve (fillSlot s)).lockdown = true := by
    intro s h
    obtain h1 | ⟨-, h1⟩ := fillSlot_cases s <;> rw [h1] <;>
      obtain h2 | ⟨-, -, f, -, h2⟩ := serve_cases _ <;> rw [h2] <;> exact h
  obtain ⟨o1, o2, o3⟩ := showOutputs_of_lockdown (hs _ hl)
  have he : enterLockdown cause w = judgeAll (firstLockdownTelegram (builderAtLockdown (abandonFrames (dropPassage
      { endLoopTest cause w with
        lockdown := true, lockdownRecord := some { cause := cause, time := w.stationTime }, reading := false,
        selfTest := none })))) := by simp [enterLockdown, h]
  rw [he] at o1 o2 o3 ⊢
  have hw : endLoopTest cause w = { w with line := (endLoopTest cause w).line } := by
    unfold endLoopTest; split <;> rfl
  have htr : (endLoopTest cause w).line.transmitter = w.line.transmitter := by unfold endLoopTest; split <;> rfl
  have hline : (endLoopTest cause w).line = { w.line with
      connected := (endLoopTest cause w).line.connected, receiver := (endLoopTest cause w).line.receiver
      quietSince := (endLoopTest cause w).line.quietSince } := by unfold endLoopTest; split <;> rfl
  have hj : w.selfTest = some .lineLoop → w.phase = .selfTest → cause ≠ .selfTestFault →
      (endLoopTest cause w).line.connected = true ∧
        (endLoopTest cause w).line.receiver = { w.line.receiver with state := .waiting, idleSeen := false } := by
    intro h1 h2 h3
    simp [endLoopTest, State.inLoopTest, h, h1, h2, h3, joinLine]
  have hst : ¬(w.selfTest = some .lineLoop ∧ w.phase = .selfTest ∧ cause ≠ .selfTestFault) →
      (endLoopTest cause w).line.connected = w.line.connected ∧
        (endLoopTest cause w).line.receiver = w.line.receiver := by
    intro hn
    have : ¬(w.inLoopTest = true ∧ cause ≠ .selfTestFault) := by
      simpa [State.inLoopTest, h, and_assoc] using hn
    simp [endLoopTest, this]
  generalize hE : (endLoopTest cause w).line = E at *
  rw [hw] at o1 o2 o3 ⊢
  generalize hL : builderAtLockdown (abandonFrames (dropPassage
      { { w with line := E } with
        lockdown := true, lockdownRecord := some { cause := cause, time := w.stationTime }, reading := false,
        selfTest := none })) = L at *
  have hslot : L.line.telegramSlot = false := by rw [← hL]; rfl
  have hans : L.line.answerSlot = none := by rw [← hL]; rfl
  have hserv : L.line.service = none := by rw [← hL]; rfl
  have hlock : L.lockdown = true := by rw [← hL]; rfl
  have hph : L.phase = w.phase := by rw [← hL]; rfl
  have hreq : L.builder.request = false := by rw [← hL]; rfl
  have hcon : L.line.connected = E.connected := by rw [← hL]; rfl
  have hrec : L.line.receiver = E.receiver := by rw [← hL]; rfl
  have hq : ∀ since, w.line.transmitter = .driving since → L.line.quietSince = some (characterEnd since w.now) := by
    intro since hd
    rw [← hL]
    simp [builderAtLockdown, abandonFrames, dropPassage, htr, hd]
  have hcut : ∀ since, w.line.transmitter = .driving since → ∃ n, 1 ≤ n ∧ L.line.quietSince = some (since + 2 * n) ∧
      (n = 1 ∨ since + 2 * (n - 1) < w.now) ∧ w.now ≤ since + 2 * n := by
    intro since hd
    obtain ⟨n, h1, h2, h3⟩ := characterEnd_boundary since w.now
    exact ⟨n, h1, by rw [hq since hd, h2], h3⟩
  obtain ⟨hp, h1⟩ | h1 := firstLockdownTelegram_cases hslot <;> rw [h1] at o1 o2 o3 ⊢ <;>
    rw [judgeAll_of_lockdown (by simpa using hlock)] at o1 o2 o3 ⊢ <;>
    obtain h2 | ⟨-, h2⟩ := fillSlot_cases _ <;> rw [h2] at o1 o2 o3 ⊢ <;>
    obtain h3 | ⟨-, -, f, hn, h3⟩ := serve_cases _ <;> rw [h3] at o1 o2 o3 ⊢
  all_goals
    refine ⟨?_, ?_, ?_, ?_, ?_, ?_, o3, o2⟩
    · simp only [showOutputs] at o1 ⊢
      rw [← hL, hline]
      simp only [builderAtLockdown, abandonFrames, dropPassage, StatusLine.command, State.inService, State.passageTicks]
      simp
    · simpa [showOutputs, hcon, hrec] using hj
    · simpa [showOutputs, hcon, hrec] using hst
    · simpa [showOutputs] using hcut
    · clear hline hw htr hj hst hcut hq hL
      simp_all [showOutputs, Line.nextService]
      try (rintro rfl; simp at hn)
    · intro e
      first
        | exact absurd (hph.trans e) hp
        | simp [showOutputs]

end Sys2Proof.Machine
end

