-- ==== Sys2Proof/Tests/Slice0.lean ====
section
/-! SUPPORT. Tests: ill-formed commands, one step of each command on a small state, most of them with the values of a
worked sequence of the manual, and for each statement that has hypotheses a state that meets them. -/

namespace Sys2Proof.Tests
open Sys2Proof.Machine

section

-- One after another: each evaluation waits for the constants before it, and a waiting thread holds its whole stack.
set_option Elab.async false

/-! ### States to start from -/

/-- Lane Q has taken every event, as it has 1 ms later, and counts the same time. -/
def caughtUp (s : State) : State :=
  { s with lanes := { s.lanes with
      copy := ⟨s.evaluation⟩, time := ⟨s.now⟩, behind := []
      differing := s.lanes.differing.filter fun d => s.lanes.faulty.contains d.item } }

/-- The state after these commands, lane Q following each of them. -/
def ex (commands : List Instr) (s : State) : State :=
  commands.foldl (fun s c => match exec c s with | .next t => caughtUp t | _ => s) s

/-- The head healthy and undamped. -/
def quietHead : HeadLevels := { hca := false, hcb := false, hha := true, hhb := true }

/-- An image with its CRC after it. -/
def withCrc (bytes : List Byte) : List Byte := bytes ++ chars16 (crc16 bytes)

/-- The bytes of the image of station 5 (3.9) before its CRC. -/
def imageBytes : List Byte := [21, 5, 1, 0, 150, 2, 0x80, 214, 3, 0x85, 9, 0x8C, 0x40, 215, 2, 0x83, 5]

/-- The loop test passes. -/
def loopGood : LoopResult := { charactersMatch := true, frameGood := true, ticks := 200 }

/-- The image of station 5 (3.9) as it is read. -/
def image5 : Image :=
  { format := 21, station := 5, filterCode := 1, spacing := 150, crcMatches := true
    slots := [{ sectionNumber := 214, side := .y, direct := false, entries := [(5, .y), (9, .x), (12, .y)] },
              { sectionNumber := 215, side := .x, direct := true, entries := [(3, .y), (5, .x)] }] }

/-- Station 5 after the pass of its image at 1 ms. -/
def built : State := caughtUp (finish (State.reset.wait 100) (passImage image5 quietHead (State.reset.wait 100)))

/-- Station 5 in SILENCE. -/
def silent : State :=
  ex [.lineLoopTest 0 loopGood, .laneTest true, .readBackTest (List.replicate 40 false)] built

/-- In SILENCE with the head COUNTING. -/
def counting : State := ex [.headRecovery] silent

/-- In RUN, the first telegram in its slot delay. -/
def running : State := ex [.silenceEnd] counting

/-- In RUN with the first telegram sent. -/
def sent : State := ex [.lineWin false, .attemptCompletion] running

/-- A view of section 215. -/
def view215 (state : Byte) (demand : Option DemandPart) : ViewPart :=
  { sectionNumber := 215, state := state, settled := true, balance := 0, demand := demand }

/-- A telegram of station 3 with its view of section 215. -/
def telegram3 (sequence : Word16) (status : HeadStatus) (txy tyx : Word16) (views : List ViewPart) : Telegram :=
  { sender := 3, sequence := sequence, status := status, txy := txy, tyx := tyx,
    viewCount := BitVec.ofNat 8 views.length, views := views, partialView := false }

def plainOrder : TakingOrder := { causes := .replicate 4 0, resetFirst := .replicate 4 false }

def peer3 (sequence : Word16) (txy tyx : Word16) (state : Byte) (demand : Option DemandPart) : Instr :=
  .countTelegram 10000 (telegram3 sequence .idle txy tyx [view215 state demand]) plainOrder

/-- Station 3 heard, its head IDLE, its totals 100 and 40, its view DISTURBED. -/
def heard : State := ex [peer3 7 100 40 1 none] sent

/-- Slot 1, section 215, selected at the panel. -/
def selected : State :=
  ex [.debouncedLevelChange 0 { operatorInactive with rq2 := true }, .selection 1] heard

/-- A DIRECT demand issued for section 215. -/
def agreeing : State := ex [.confirmDirect 0 false] selected

/-- The demand as station 3 shows it once it has adopted it, with its own reset base. -/
def shown : DemandPart := { originator := 5, number := 0x81, baseTxy := 100, baseTyx := 40 }

/-- The demand applied at both stations. -/
def applied : State := ex [peer3 8 100 40 2 (some shown)] agreeing

def slot1 (s : State) (f : Slot → Slot) : State := { s with slots := s.slots.modify 1 f }

/-- Section 215 CLEARING from here, station 3 showing it OCCUPIED. -/
def clearing : State :=
  caughtUp (showOutputs (slot1
    (applied.modifyPeer 3 fun r => { r with views := r.views.map fun v => { v with state := .occupied } })
    fun sl => { sl with state := .clearing, confirmSince := some applied.now }))

/-- Section 215 CLEAR. -/
def cleared : State := caughtUp (showOutputs (slot1 clearing fun sl => { sl with state := .clear, confirmSince := none }))

/-- A clear line low and off. -/
def lineOff : ClearLine :=
  { level := false, toggling := false, wasToggling := false, lastRead := some false, mismatches := 0 }

/-- The second clear pair stands so, the others off. -/
def pair215 (c : ClearPair) (s : State) : State :=
  { s with outputs := { s.outputs with pairs := (Vector.replicate 4 { p := lineOff, q := lineOff }).set 1 c } }

/-- Section 215 is CLEAR and its lines have toggled once, CLP high. -/
def toggling : State :=
  pair215 { p := { lineOff with level := true, toggling := true }, q := { lineOff with toggling := true } } cleared

/-- Locked down in RUN. -/
def locked : State := ex [.clockCheckPeriodEnd 97999] sent

/-- Locked down in SELF_TEST. -/
def lockedTesting : State := ex [.lineLoopTest 0 loopGood, .clockCheckPeriodEnd 97999] built

/-- A LOCKDOWN telegram is driven. -/
def lockedDriving : State := ex [.spacingEnd, .lineWin false] locked

/-- What holds of the next state of a step. -/
def steps {α : Type} (s : State) (f : State → α) : Option α :=
  match step s with
  | .next t => some (f t)
  | _ => none

/-- What a test looks at in the state after these commands. -/
def see {α : Type} (s : State) (commands : List Instr) (f : State → α) : α := f (ex commands s)

def good (bytes : List Byte) : List LineChar := (frameOf bytes).map fun c => { gap := 0, bits := charBits c }

/-! ### Ill-formed commands -/

theorem test_illFormed_readBackTest : (Instr.readBackTest (List.replicate 39 false)).wellFormed = false := by decide
theorem test_illFormed_filteredChange : (Instr.filteredChange 5 false false).wellFormed = false := by decide
theorem test_illFormed_receptionIdle :
    (Instr.receptionIdle 0 [{ gap := 4, bits := charBits Machine.sync }]).wellFormed = false ∧
    (Instr.receptionIdle 0 [{ gap := 0, bits := { charBits Machine.sync with start := .idle } }]).wellFormed = false := by decide
theorem test_illFormed_countTelegram :
    (Instr.countTelegram 0 (telegram3 1 .idle 0 0 (List.replicate 5 (view215 2 (some shown)))) plainOrder).wellFormed = false := by
  decide
theorem test_illFormed_collision : (Instr.collision 0).wellFormed = false ∧ (Instr.collision 69).wellFormed = false := by decide
theorem test_illFormed_peerStale : (Instr.peerStale 31).wellFormed = false := by decide
theorem test_illFormed_peerLost : (Instr.peerLost 0).wellFormed = false := by decide
theorem test_illFormed_queryOfUnknownKind : (Instr.queryOfUnknownKind 0 5 0).wellFormed = false := by decide

/-! ### The CRC -/

/-- The published check value of the generator 5935H with all bits set at the start. -/
theorem test_crc_check_value : crc16 [0x31, 0x32, 0x33, 0x34, 0x35, 0x36, 0x37, 0x38, 0x39] = 0x772B := by decide +kernel

/-! ### Start-up (3.9, R48, R51, R52) -/

theorem test_powerOn :
    see cleared [.powerOn true] (fun s => (s.phase, s.reading, s.log.length, s.slots.length)) = (.configRead, false, 0, 0) := by
  decide +kernel

theorem test_restart :
    see locked [.restart] (fun s => (s.lockdown, s.lockdownRecord.map (·.cause), s.log.map (·.kind), s.restartHeld)) =
      (false, some .clockFault, [.restartMark], true) := by decide +kernel

/-- A restart while a refusal is heard and the lines are in use: every block at its start value (R23, R70, R151, R177). -/
theorem test_restart_startsAfresh : AtStart (ex [.confirmSweep 0 true, .spike 0 .a, .restart] selected) := by
  constructor <;> decide +kernel

theorem test_restartRelease :
    see locked [.restart, .restartRelease 600000] (fun s => (s.reading, s.stationTime)) = (true, 6000) := by decide +kernel

theorem test_configReadEnd :
    see State.reset [.configReadEnd 100 (withCrc imageBytes) quietHead]
      (fun s => (s.phase, s.peers.map (·.station), s.slots.map (fun sl => (sl.sectionNumber, sl.side, sl.direct)))) =
      (.selfTest, [3, 9, 12], [(214, .y, false), (215, .x, true)]) := by decide +kernel

/-- The bytes of the image are read as that image, and it passes. -/
theorem test_configReadEnd_image : passingImage (withCrc imageBytes) = some image5 := by decide +kernel

/-- The images that fail (3.9): slot count, boundary count, spacing, section twice, own side, own twice, a changed bit. -/
theorem test_configReadEnd_fails :
    ([imageBytes.set 5 5, imageBytes.set 14 9, imageBytes.set 4 60, imageBytes.set 13 214, imageBytes.set 16 0x85,
      (imageBytes.set 11 0x85), imageBytes.set 0 20].all fun b =>
        see State.reset [.configReadEnd 100 (withCrc b) quietHead] (·.phase) == .configHalt) = true ∧
    see State.reset [.configReadEnd 100 ((withCrc imageBytes).set 7 215) quietHead] (·.phase) = .configHalt := by
  decide +kernel

theorem test_lineLoopTest :
    see built [.lineLoopTest 0 loopGood] (fun s => (s.line.connected, s.selfTest)) = (true, some .lane) := by decide +kernel

theorem test_lineLoopTest_slow :
    see built [.lineLoopTest 0 { loopGood with ticks := 201 }]
      (fun s => (s.line.connected, s.lockdownRecord.map (·.cause))) = (false, some .selfTestFault) := by decide +kernel

/-- The last character is back more than 2 ms after the start of the test (R46). -/
theorem test_lineLoopTest_late :
    see built [.lineLoopTest 201 loopGood] (fun s => (s.line.connected, s.lockdownRecord.map (·.cause))) =
      (false, some .selfTestFault) := by decide +kernel

/-- Another cause in the loop test: no failure of the test, and the receiver is connected (R50, R53, R57, R61). -/
theorem test_lockdown_inLoopTest :
    see built [.clockCheckPeriodEnd 0] (fun s => (s.line.connected, s.selfTest, s.lockdownRecord.map (·.cause))) =
      (true, none, some .clockFault) := by decide +kernel

theorem test_laneTest :
    see built [.lineLoopTest 0 loopGood, .laneTest true] (fun s => (s.selfTest, s.stationTime)) = (some .readBack, 11) := by
  decide +kernel

theorem test_readBackTest :
    see built [.lineLoopTest 0 loopGood, .laneTest true, .readBackTest (List.replicate 40 false)]
      (fun s => (s.phase, s.stationTime)) = (.silence, 21) := by decide +kernel

theorem test_readBackTest_fails :
    see built [.lineLoopTest 0 loopGood, .laneTest true, .readBackTest (List.replicate 39 false ++ [true])]
      (fun s => (s.phase, s.lockdownRecord.map (·.cause))) = (.selfTest, some .selfTestFault) := by decide +kernel

theorem test_silenceEnd :
    see counting [.silenceEnd] (fun s => (s.phase, s.stationTime, s.line.telegramSlot, s.builder.request)) =
      (.run, 5000, true, false) := by decide +kernel

/-- The first LOCKDOWN telegram of a station locked down in SELF_TEST (R50, R85). -/
theorem test_silenceEnd_lockedDown :
    see lockedTesting [.silenceEnd] (fun s => (s.phase, s.stationTime, s.line.telegramSlot, s.builder.request)) =
      (.selfTest, 5000, true, false) := by decide +kernel

theorem test_stationTimeWrap :
    see sent [.stationTimeWrap] (fun s => (s.stationTime, s.phase)) = (0, .run) := by decide +kernel

/-! ### Head and passages (1.6, 1.9) -/

/-- A wheel from side X to side Y with this skew. -/
def wheel (skew : Nat) : List Instr :=
  [.filteredChange 0 true false, .filteredChange skew false true, .filteredChange 50 true false, .filteredChange skew false true]

theorem test_filteredChange_counts :
    see counting (wheel 140) (fun s => (s.txy, s.tyx, s.log.map (fun e => (e.kind, e.speed)))) =
      (1, 0, [(.passageXY, some 385)]) := by decide +kernel

theorem test_filteredChange_implausible :
    see counting (wheel 80) (fun s => (s.txy, s.log.map (fun e => (e.kind, e.speed)), s.slots.map (·.record.lastFurther))) =
      (0, [(.unresolved, some 675)], [some .passageUnresolved, some .passageUnresolved]) := by decide +kernel

/-- Channel B with seven spikes counted. -/
def sevenSpikes : State := { counting with head := { counting.head with b := { counting.head.b with spikes := 7 } } }

theorem test_spike :
    see sevenSpikes [.spike 883900 .b]
      (fun s => (s.head.state, s.head.b.spikes, s.head.b.lastSpike, s.slots.map (·.record.lastFurther))) =
      (.faulty, 8, some 10840, [some .headInterference, some .headInterference]) := by decide +kernel

theorem test_spikeQuietExpiry :
    see sevenSpikes [.spike 883900 .b, .spikeQuietExpiry .b] (fun s => (s.head.b.spikes, s.head.b.lastSpike, s.stationTime)) =
      (0, some 10840, 11840) := by decide +kernel

theorem test_headFault :
    see running [.healthLevelChange 0 .b false, .headFault .b]
      (fun s => (s.head.state, s.slots.map (·.record.lastFurther), s.now - running.now)) =
      (.faulty, [some .headFault, some .headFault], 1999) := by decide +kernel

theorem test_headRecovery : see silent [.headRecovery] (fun s => (s.head.state, s.stationTime)) = (.counting, 2001) := by
  decide +kernel

theorem test_healthLevelChange :
    see silent [.healthLevelChange 7 .a false] (fun s => (s.head.healthA.lowFrom, s.head.recoverFrom)) =
      (some (silent.now + 7), none) := by decide +kernel

/-- A spike on the sample that brings the inputs to rest: the recovery time counts from the next one (R8). -/
theorem test_headRecovery_afterSpike :
    see silent [.filteredChange 0 true false, .spike 40 .b, .filteredChange 0 true false] (·.head.recoverFrom) =
      some (silent.now + 41) := by decide +kernel

/-- The wheel has gone and the levels are at rest again: the recovery time counts this sample (R8). -/
theorem test_headRecovery_afterFall :
    ([1, 2].map fun n => see silent (List.replicate n (.filteredChange 9 true false)) (·.head.recoverFrom)) =
      [none, some (silent.now + 18)] := by decide +kernel

/-! ### The line (4.9, 5.7, 11.2) -/

theorem test_receptionIdle :
    see sent [.receptionIdle 10000 (good (encodeTelegram (telegram3 7 .idle 100 40 [view215 1 none])))]
      (fun s => (s.handed, s.line.framesGood)) = ([.telegram (telegram3 7 .idle 100 40 [view215 1 none])], 1) := by
  decide +kernel

/-- A telegram of station 3 and a query of section 1 to station 5, laid out by 11.2, with an answer of another station and a
query to another one between them, which are ignored: both wait in their order, and the first goes first (R57). -/
theorem test_receptionIdle_twoFrames :
    let s := ex ([encodeTelegram (telegram3 7 .idle 100 40 [view215 1 none]), [75, 157, 38, 3, 9, 31],
      [75, 157, 38, 2, 31, 9, 1, 0], [75, 157, 38, 2, 31, 5, 2, 1]].map fun body => .receptionIdle 10000 (good body)) sent
    s.handed = [.telegram (telegram3 7 .idle 100 40 [view215 1 none]), .query 2 1] ∧ s.line.framesGood = 4 ∧
    (idle s).pending.map frameTaken = [some (.telegram (telegram3 7 .idle 100 40 [view215 1 none]))] := by decide +kernel

/-- One stop bit is not at the idle level (R53, R56). -/
theorem test_receptionIdle_framing :
    see sent [.receptionIdle 10000 ((good [7]).set 2 { gap := 0, bits := { charBits 7 with stop := .driven } })]
      (fun s => (s.line.framesGood, s.line.framesBad)) = (0, 1) := by decide +kernel

/-- A burst with pauses that begins before reception idle holds after the own frame is not judged; 50 microseconds later it
begins after it (R55). -/
theorem test_receptionIdle_pauses :
    ([25, 30].map fun dt =>
      see sent [.receptionIdle dt ((good [7]).map fun c => { c with gap := 3 })]
        (fun s => (s.line.framesGood, s.line.framesBad))) = [(0, 0), (1, 0)] := by decide +kernel

theorem test_lineIdle :
    see { sent with line := { sent.line with service := some .answer, transmitter := .awaitIdle, quietSince := some 500 } }
      [.lineIdle] (fun s => (s.line.transmitter, s.line.service)) =
      (.slotDelay sent.now, some .answer) := by decide +kernel

theorem test_deferral :
    see running [.deferral 9] (fun s => (s.line.transmitter, s.line.attempt, s.line.collisions)) = (.awaitIdle, 0, 0) := by
  decide +kernel

/-- A frame taken into service while a character is on the line awaits line idle (R54, R62). -/
theorem test_deferral_withoutService :
    see (ex [.receptionIdle 0 []] sent) [.deferral 50, .statusQuery 0 0]
      (fun s => (s.line.service, s.line.transmitter)) = (some .answer, .awaitIdle) := by decide +kernel

/-- Won after 5 character times; a frame of 30 characters. -/
theorem test_lineWin :
    see running [.lineWin false] (fun s => (s.line.transmitter, s.line.driven.length)) = (.driving 500010, 30) := by
  decide +kernel

/-- SYNC, 11100011B, leads the frame with the least significant bit first (R53). -/
theorem test_lineWin_bits :
    see running [.lineWin false] (fun s => (s.line.drivenBits.length, s.line.drivenBits[0]?)) =
      (30, some { start := .driven, data := #v[true, true, false, false, false, true, true, true], stop := .idle }) := by
  decide +kernel

/-- The seventh character altered: 140 microseconds after the win, attempt 1, slot delay 12 characters. -/
theorem test_collision :
    see running [.lineWin false, .collision 7, .lineIdle] (fun s => (s.line.attempt, s.line.collisions, lineWinDue s)) =
      (1, 1, some (500010 + 14 + 8 + 24)) := by decide +kernel

theorem test_attemptCompletion :
    see running [.lineWin false, .attemptCompletion] (fun s => (s.now, s.builder.sequence, s.line.telegramSlot)) =
      (500070, 1, false) := by decide +kernel

/-- Lockdown on the tick of the win: the first character has begun and is finished (R69). -/
theorem test_lockdown_firstCharacter :
    see running [.lineWin false, .clockCheckPeriodEnd 0] (fun s => (s.now, s.line.quietSince, s.line.transmitter)) =
      (500010, some 500012, .awaitIdle) := by decide +kernel

theorem test_spacingEnd :
    see sent [.filteredChange 930 true false, .spacingEnd] (fun s => (s.now, s.line.telegramSlot, s.builder.request)) =
      (502070, true, false) := by decide +kernel

theorem test_heartbeatExpiry :
    see sent [.spacingEnd, .heartbeatExpiry] (fun s => (s.now, s.line.telegramSlot)) = (520070, true) := by decide +kernel

/-- The heartbeat ends while a telegram is driven: the request flag is set (R72, R75). -/
theorem test_heartbeatExpiry_driving :
    see sent [.spacingEnd, .filteredChange 17950 true false, .lineWin false, .heartbeatExpiry]
      (fun s => (s.now, s.line.transmitter, s.builder.request)) = (520070, .driving 520030, true) := by decide +kernel

theorem test_lockdownTelegramTimer :
    see locked [.spacingEnd, .lineWin false, .attemptCompletion, .spacingEnd, .lockdownTelegramTimer]
      (fun s => (s.line.driven.length, s.line.telegramSlot, s.builder.sequence)) = (18, true, 2) := by decide +kernel

/-! ### Peers (6.10) -/

/-- A telegram of station 9 with a view of section 214. -/
def peer9 (dt : Nat) (sequence : Word16) (status : HeadStatus) (txy tyx : Word16) : Instr :=
  .countTelegram dt
    { sender := 9, sequence := sequence, status := status, txy := txy, tyx := tyx, viewCount := 1, partialView := false,
      views := [{ sectionNumber := 214, state := 4, settled := false, balance := 0, demand := none }] } plainOrder

def life (s : State) : Option (PeerState × Option Word16 × Word16 × Nat) :=
  (s.peer? 9).map fun r => (r.state, r.lastSequence, r.txy, r.gaps)

theorem test_countTelegram_gap :
    see silent [peer9 12900 317 .idle 300 40000, peer9 20100 318 .idle 300 40000, peer9 80300 322 .idle 302 40000] life =
      some (.fresh, some 322, 302, 1) := by decide +kernel

theorem test_countTelegram_jump :
    see silent [peer9 12900 5522 .idle 3 40000, peer9 20100 5523 .idle 3 46000] (fun s => s.slots.map (·.record.lastFurther)) =
      [some .countJump, none] := by decide +kernel

/-- A restart with a FAULTY head on slot 1: the cause taken last is the last further cause, in the order of that slot
(R100, R155). -/
theorem test_countTelegram_orders :
    ([plainOrder, { plainOrder with causes := plainOrder.causes.set 0 1 },
      { plainOrder with causes := plainOrder.causes.set 1 1 }].map fun order =>
        see heard [.countTelegram 0 (telegram3 0 .faulty 100 40 [view215 1 none]) order]
          (fun s => s.slots.map (·.record.lastFurther))) =
      [[none, some .peerHead], [none, some .peerHead], [none, some .peerRestart]] := by decide +kernel

/-- Without a view of section 215, and with one of section 214 (R98, R99). -/
theorem test_countTelegram_views :
    ([[], [{ view215 4 none with sectionNumber := 214 }, view215 4 none]].map fun views =>
      see heard [.countTelegram 0 (telegram3 8 .idle 100 40 views) plainOrder]
        (fun s => (s.peer? 3).map fun r => (r.missing, r.foreign))) =
      [some ([false, true], [false, false]), some ([false, false], [true, false])] := by decide +kernel

theorem test_peerStale :
    see silent [peer9 12900 317 .idle 300 40000, .peerStale 9] (fun s => (life s, s.now)) =
      (some (.stale, some 317, 300, 0), 15000 + 60001) := by decide +kernel

theorem test_peerLost :
    see silent [peer9 12900 317 .idle 300 40000, .peerStale 9, .peerLost 9]
      (fun s => (life s, s.slots.map (·.record.lastFurther))) =
      (some (.lost, some 317, 300, 0), [some .peerLost, none]) := by decide +kernel

/-! ### Sections and their reset (7.13, chapter 8) -/

/-- The balance after station 9 is first heard (7.13): 40000 in, used as 4095, and 300 out. -/
theorem test_balance :
    see silent [peer9 12900 317 .idle 300 40000] (fun s => s.slots.map (fun sl => (sl.balance, sl.range, sl.state))) =
      [(3795, true, .disturbed), (0, false, .disturbed)] := by decide +kernel

theorem test_negativeBalance :
    see (slot1 cleared fun sl => { sl with state := .occupied, negativeSince := some cleared.now }) [.negativeBalance 1]
      (fun s => s.slots.map (fun sl => (sl.state, sl.record.firstCause))) =
      [(.disturbed, some .startup), (.disturbed, some .negativeBalance)] := by decide +kernel

theorem test_settledTimeExpiry :
    see heard [.settledTimeExpiry 1] (fun s => s.slots.map s.settled) = [false, true] := by decide +kernel

/-- Station 3 shows OCCUPIED, and the section is CLEARING, then CLEAR. -/
theorem test_clearing :
    see applied [peer3 9 100 40 4 (some shown), .confirmExpiry 1] (fun s => (s.slots.map (·.state), s.now - applied.now)) =
      ([.disturbed, .clear], 110000) := by decide +kernel

/-- CLQ2 read high where it was set low: counted, and set high by the tick (R169). -/
theorem test_halfPeriodTick_mismatch :
    see toggling [.halfPeriodTick ((Vector.replicate 4 { p := false, q := false }).set 1 { p := true, q := true })]
      (fun s => (s.outputs.pairs[1].q.level, s.outputs.pairs[1].q.mismatches, s.outputs.pairs[1].p.mismatches)) =
      (true, 1, 0) := by decide +kernel

/-- One axle in and one out at station 3: the confirm timer starts again, and so does the settled time (R110, R114). -/
theorem test_clearing_restarts :
    see clearing [peer3 9 101 41 4 (some shown)]
      (fun s => s.slots[1]?.map fun sl => (sl.state, sl.confirmSince == some s.now, sl.settledSince == some s.now)) =
      some (.clearing, true, true) := by decide +kernel

/-- The section in SWEEP: with no axle in it waits, with one in and out it goes to CLEARING (R117). -/
def sweeping : State := slot1 applied fun sl => { sl with state := .sweep }

theorem test_sweep :
    ([(100, 40), (101, 40), (101, 41)].map fun (x, y) =>
      see sweeping [peer3 9 x y 4 (some shown)] (fun s => s.slots[1]?.map fun sl => (sl.state, sl.entered))) =
      [some (.sweep, false), some (.sweep, true), some (.clearing, false)] := by decide +kernel

/-- The section OCCUPIED with a balance of −1. -/
def negative : State := ex [peer3 9 100 41 4 (some shown)] applied

/-- A balance of −1 starts the hold, −2 leaves it running, and 0 stops it (R109). -/
theorem test_negativeHold :
    (negative.slots[1]?.map fun sl => (sl.balance, sl.negativeSince)) = some (-1, some negative.now) ∧
    ([(100, 42), (101, 41)].map fun (x, y) =>
      see negative [peer3 10 x y 4 (some shown)] (fun s => s.slots[1]?.map fun sl => (sl.balance, sl.negativeSince))) =
      [some (-2, some negative.now), some (0, none)] := by decide +kernel

theorem test_confirmExpiry :
    see clearing [.confirmExpiry 1]
      (fun s => (s.slots.map (·.state), s.now - clearing.now, s.outputs.lamps[1].pattern)) =
      ([.disturbed, .clear], 100000, .off) := by decide +kernel

theorem test_debouncedLevelChange :
    see heard [.debouncedLevelChange 10 { operatorInactive with rq2 := true }] (fun s => s.operator.requestSince[1]) =
      some (heard.now + 10) := by decide +kernel

theorem test_selection :
    see heard [.debouncedLevelChange 0 { operatorInactive with rq2 := true }, .selection 1] (·.operator.selection) =
      some { slot := 1, since := heard.now + 50000 } := by decide +kernel

theorem test_selectionTimeout : see selected [.selectionTimeout] (·.operator.selection) = none := by decide +kernel

theorem test_confirmSweep :
    see selected [.confirmSweep 0 false] (fun s => s.slots.map (fun sl => (sl.state, sl.reset.demand.map (·.kind)))) =
      [(.disturbed, none), (.agreeing, some .sweep)] := by decide +kernel

/-- Both confirm lines active: refused (R132). -/
theorem test_confirmSweep_both :
    see selected [.confirmSweep 0 true]
      (fun s => (s.slots.map (fun sl => (sl.state, sl.reset.outcome)), s.operator.demandNumber, s.operator.selection)) =
      ([(.disturbed, .none), (.disturbed, .refused)], 1, none) := by decide +kernel

theorem test_confirmDirect :
    see selected [.confirmDirect 0 false]
      (fun s => (s.slots.map (fun sl => (sl.state, sl.reset.agreement)), s.operator.demandNumber)) =
      ([(.disturbed, none), (.agreeing, some [5])], 2) := by decide +kernel

/-- The agreement of station 3 applies the demand with the bases of both stations. -/
theorem test_application :
    see agreeing [peer3 8 100 40 2 (some shown)]
      (fun s => s.slots.map (fun sl => (sl.state, sl.boundary.map (fun b => (b.station, b.inBase, b.outBase))))) =
      [(.disturbed, [(5, 0, 0), (9, 0, 0), (12, 0, 0)]), (.occupied, [(3, 100, 40), (5, 0, 0)])] := by decide +kernel

/-- A telegram of station 9 with a SWEEP demand of its own for section 214. -/
def demand9 (sequence : Word16) : Instr :=
  .countTelegram 10000
    { sender := 9, sequence := sequence, status := .idle, txy := 300, tyx := 300, viewCount := 1, partialView := false
      views := [{ sectionNumber := 214, state := 2, settled := true, balance := 0
                  demand := some { originator := 9, number := 1, baseTxy := 300, baseTyx := 300 } }] } plainOrder

/-- Slot 0, section 214, AGREEING on the demand of station 9, station 12 still to join; no telegram requested. -/
def adopted : State :=
  let s := ex [demand9 6] sent
  { s with builder := { s.builder with request := false }, line := { s.line with telegramSlot := false } }

/-- Station 9 restarts with the same demand: disturbed and adopted again on one telegram, which is a reason, and the lamp's
flash begins again (R71, R139, R171). -/
theorem test_readoption :
    adopted.slots.map (·.state) = [.agreeing, .disturbed] ∧
    see adopted [demand9 0] (fun s => (s.slots.map (·.state), s.slots.map (·.reset.demand.isSome),
        s.builder.request || s.line.telegramSlot, s.outputs.lamps[0].since - adopted.now)) =
      ([.agreeing, .disturbed], [true, false], true, 10000) := by decide +kernel

/-- A peer lost in lockdown stays in the set (R149). -/
theorem test_peerLost_inLockdown :
    see adopted [.clockCheckPeriodEnd 0, .peerStale 9, .peerLost 9] (fun s => (life s, s.slots.map (·.reset.agreement))) =
      (some (.lost, some 6, 300, 0), [some [5, 9], none]) := by decide +kernel

theorem test_windowExpiry :
    see agreeing [.windowExpiry 1] (fun s => s.slots.map (fun sl => (sl.state, sl.reset.outcome, sl.reset.expiries))) =
      [(.disturbed, .none, 0), (.disturbed, .expired, 1)] := by decide +kernel

/-- The fourth expiry in a row starts the cool-down. -/
theorem test_windowExpiry_fourth :
    see (slot1 agreeing fun sl => { sl with reset := { sl.reset with expiries := 3 } }) [.windowExpiry 1]
      (fun s => s.slots.map (fun sl => (sl.reset.expiries, sl.reset.coolDownSince.isSome))) =
      [(0, false), (0, true)] := by decide +kernel

theorem test_lingerEnd :
    see applied [.lingerEnd 1] (fun s => (s.slots.map (fun sl => sl.reset.demand.isSome), s.now - applied.now)) =
      ([false, false], 200000) := by decide +kernel

theorem test_coolDownEnd :
    see (slot1 heard fun sl => { sl with reset := { sl.reset with coolDownSince := some heard.now } }) [.coolDownEnd 1]
      (fun s => (s.slots.map (·.reset.coolDownSince), s.now - heard.now)) = ([none, none], 12000000) := by decide +kernel

/-! ### Lanes, lockdown and outputs (9.7, 10.8) -/

theorem test_laneMismatch :
    see cleared [.laneMismatch .ownTotals]
      (fun s => (s.lockdownRecord.map (·.cause), s.slots.map (·.state), s.headStatus)) =
      (some .laneMismatch, [.disturbed, .occupied], .lockdown) := by decide +kernel

theorem test_laneStart : Evaluation.start = State.reset.evaluation ∧ Lanes.start.laneQ = State.reset.laneP.inverse := by
  decide +kernel

/-- A skew (9.7): lane Q takes the event 40 microseconds after lane P, and the difference is discarded. -/
theorem test_lane_skew :
    let ahead := { Evaluation.start with txy := 1 }
    let p := ahead.compared 0
    let found := Lanes.start.compare 10 [.ownTotals] p
    (found.differing, (Lanes.follow 13 [.ownTotals] p [{ due := 14, copy := ⟨ahead⟩ }] found).differing,
      (Lanes.follow 14 [.ownTotals] p [{ due := 14, copy := ⟨ahead⟩ }] found).differing) =
      ([{ item := .ownTotals, since := some 10 }], [{ item := .ownTotals, since := some 10 }], []) := by decide +kernel

/-- Lane Q counts the station time, 100 here, in inverted bits (R30, R157). -/
theorem test_lane_time :
    steps { State.reset with pending := [.clockCheckPeriodEnd 100000] } (fun s => (s.stationTime, s.lanes.stationTime)) =
      some (100, 0xFFFFFF9B) := by decide +kernel

/-- A copy of a telegram altered by a fault differs from the win on (R159). -/
theorem test_lane_telegram :
    see running [.lineWin true] (·.lanes.differing) = [{ item := .telegramContent, since := some 500010 }] := by
  decide +kernel

theorem test_clockCheckPeriodEnd :
    see sent [.clockCheckPeriodEnd 98000] (·.lockdown) = false ∧
    see sent [.clockCheckPeriodEnd 102001] (·.lockdown) = true := by decide +kernel

theorem test_halfPeriodTick :
    see cleared [.halfPeriodTick (.replicate 4 { p := false, q := false })]
      (fun s => (s.outputs.pairs[1].p.level, s.outputs.pairs[1].q.level, s.outputs.pairs[0].p.level)) =
      (true, false, false) := by decide +kernel

/-- Lane Q has not taken the confirm expiry yet: CLP2 goes by lane P's command, CLQ2 stays low (R157, R168). -/
theorem test_halfPeriodTick_laneQBehind :
    let behind := { toggling with lanes := { toggling.lanes with copy := ⟨clearing.evaluation⟩ } }
    see behind [.halfPeriodTick (drivenLevels behind)]
      (fun s => (s.outputs.pairs[1].p.level, s.outputs.pairs[1].q.level, s.outputs.pairs[1].q.toggling)) =
      (false, false, false) := by decide +kernel

/-- Lane Q takes the departure after the tick: both lines are low (R168); CLQ, toggling for lane Q, has not changed, which
counts, and is off at the comparison after (R169). -/
theorem test_halfPeriodTick_laneQLater :
    let behind := slot1 { toggling with lanes := { toggling.lanes with copy := ⟨cleared.evaluation⟩ } }
      fun sl => { sl with state := .occupied }
    let low := Instr.halfPeriodTick (.replicate 4 { p := false, q := false })
    [[], [low], [low, low]].map (fun more => see behind (.halfPeriodTick (drivenLevels behind) :: more)
      (fun s => (s.outputs.pairs[1].p.level, s.outputs.pairs[1].q.level, s.outputs.pairs[1].q.mismatches))) =
      [(false, false, 0), (false, false, 1), (false, false, 0)] := by decide +kernel

/-- CLQ2 held high from outside: two comparisons in a row, and lockdown with every line low. -/
theorem test_halfPeriodTick_held :
    see toggling [.halfPeriodTick ((Vector.replicate 4 { p := false, q := false }).set 1 { p := true, q := true }),
        .halfPeriodTick ((Vector.replicate 4 { p := false, q := false }).set 1 { p := false, q := true })]
      (fun s => (s.lockdownRecord.map (·.cause), s.outputs.pairs[1].p.level, s.outputs.pairs[1].q.level)) =
      (some .outputReadback, false, false) := by decide +kernel

/-- CLQ2 read high at one tick of the lockdown. -/
def lockedCounted : State :=
  ex [.halfPeriodTick ((Vector.replicate 4 { p := false, q := false }).set 1 { p := false, q := true })] locked

/-- In lockdown a second mismatch, at a tick or by the watch, and a frame with the own number record nothing (R58, R163,
R169). -/
theorem test_lockdown_again :
    ([.halfPeriodTick ((Vector.replicate 4 { p := false, q := false }).set 1 { p := false, q := true }), .tickWatchExpiry,
      .receptionIdle 10000 (good [75, 157, 38, 1, 5])].map fun c =>
        see lockedCounted [c] (fun s =>
          (s.lockdownRecord.map (·.cause), s.outputs.pairs[1].q.mismatches, s.handed, s.line.framesGood))) =
      [(some .clockFault, 0, [], 0), (some .clockFault, 0, [], 0), (some .clockFault, 1, [], 1)] := by decide +kernel

theorem test_tickWatchExpiry :
    see toggling [.tickWatchExpiry] (fun s => (s.outputs.watch, s.outputs.pairs[1].p, s.lockdown)) =
      (3, { level := false, toggling := false, wasToggling := false, lastRead := some false, mismatches := 1 }, false) := by decide +kernel

theorem test_lampPatternStep :
    see running [.lampPatternStep 0] (fun s => (s.outputs.lamps[0].lit, s.stationTime)) = (false, 5500) := by decide +kernel

theorem test_statusLineToggle :
    see running [.statusLineToggle] (fun s => (running.outputs.status.high, s.outputs.status.high, s.stationTime)) =
      (true, false, 5050) := by decide +kernel

/-- The head pattern: 200 ms on, then off. -/
theorem test_alarmPatternStep :
    see running [.healthLevelChange 0 .b false, .headFault .b, .alarmPatternStep]
      (fun s => (s.outputs.alarm.shows, s.outputs.alarm.sounding, s.now - running.now)) =
      (.standing .headNotCounting, false, 1999 + 20000) := by decide +kernel

theorem test_refusalPatternStep :
    see selected [.confirmSweep 0 true, .refusalPatternStep, .refusalPatternStep, .refusalPatternStep, .refusalPatternStep,
        .refusalPatternStep] (fun s => (s.outputs.alarm.shows, s.now - selected.now)) =
      (.silent, 50000) ∧
    see selected [.confirmSweep 0 true, .refusalPatternStep] (fun s => (s.outputs.alarm.since - selected.now)) = 10000 := by
  decide +kernel

/-! ### Queries (11.2) -/

/-- The first fields of the STATUS answer: header, kind 1, RUN 5, COUNTING 2, IDLE 0, status IDLE 2, totals. -/
theorem test_statusQuery :
    see sent [.statusQuery 0 0] (fun s => s.line.answerSlot.map (fun b => (b.take 15, b.length))) =
      some ([75, 157, 38, 3, 5, 31, 1, 5, 2, 0, 2, 0, 0, 0, 0], 7 + 37) := by decide +kernel

/-- STATUS in lockdown: RUN 5, COUNTING 2, IDLE 0, status LOCKDOWN 5, the totals held, presence 4 + 8, cause CLOCK_FAULT. -/
theorem test_statusQuery_lockdown :
    see { locked with txy := 3 } [.statusQuery 0 0]
      (fun s => s.line.answerSlot.map (fun b => ((b.drop 7).take 11, b[30]?))) =
      some ([5, 2, 0, 5, 0, 3, 0, 0, 0, 0, 12], some 2) := by decide +kernel

/-- SECTION of slot 1, CLEAR: state 6 with a demand record 32, balance 0, no causes. -/
theorem test_sectionQuery :
    see cleared [.sectionQuery 0 1] (fun s => s.line.answerSlot.map (fun b => (b.drop 6).take 6)) =
      some [2, 1, 38, 0, 0, 0] := by decide +kernel

/-- SECTION of slot 1, AGREEING, 500 ms into its window: originator 5, number 1 DIRECT, base 0 and 0, the window start, 9500
ms of window left, and of the boundary 3, 5 the second in the set. -/
theorem test_sectionQuery_agreeing :
    see agreeing [.sectionQuery 50000 1] (fun s => s.line.answerSlot.map (fun b => (b.drop 19).take 13)) =
      some [5, 129, 0, 0, 0, 0, 0, 0, 0x15, 0xE0, 0x25, 0x1C, 2] := by decide +kernel

/-- SECTION of slot 1, 1000 ms into its cool-down: 119000 ms are left. -/
theorem test_sectionQuery_coolDown :
    see (slot1 heard fun sl => { sl with reset := { sl.reset with coolDownSince := some heard.now } }) [.sectionQuery 100000 1]
      (fun s => s.line.answerSlot.map (fun b => (b.drop 19).take 4)) = some [1, 0xD0, 0xD8, 3] := by decide +kernel

/-- The second entry of PEERS: station 9, UNHEARD, with nothing present. -/
theorem test_peersQuery_unheard :
    see heard [.peersQuery 10000 0] (fun s => s.line.answerSlot.map (fun b =>
      ((b.drop 21).take 3, (b.drop 26).take 4, (b.drop 32).take 2))) = some ([9, 0, 0], [0, 0, 0, 0], [0, 0]) := by
  decide +kernel

/-- PEERS from position 0: three records; station 3, FRESH 1 with sequence 4 and age 8, IDLE 2, 7, 100, 40, 100 ms. -/
theorem test_peersQuery :
    see heard [.peersQuery 10000 0] (fun s => s.line.answerSlot.map (fun b => (b.drop 6).take 15)) =
      some [3, 3, 3, 13, 2, 0, 7, 0, 100, 0, 40, 0, 100, 0, 0] := by decide +kernel

theorem test_logQuery :
    see running (wheel 140 ++ [.logQuery 0 0]) (fun s => s.line.answerSlot.map (fun b => b.drop 6)) =
      some [4, 1, 0, 0, 0, 0x13, 0x8B, 1, 129] := by decide +kernel

theorem test_clearDiag :
    see { sent with line := { sent.line with framesGood := 9, dropped := 2 } } [.clearDiag 0 0]
      (fun s => (s.line.framesGood, s.line.dropped, s.line.answerSlot.map (fun b => b.drop 6))) = (0, 0, some [5]) := by
  decide +kernel

theorem test_queryOfUnknownKind :
    see sent [.queryOfUnknownKind 0 6 0] (fun s => s.line.answerSlot.map (fun b => b.drop 6)) = some [134] := by decide +kernel

/-! ### States that meet the hypotheses of the statements -/

theorem notDriving {s : State} (h : s.line.isDriving = false) : ∀ since, s.line.transmitter ≠ .driving since := by
  intro since e
  simp [Line.isDriving, e] at h

/-- With a query and a telegram handed on. -/
def asked : State := { sent with handed := [.query 1 0, .telegram (telegram3 7 .idle 100 40 [])] }

theorem witness_IdleStepRaisesTheNextEvent :
    (asked.pending = [] ∧ asked.handed = [.query 1 0, .telegram (telegram3 7 .idle 100 40 [])]) ∧
    (let s := asked.takeHanded (.query 1 0)
     s.pending = [] ∧ s.handed = [.telegram (telegram3 7 .idle 100 40 [])]) ∧
    (∀ now sampleDue, (now, sampleDue) ∈ [(10000, false), (10001, true), (10000, true)] →
      ∃ s : State, ∃ e : TimedEvent, s.now = now ∧ s.sampleDue = sampleDue ∧ e.due = 10000 ∧
        s.pending = [] ∧ s.handed = [] ∧ (timedEvents s).filter (fun f => decide (f.due ≤ s.now)) = [e]) ∧
    (∀ sampleDue, ∃ s : State, s.sampleDue = sampleDue ∧ s.pending = [] ∧ s.handed = [] ∧ s.lanes.behind = [] ∧
      ∀ e ∈ timedEvents s, s.now < e.due) := by
  refine ⟨by decide +kernel, by decide +kernel, fun now sampleDue h => ⟨{ State.reset with now := now, sampleDue := sampleDue },
    { event := .clockCheckPeriodEnd 100000, due := 10000 }, ?_⟩,
    fun sampleDue => ⟨{ State.reset with now := 9999, sampleDue := sampleDue }, ?_⟩⟩
  · simp only [List.mem_cons, Prod.mk.injEq, List.not_mem_nil, or_false] at h
    obtain ⟨rfl, rfl⟩ | ⟨rfl, rfl⟩ | ⟨rfl, rfl⟩ := h <;> decide +kernel
  · cases sampleDue <;> decide +kernel

/-- In SILENCE after reception idle has held, on this tick with its samples to be taken. -/
def still (now : Tick) : State := { ex [.receptionIdle 0 []] silent with now := now, sampleDue := true }

/-- `still` with this filter code, raw levels and runs. -/
def sampling (code : Nat) (hca hcb : Bool) (fromA fromB : Option Tick) : State :=
  let s := still 2101
  { s with
    config := s.config.map fun k => { k with filterCode := code }
    head := { s.head with a := { s.head.a with diffFrom := fromA }, b := { s.head.b with diffFrom := fromB } }
    pins := { s.pins with head := { s.pins.head with hca := hca, hcb := hcb } } }

/-- No command waits and no timer has run out. -/
def quietNow (s : State) : Bool :=
  s.pending == [] && s.handed == [] && s.sampleDue && (timedEvents s).all fun e => decide (s.now < e.due)

/-- In SILENCE, health B low up to the sample before the 2000th (R7). -/
def fading (high : Bool) : State :=
  let s := still 2101
  { s with
    head := { s.head with healthB := { level := some false, lowFrom := some 102 }, recoverFrom := none }
    pins := { s.pins with head := { s.pins.head with hhb := high } } }

/-- The timers that run through have last run out on this tick. -/
def timersFrom (t : Tick) (s : State) : State :=
  { s with
    slots := s.slots.map fun sl => { sl with settledSince := none }
    lanes := { s.lanes with periodSince := t }
    outputs := { s.outputs with tickSince := some t } }

/-- On the sample on which the recovery time reaches 2000 ms (R8), with this raw level and run of channel A. -/
def recovering (hca : Bool) (run : Option Tick) : State :=
  let s := timersFrom 200000 (still 200100)
  { s with
    head := { s.head with a := { s.head.a with diffFrom := run } }
    pins := { s.pins with head := { s.pins.head with hca := hca } } }

/-- On this tick with its samples to be taken, the restart line so and active from here. -/
def restarting (now : Tick) (active : Bool) (first : Option Tick) (s : State) : State :=
  { s with now := now, sampleDue := true, restartFrom := first, pins := { Pins.quiet with restart := active } }

def stillRunning : State := timersFrom 500000 (ex [.receptionIdle 0 []] sent)

/-- Of 2000 low samples the last one counts: a high one ends the run, and with a low one the fault is due beside the sample
(R7, R19). -/
theorem test_headFault_waits :
    steps (fading true) (·.pending) = some [.healthLevelChange 0 .b true] ∧ dueEvents (fading true) = [] ∧
    (dueEvents (fading false)).map (·.event) = [.headFault .b] := by decide +kernel

/-- A spike on the last sample ends the recovery time (R8). -/
theorem test_headRecovery_waits : steps (recovering false (some 200090)) (·.pending) = some [.spike 0 .a] := by
  decide +kernel

/-- The only event due turns on the sample: a low run with a high sample at 20 ms, and the recovery time at 2000 ms on a spike;
and with a low sample, and without the spike, it does not. -/
theorem witness_IdleStepRaisesTheNextEvent_turns :
    ([(fading true, .headFault .b), (fading false, .headFault .b), (recovering false (some 200090), .headRecovery),
      (recovering false none, Instr.headRecovery)].all fun (s, e) =>
        s.pending == [] && s.handed == [] && s.sampleDue &&
          (timedEvents s).filter (fun f => decide (f.due ≤ s.now)) == [{ event := e, due := s.now }]) = true ∧
    ((fading true).pins.head.hhb = true ∧ (fading false).pins.head.hhb = false) ∧
    ((recovering false (some 200090)).head.a.filtered = some (recovering false (some 200090)).pins.head.hca ∧
      (recovering false (some 200090)).head.a.diffFrom ≠ none) ∧
    (let s := recovering false none
     s.pins.head.hha = true ∧ s.pins.head.hhb = true ∧ s.head.a.diffFrom = none ∧ s.head.b.diffFrom = none) := by
  decide +kernel

/-- Lane Q has still to take the run that a sample begins (R157). -/
theorem test_sample_laneQ :
    (sample (sampling 1 true false none none)).lanes.behind.getLast?.map (·.copy.value.head.a.diffFrom) =
      some (some 2101) := by decide +kernel

/-- For each filter code the sample before the last of a run, and the last; an equal sample with and without a run; both
channels at once. Then operator lines at their fourth and fifth differing sample, and the restart line at its ninth and
tenth active one. -/
theorem witness_SamplesFollowTheFilterTable :
    ([sampling 0 true false (some 2083) none, sampling 0 true false (some 2082) none,
      sampling 1 false true none (some 2063), sampling 1 true true (some 2062) (some 2062),
      sampling 2 true false (some 2023) none, sampling 2 true false (some 2022) (some 2090),
      sampling 1 false false (some 2090) none].all fun s =>
        quietNow s && s.configured && (s.config.map (·.filterCode)).any (fun c => [0, 1, 2].contains c) && !s.pins.restart &&
        !s.restartHeld && (s.now - s.passAt) % 1000 != 0 && s.head.a.filtered == some false &&
        s.head.b.filtered == some false) = true ∧
    [(2083, 20), (2082, 20), (2063, 40), (2062, 40), (2023, 80), (2022, 80)].map
      (fun x => decide (x.2 ≤ 2101 - x.1 + 1)) = [false, true, false, true, false, true] ∧
    ([(3, true), (4, true), (4, false)].all fun (run, level) =>
      let s := { still 2100 with
        operator := { silent.operator with runs := { silent.operator.runs with cfd := run } }
        pins := { silent.pins with operator := { operatorInactive with cfd := level } } }
      quietNow s && s.configured && !s.pins.restart && !s.restartHeld && decide (s.passAt < s.now) &&
        (s.now - s.passAt) % 1000 == 0 && s.head.a.filtered == some s.pins.head.hca && s.head.a.diffFrom == none &&
        s.head.b.filtered == some s.pins.head.hcb && s.head.b.diffFrom == none &&
        s.head.healthA.level == some s.pins.head.hha && s.head.healthB.level == some s.pins.head.hhb) = true ∧
    ([(true, false, some 992), (true, false, some 991), (true, true, some 0), (true, false, none), (false, true, none),
      (false, false, some 995)].all fun (active, held, first) =>
      let s := { State.reset with
        now := 1000, sampleDue := true, restartHeld := held, restartFrom := first
        pins := { Pins.quiet with restart := active } }
      quietNow s && !s.configured) = true ∧
    ([(built, 101), (still 0, 2101), (stillRunning, 500101)].all fun (s, now) =>
      [(true, some (now - 9)), (false, some 0)].all fun (active, first) =>
        let s := restarting now active first s
        quietNow s && (s.now - s.passAt) % 1000 != 0 && s.head.a.filtered == some s.pins.head.hca &&
          s.head.a.diffFrom == none && s.head.b.filtered == some s.pins.head.hcb && s.head.b.diffFrom == none &&
          s.head.healthA.level == some s.pins.head.hha && s.head.healthB.level == some s.pins.head.hhb) = true ∧
    (built.phase, (still 0).phase, stillRunning.phase) = (.selfTest, .silence, .run) := by decide +kernel

/-- In RUN the tenth active sample brings the restart (R51). -/
theorem test_restart_sampled :
    steps (restarting 500101 true (some 500092) stillRunning) (·.pending) = some [.restart] := by decide +kernel

/-- After a restart, the line still active. -/
def held : State := ex [.restart] sent

theorem witness_RestartKeepsLogAndRecord :
    sent.restartHeld = false ∧ held.restartHeld = true ∧ held.phase = .configRead ∧ held.lockdown = false := by
  decide +kernel

/-- A slot count of 5, a second boundary count of 9, and one of 1. -/
theorem test_readImage_undeterminable :
    [imageBytes.set 5 5, imageBytes.set 14 9, imageBytes.set 14 1].map readImage = [none, none, none] := by decide +kernel

theorem witness_ImageChecksDecide :
    (∀ memory : List Byte, ∃ byte start : Nat → Nat, (∀ i, byte i = (memory[i]?.getD 255).toNat) ∧ start 0 = 6 ∧
      ∀ k, start (k + 1) = start k + 3 + byte (start k + 2)) ∧
    (∃ im, readImage (withCrc imageBytes) = some im ∧ passingImage (withCrc imageBytes) = some im) ∧
    (∃ im, readImage imageBytes = some im ∧ passingImage imageBytes = none) := by
  refine ⟨fun memory => ⟨fun i => (memory[i]?.getD 255).toNat,
    Nat.rec 6 (fun _ at' => at' + 3 + (memory[at' + 2]?.getD 255).toNat), fun _ => rfl, rfl, fun _ => rfl⟩, ?_, ?_⟩
  · obtain ⟨im, h⟩ := Option.isSome_iff_exists.mp
      (show (passingImage (withCrc imageBytes)).isSome = true by decide +kernel)
    refine ⟨im, ?_, h⟩
    unfold passingImage at h
    split at h
    · rename_i im' e
      split at h
      · exact e.trans (by simpa using h)
      · cases h
    · cases h
  · obtain ⟨im, h⟩ := Option.isSome_iff_exists.mp (show (readImage imageBytes).isSome = true by decide +kernel)
    exact ⟨im, h, by decide +kernel⟩

theorem witness_ImageVerdictIsTaken :
    State.reset.reading = true ∧ State.reset.phase = .configRead ∧ State.reset.lockdown = false ∧
    (passingImage (withCrc imageBytes)).isSome = true ∧ passingImage imageBytes = none := by decide +kernel

def laneTesting : State := ex [.lineLoopTest 0 loopGood] built
def readingBack : State := ex [.laneTest true] laneTesting

theorem witness_SelfTestsPass :
    (built.selfTest = some .lineLoop ∧ built.phase = .selfTest ∧ built.lockdown = false ∧
      loopGood.charactersMatch = true ∧ loopGood.frameGood = true ∧ loopGood.ticks ≤ 200 ∧
      built.now + 200 ≤ built.selfTestSince + 200) ∧
    (laneTesting.selfTest = some .lane ∧ laneTesting.phase = .selfTest ∧ laneTesting.lockdown = false) ∧
    (readingBack.selfTest = some .readBack ∧ readingBack.phase = .selfTest ∧ readingBack.lockdown = false) := by
  decide +kernel

theorem witness_SelfTestsFail :
    (built.selfTest = some .lineLoop ∧ built.phase = .selfTest ∧ built.lockdown = false ∧
      200 < ({ loopGood with ticks := 201 } : LoopResult).ticks ∧ built.selfTestSince + 200 < built.now + 201) ∧
    (laneTesting.selfTest = some .lane ∧ laneTesting.phase = .selfTest ∧ laneTesting.lockdown = false) ∧
    (readingBack.selfTest = some .readBack ∧ readingBack.phase = .selfTest ∧ readingBack.lockdown = false ∧
      List.replicate 39 false ≠ List.replicate 40 false) := by decide +kernel

/-- Locked down in SILENCE. -/
def lockedSilent : State := ex [.clockCheckPeriodEnd 97999] silent

theorem witness_SilenceEnds :
    (counting.silenceOver = false ∧ counting.phase = .silence ∧ counting.lockdown = false ∧
      counting.builder.spacingSince = none ∧ counting.line.telegramSlot = false ∧ counting.line.service = none) ∧
    (lockedSilent.silenceOver = false ∧ lockedSilent.phase = .silence ∧ lockedSilent.lockdown = true) ∧
    (lockedTesting.silenceOver = false ∧ lockedTesting.phase = .selfTest ∧ lockedTesting.lockdown = true) := by
  decide +kernel

/-- The head COUNTING with the automaton and the levels of a row's start. -/
def before (row : TableRow) : State :=
  let other := (row.state.levels.getD (false, false))
  { sent with
    detector := { sent.detector with state := row.state, trail := some 90 }
    head := { sent.head with
      a := { sent.head.a with filtered := some other.1 }
      b := { sent.head.b with filtered := some other.2 } } }

theorem witness_AutomatonFollowsItsTables :
    (automatonTable.all fun row => (before row).configured && (before row).head.state == .counting &&
      !(before row).lockdown && (before row).detector.state == row.state &&
      ((before row).head.channel row.channel).filtered == some (!row.rises)) = true := by decide +kernel

def inX3 (trail : Nat) : State :=
  { sent with
    detector := { sent.detector with state := .x3, trail := some trail }
    head := { sent.head with b := { sent.head.b with filtered := some true } } }

def inY3 (trail : Nat) : State :=
  { sent with
    detector := { sent.detector with state := .y3, trail := some trail }
    head := { sent.head with a := { sent.head.a with filtered := some true } } }

/-- What `PlausiblePassageIsCounted` and `ImplausiblePassageDisturbs` ask of a state, for a skew. -/
def passing (trail : Nat) : Bool :=
  [(inX3 trail, Automaton.x3, false, true), (inY3 trail, Automaton.y3, true, false)].all fun (s, state, a, b) =>
    s.configured && s.head.state == .counting && !s.lockdown &&
      s.config == some { station := 5, filterCode := 1, spacing := 150 } && s.detector.trail == some trail &&
      s.detector.state == state && s.head.a.filtered == some a && s.head.b.filtered == some b

/-- A passage about to count, with section 215 OCCUPIED and this many axles out of it by the own head. -/
def outBy (n : Word16) : State :=
  slot1 (inX3 90) fun sl => { sl with
    state := .occupied, boundary := sl.boundary.map fun b => if b.station = 5 then { b with outBase := 0 - n } else b }

/-- The boundary of a spacing of 150: a skew of 90; the count takes section 215 out of its range, and does not. -/
theorem witness_PlausiblePassageIsCounted : 150 * 3 ≤ 5 * 90 ∧ passing 90 = true ∧
    ([4095, 4094].map fun n => ((outBy n).slots[1]?.map fun sl => (sl.state.evaluating, sl.range),
      see (outBy n) [.filteredChange 0 false true] fun t => (t.txy, (outBy n).slots[1]?.map (outOfRange t)))) =
      [(some (true, false), (1, some true)), (some (true, false), (1, some false))] := by decide +kernel

/-- The 4096th axle out, and the 4095th (R107). -/
theorem test_filteredChange_range :
    ([4095, 4094].map fun n => see (outBy n) [.filteredChange 0 false true] fun t =>
      t.slots[1]?.map fun sl => (sl.state, sl.record.firstCause, sl.record.firstStation, sl.record.count)) =
      [some (.disturbed, some .countRange, some 5, 2), some (.occupied, some .startup, some 5, 1)] := by decide +kernel

theorem witness_ImplausiblePassageDisturbs : 5 * 89 < 150 * 3 ∧ passing 89 = true := by decide +kernel

/-- Both channels at this level, and the automaton here. -/
def levels (state : Automaton) (a b : Bool) : State :=
  { sent with
    detector := { sent.detector with state := state }
    head := { sent.head with
      a := { sent.head.a with filtered := some a }
      b := { sent.head.b with filtered := some b } } }

/-- A double change from 00, 10 and 01, and from 11; in UNRESOLVED a single change to 01 and 10, and one to 00. -/
theorem witness_DoubleChangesAreUnresolved :
    ([(levels .idle false false, false, false), (levels .x1 true false, true, false), (levels .y1 false true, false, true),
      (levels .x2 true true, true, true), (levels .unresolved true true, true, true),
      (levels .unresolved false false, false, false), (levels .unresolved true false, true, false)].all fun (s, a, b) =>
        s.configured && s.head.state == .counting && !s.lockdown && s.head.a.filtered == some a &&
          s.head.b.filtered == some b) = true ∧
    ((false && false) = false ∧ (true && false) = false ∧ (false && true) = false) ∧
    ((true != false) = true ∧ ((true != true) || (true != false)) = true ∧ ((false != false) || (false != true)) = true ∧
      (levels .unresolved true true).detector.state = .unresolved) ∧
    ((true != true) = false ∧ (true || true) = true) ∧
    ((true || false) = true ∧ (true != true) = false ∧ (false != false) = false ∧
      (levels .unresolved true false).detector.state = .unresolved) := by decide +kernel

/-- A double change from IDLE, and a single change that leaves a level at 1 (R16). -/
theorem test_unresolved :
    see (levels .idle false false) [.filteredChange 0 true true, .filteredChange 5 true false]
      (fun s => (s.detector.state, s.head.a.filtered, s.head.b.filtered, s.log.length)) =
      (.unresolved, some false, some true, 0) := by decide +kernel

/-- A rise, and the fall after it with the recovery time at zero. -/
theorem witness_UnfollowedChangesMoveLevelsOnly :
    (let s := ex [.filteredChange 0 true false] silent
     s.configured = true ∧ s.head.state ≠ .counting ∧ s.head.a.filtered = some true ∧ s.head.b.filtered = some false ∧
       s.head.healthA.level = some true ∧ s.head.healthB.level = some true ∧ s.head.recoverFrom = none) ∧
    (silent.configured = true ∧ (true || false) = true ∧ silent.head.state ≠ .counting) ∧
    (locked.configured = true ∧ locked.head.state = .counting ∧ locked.lockdown = true) := by decide +kernel

theorem witness_SpikesAreCounted :
    (sevenSpikes.configured = true ∧ sevenSpikes.detector.state = .idle ∧ (sevenSpikes.head.channel .b).spikes = 7 ∧
      sevenSpikes.head.state ≠ .faulty) ∧
    (counting.configured = true ∧ (counting.head.channel .b).spikes = 0) := by decide +kernel

def spiked : State := ex [.spike 0 .b] counting

theorem witness_SpikeQuietTime :
    ((spiked.head.channel .b).quietSince = some spiked.now ∧ counting.configured = true) ∧ sent.line.connected = true ∧
      sent.phase = .run ∧ (∀ since, sent.line.transmitter ≠ .driving since) :=
  ⟨by decide +kernel, by decide +kernel, by decide +kernel, notDriving (by decide +kernel)⟩

def lowB : State := ex [.healthLevelChange 0 .b false] sent
def faultyB : State := ex [.headFault .b] lowB

/-- The last health level comes back, alone or on the sample of a spike. -/
theorem witness_HeadFaultsAndRecovers :
    (lowB.configured = true ∧ (lowB.head.health .b).lowFrom = some lowB.now ∧ lowB.head.state ≠ .faulty) ∧
    (faultyB.configured = true ∧ (faultyB.head.health .b).lowFrom = some lowB.now ∧ faultyB.head.state = .faulty) ∧
    (silent.configured = true ∧ silent.head.state ≠ .counting ∧ silent.head.recoverFrom = some 101) ∧
    ([([], none), ([.spike 0 .b], some silent.now)].all fun (commands, quiet) =>
      let s := ex (.healthLevelChange 0 .a false :: commands) silent
      s.configured && (s.head.health .b).level == some true && s.head.a.filtered == some false &&
        s.head.b.filtered == some false && s.head.state != .counting && s.head.recoverFrom == none &&
        s.head.b.quietSince == quiet) = true := by decide +kernel

/-- A telegram of 62 characters, the longest well-formed one. -/
def longTelegram : Telegram := telegram3 9 .idle 1 1 (List.replicate 4 (view215 2 (some shown)))

/-- The receiver WAITING after the own frame. -/
def listening : State := ex [.receptionIdle 0 []] sent

/-- The same in lockdown. -/
def lockedListening : State := ex [.receptionIdle 0 []] locked

theorem witness_receiver : listening.line.connected = true ∧ (∀ since, listening.line.transmitter ≠ .driving since) ∧
    listening.line.receiver.state = .waiting ∧ listening.line.receiver.idleSeen = true ∧
    listening.phase = .run ∧ listening.lockdown = false :=
  ⟨by decide +kernel, notDriving (by decide +kernel), by decide +kernel⟩

/-- In RUN and in lockdown; a burst with pauses. -/
theorem witness_GoodFramesAreHandedOn :
    (longTelegram.partialView = false ∧ longTelegram.length = 62 ∧
      (listening.peer? longTelegram.sender.toNat).isSome = true ∧ longTelegram.sender.toNat ≠ listening.own ∧
      (5 : Byte).toNat = listening.own ∧ listening.own ≠ 31 ∧ listening.configured = true) ∧
    (lockedListening.line.connected = true ∧ (∀ since, lockedListening.line.transmitter ≠ .driving since) ∧
      lockedListening.line.receiver.state = .waiting ∧ lockedListening.line.receiver.idleSeen = true ∧
      lockedListening.lockdown = true ∧ lockedListening.configured = true) ∧
    (let burst := (good (encodeTelegram longTelegram)).map fun c => { c with gap := 3 }
     burst.map (·.bits.value) = frameOf (encodeTelegram longTelegram) ∧ ∀ c ∈ burst, c.bits.stop = .idle) :=
  ⟨by decide +kernel, ⟨by decide +kernel, notDriving (by decide +kernel), by decide +kernel⟩, by
    refine ⟨by simp [good, Function.comp_def, value_charBits], ?_⟩
    simp [good, charBits]⟩

/-- In SILENCE, the receiver WAITING. -/
def silentListening : State := ex [.receptionIdle 0 []] silent

/-- In SELF_TEST after the loop test, the receiver WAITING. -/
def testListening : State := ex [.lineLoopTest 0 loopGood, .receptionIdle 0 []] built

/-- A telegram body of station 3 with this status code, without views. -/
def body3 (status : Byte) : List Byte := [75, 157, 38, 1, 3, 0, 0, 7, status, 0, 0, 0, 0, 0]

/-- Bodies that are ignored: no line mark; an answer; no whole telegram, another target, no status code, no record, a flags
character above 3; no whole query, another sender, another target; a query in SILENCE; and the own number in SELF_TEST. -/
def ignoredBodies : List (State × List Byte) :=
  [(listening, [7]), (listening, [75, 157, 38, 3, 9, 31]), (listening, (body3 2).take 13),
   (listening, (body3 2).set 5 1), (listening, body3 0), (listening, body3 6), (listening, (body3 2).set 4 30),
   (listening, encodeTelegram (telegram3 7 .idle 0 0 []) ++ [0, 215, 1, 4]), (listening, [75, 157, 38, 2, 31, 5, 1]),
   (listening, [75, 157, 38, 2, 31, 5, 1, 0, 0]), (listening, [75, 157, 38, 2, 30, 5, 1, 0]),
   (listening, [75, 157, 38, 2, 31, 9, 1, 0]), (silentListening, [75, 157, 38, 2, 31, 5, 1, 0]),
   (testListening, (body3 2).set 4 5)]

/-- Each is counted as good and leaves the frame that waits (R57). -/
theorem test_receptionIdle_ignored :
    (ignoredBodies.all fun (s, body) =>
      see { s with handed := [.query 1 0] } [.receptionIdle 10000 (good body)]
        (fun t => t.handed == [.query 1 0] && t.line.framesGood == s.line.framesGood + 1 &&
          t.line.framesBad == s.line.framesBad)) = true := by decide +kernel

theorem witness_GoodFramesAreHandedOn_ignored :
    (ignoredBodies.all fun (s, body) =>
      s.line.connected && !s.line.isDriving && s.line.receiver.state == .waiting && s.line.receiver.idleSeen &&
        decide (1 ≤ body.length ∧ body.length ≤ 64) && decide ((good body).map (·.bits.value) = frameOf body) &&
        (good body).all (fun c => c.bits.stop == .idle) &&
        (body[4]? != some 5 || (s.phase != .silence && s.phase != .run && !s.lockdown)) && s.own == 5) = true ∧
    ([7] : List Byte).take 3 ≠ [75, 157, 38] ∧
    (([75, 157, 38, 3, 9, 31] : List Byte)[3]? ≠ some 1 ∧ ([75, 157, 38, 3, 9, 31] : List Byte)[3]? ≠ some 2) ∧
    ((body3 2)[3]? = some 1 ∧ ((body3 2).take 13).length < 14 ∧ ((body3 2).set 5 1)[5]? ≠ some 0 ∧
      (body3 0)[8]? = some 0 ∧ 6 ≤ (6 : Byte).toNat ∧ (listening.peer? 30).isNone = true ∧ (testListening.peer? 5).isNone = true ∧
      ([0, 215, 1, 4] : List Byte)[3]? = some 4 ∧ 4 ≤ (4 : Byte).toNat) ∧
    (([75, 157, 38, 2, 31, 5, 1] : List Byte).length ≠ 8 ∧ ([75, 157, 38, 2, 31, 5, 1, 0, 0] : List Byte).length ≠ 8 ∧
      ([75, 157, 38, 2, 30, 5, 1, 0] : List Byte)[4]? ≠ some 31 ∧ (9 : Byte).toNat ≠ listening.own ∧
      silentListening.phase = .silence ∧ silentListening.lockdown = false) := by decide +kernel

theorem witness_BadBurstsAreCounted :
    (([{ gap := 0, bits := { charBits 7 with stop := .driven } }] : List LineChar) ≠ [] ∧
      (∃ c ∈ ([{ gap := 0, bits := { charBits 7 with stop := .driven } }] : List LineChar), c.bits.stop ≠ .idle)) ∧
    (∀ body : List Byte, 1 ≤ body.length → body.length ≤ 64 →
      (([{ gap := 0, bits := charBits Machine.sync }] : List LineChar).map (·.bits.value)) ≠ frameOf body) := by
  refine ⟨by decide, ?_⟩
  intro body _ _ h
  simp [frameOf] at h

/-- In RUN, `listening`, and in lockdown, `lockedListening`. -/
theorem witness_OwnNumberLocksDown :
    lockedListening.line.receiver.state = .waiting ∧ lockedListening.line.receiver.idleSeen = true ∧
    lockedListening.line.connected = true ∧ lockedListening.lockdown = true ∧ lockedListening.own = 5 ∧
    1 ≤ ([75, 157, 38, 1, 5] : List Byte).length ∧ ([75, 157, 38, 1, 5] : List Byte).length ≤ 64 ∧
    ([75, 157, 38, 1, 5] : List Byte).take 3 = [75, 157, 38] ∧ ([75, 157, 38, 1, 5] : List Byte)[4]? = some 5 ∧
    (5 : Byte).toNat = listening.own := by decide +kernel

def waiting : State := ex [.deferral 9] running

/-- A burst ends in the wait. -/
def burstOver : State := ex [.receptionIdle 100 (good [7])] waiting

/-- The quiet time runs, and is held at zero; a start bit in the slot delay, with no frame in service, and in the wait,
before reception idle holds and after. -/
theorem witness_AccessWaits :
    (listening.line.connected = true ∧ (∀ since, listening.line.transmitter ≠ .driving since) ∧
      listening.line.quietSince = some 500070 ∧ waiting.line.quietSince = none ∧
      (∀ since, waiting.line.transmitter ≠ .driving since)) ∧
    (waiting.line.connected = true ∧ waiting.line.transmitter = .awaitIdle ∧ waiting.line.service ≠ none ∧
      burstOver.line.connected = true ∧ burstOver.line.transmitter = .awaitIdle ∧ burstOver.line.service ≠ none ∧
      burstOver.line.quietSince = some (burstOver.now - 4)) ∧
    (running.line.transmitter = .slotDelay 500000 ∧ running.line.service ≠ none ∧ running.line.connected = true ∧
      listening.line.transmitter = .noService ∧ 500070 + 4 ≤ listening.now + 0 ∧ ¬(500070 + 4 ≤ sent.now + 3) ∧
      sent.line.transmitter = .noService ∧ sent.line.quietSince = some 500070) :=
  ⟨⟨by decide +kernel, notDriving (by decide +kernel), by decide +kernel, by decide +kernel,
    notDriving (by decide +kernel)⟩, by decide +kernel, by decide +kernel⟩

def answering : State := ex [.statusQuery 0 0, .lineIdle] listening

theorem witness_FrameIsDrivenAtTheWin :
    (running.line.transmitter = .slotDelay 500000 ∧ running.line.service = some .telegram) ∧
    (answering.line.transmitter = .slotDelay answering.now ∧ answering.line.service = some .answer ∧
      answering.line.answerSlot.isSome = true) := by decide +kernel

def driving : State := ex [.lineWin false] running
def drivingAnswer : State := ex [.lineWin false] answering
def onAttempt (n drops : Nat) (s : State) : State := { s with line := { s.line with attempt := n, consecutiveDrops := drops } }

/-- A STATUS answer is driven in lockdown. -/
def lockedDrivingAnswer : State := ex [.statusQuery 0 0, .lineIdle, .lineWin false] lockedListening

theorem witness_CollisionsAndDrops :
    (driving.line.transmitter = .driving 500010 ∧ (onAttempt 6 0 driving).line.attempt < 7 ∧ driving.line.service ≠ none) ∧
    ((onAttempt 7 2 driving).line.transmitter = .driving 500010 ∧ (onAttempt 7 2 driving).line.attempt = 7 ∧
      (onAttempt 7 2 driving).line.service = some .telegram ∧ driving.phase = .run ∧ driving.lockdown = false) ∧
    ((onAttempt 7 2 drivingAnswer).line.isDriving = true ∧ (onAttempt 7 2 drivingAnswer).line.service = some .answer ∧
      drivingAnswer.lockdown = false) ∧
    (lockedDriving.line.transmitter = .driving 502080 ∧ (onAttempt 7 2 lockedDriving).line.attempt = 7 ∧
      lockedDriving.line.service = some .telegram ∧ lockedDriving.lockdown = true ∧ lockedDriving.builder.request = false) ∧
    (lockedDrivingAnswer.line.isDriving = true ∧ lockedDrivingAnswer.line.service = some .answer ∧
      lockedDrivingAnswer.lockdown = true) := by decide +kernel

/-- The third LOCKDOWN telegram in a row is dropped: the line fault stands, no slot takes a cause, and the next attempt is
made after 200 ms (R68, R85). -/
theorem test_collision_lockdown :
    see (onAttempt 7 2 lockedDriving) [.collision 1]
      (fun s => (s.line.lineFault, s.line.consecutiveDrops, s.slots.map (·.record.further),
        s.builder.lockdownSince == some s.now, s.builder.request, s.line.telegramSlot)) =
      (true, 3, [false, false], true, false, false) := by decide +kernel

theorem witness_AttemptsComplete :
    (driving.line.transmitter = .driving 500010 ∧ driving.line.service = some .telegram) ∧
    (drivingAnswer.line.isDriving = true ∧ drivingAnswer.line.service = some .answer) := by decide +kernel

def lockedSent : State := ex [.spacingEnd, .lineWin false, .attemptCompletion] locked

theorem witness_BuilderTimersRunOut :
    sent.builder.spacingSince = some 500070 ∧ sent.builder.heartbeatSince = some 500070 ∧ sent.phase = .run ∧
    sent.lockdown = false ∧ lockedSent.lockdown = true ∧ lockedSent.builder.lockdownSince = some lockedSent.now ∧
    (let s := ex [.filteredChange 0 true false] sent
     s.builder.spacingSince = some 500070 ∧ s.builder.request = true ∧ s.line.telegramSlot = false) ∧
    (let s := ex [.spacingEnd, .filteredChange 17950 true false, .lineWin false] sent
     s.builder.heartbeatSince = some 500070 ∧ s.phase = .run ∧ s.lockdown = false ∧ s.line.telegramSlot = true ∧
       s.line.service = some .telegram ∧ s.line.transmitter = .driving 520030) ∧
    (let s := { lockedDriving with builder := { lockedDriving.builder with lockdownSince := some lockedDriving.now } }
     s.lockdown = true ∧ s.line.telegramSlot = true ∧ s.line.service = some .telegram ∧
       s.line.transmitter = .driving 502080) := by
  decide +kernel

def tel3 (sequence : Word16) (status : HeadStatus) (txy : Word16) : Telegram :=
  telegram3 sequence status txy 40 [view215 4 none]

/-- A telegram of station 9 that shows section 214 OCCUPIED. -/
def sound9 (sequence : Word16) : Telegram :=
  { sender := 9, sequence := sequence, status := .idle, txy := 300, tyx := 300, viewCount := 1, partialView := false
    views := [{ view215 4 none with sectionNumber := 214 }] }

theorem witness_TelegramsAreAccepted :
    heard.line.connected = true ∧ heard.configured = true ∧
    (heard.peer? 3).map (fun r => (r.state, r.lastSequence, r.txy)) = some (.fresh, some 7, 100) ∧
    wellFormedTelegram (tel3 8 .idle 100) = true ∧ wellFormedTelegram (telegram3 9 .lockdown 0 0 []) = true ∧
    (some (7 : Word16) ≠ some (tel3 8 .idle 100).sequence) ∧
    (adopted.line.connected = true ∧ adopted.configured = true ∧ wellFormedTelegram (sound9 0) = true ∧
      (adopted.peer? (sound9 0).sender.toNat).map (fun r => (r.state, r.lastSequence)) = some (.fresh, some 6) ∧
      (adopted.slots[0]?.map fun sl => sl.reset.lastIdentity) = some (some { originator := 9, number := 1 })) := by
  decide +kernel

/-- The originator's restart makes the last identity absent; another telegram of it leaves it (R139). -/
theorem test_lastIdentity :
    ([0, 7].map fun n => see adopted [.countTelegram 0 (sound9 n) plainOrder]
      fun s => s.slots[0]?.map (·.reset.lastIdentity)) = [some none, some (some { originator := 9, number := 1 })] := by
  decide +kernel

theorem witness_TelegramsAreDiscarded :
    heard.line.connected = true ∧ heard.configured = true ∧
    (∀ r, heard.peer? 3 = some r → wellFormedTelegram (tel3 7 .idle 100) = false ∨
      ((r.state = .fresh ∨ r.state = .stale) ∧ r.lastSequence = some (tel3 7 .idle 100).sequence)) ∧
    (∀ r, heard.peer? 30 = some r → wellFormedTelegram (tel3 7 .idle 100) = false ∨
      ((r.state = .fresh ∨ r.state = .stale) ∧ r.lastSequence = some (tel3 7 .idle 100).sequence)) := by
  refine ⟨by decide +kernel, by decide +kernel, fun r h => .inr ?_, fun r h => ?_⟩
  · have g : (heard.peer? 3).map (fun r => (r.state, r.lastSequence)) = some (.fresh, some 7) := by decide +kernel
    rw [h] at g
    simp only [Option.map_some, Option.some.injEq, Prod.mk.injEq] at g
    exact ⟨.inl g.1, g.2⟩
  · have g : (heard.peer? 30).isSome = false := by decide +kernel
    simp [h] at g

/-- Section 215 OCCUPIED, station 3's totals 4000 past the base. -/
def farCounted : State := ex [peer3 9 4100 40 4 (some shown)] applied

/-- Section 215 CLEAR and settled. -/
def settledClear : State := slot1 cleared fun sl => { sl with settledSince := none }

/-- The telegram is accepted from station 3. -/
def accepts (s : State) (tel : Telegram) : Bool :=
  s.line.connected && s.configured && !s.lockdown && wellFormedTelegram tel && tel.sender.toNat != s.own &&
    (s.peer? tel.sender.toNat).any fun r =>
      !((r.state == .fresh || r.state == .stale) && r.lastSequence == some tel.sequence)

/-- The demand part of another originator. -/
def otherDemand : DemandPart := { shown with originator := 3 }

/-- The ways of a peer's telegram to disturb: a restart, a step of 4096, FAULTY, LOCKDOWN, a first hearing FAULTY, no view of
the section, a foreign view; on a slot DISTURBED, on one AGREEING and on one CLEAR. -/
theorem witness_PeerCausesDisturb :
    ([(heard, tel3 0 .idle 100), (heard, tel3 8 .idle (100 + 4096)), (heard, tel3 8 .faulty 100),
      (heard, telegram3 8 .lockdown 0 0 []), (sent, tel3 8 .faulty 100), (heard, telegram3 8 .idle 100 40 []),
      (agreeing, tel3 0 .idle 100), (agreeing, tel3 8 .idle (100 + 4096)), (agreeing, tel3 8 .faulty 100),
      (cleared, tel3 0 .idle 100), (cleared, telegram3 12 .idle 100 40 []),
      (cleared, telegram3 12 .idle 100 40 [view215 4 none, { view215 4 none with sectionNumber := 214 }])].all
      fun (s, tel) => accepts s tel && tel.views.all (fun v => v.state != 2) &&
        (s.slots[1]?.map fun sl => sl.boundary.any (fun b => b.station == 3)) == some true &&
        (s.slots[0]?.map fun sl => sl.boundary.any (fun b => b.station == 3)) == some false &&
        (s.peer? 3).any fun r => r.missing == [false, false] && r.foreign == [false, false]) = true ∧
    ((sent.peer? 3).map (fun r => (r.state, r.status)) = some (.unheard, none) ∧
      (heard.peer? 3).map (fun r => (r.state, r.status, r.txy)) = some (.fresh, some .idle, 100) ∧
      (heard.slots.map (·.state), cleared.slots.map (·.state)) = ([.disturbed, .disturbed], [.disturbed, .clear])) := by
  decide +kernel

/-- COUNT_RANGE, the cross-check, propagation of DISTURBED, of AGREEING on another demand and without one held, and AGREEING
on the lingering demand. -/
theorem witness_PeerCausesDisturb_evaluating :
    (accepts farCounted (tel3 10 .idle 4300) = true ∧
      farCounted.slots.map (fun sl => (sl.state.evaluating, sl.range)) = [(false, false), (true, false)] ∧
      (farCounted.peer? 3).map (·.txy) = some 4100 ∧
      see farCounted [.countTelegram 0 (tel3 10 .idle 4300) plainOrder] (fun t => t.slots.map (outOfRange t)) =
        [false, true] ∧
      accepts farCounted (tel3 10 .idle 9100) = true ∧ 4095 < ((9100 : Word16) - 4100).toNat ∧
      see farCounted [.countTelegram 0 (tel3 10 .idle 9100) plainOrder] (fun t => t.slots.map (outOfRange t)) =
        [false, true]) ∧
    (accepts settledClear (telegram3 12 .idle 100 40 [{ view215 4 none with balance := 1 }]) = true ∧
      (settledClear.peer? 3).map (fun r => (r.txy, r.tyx)) = some (100, 40) ∧
      settledClear.slots.map (fun sl => (sl.state.evaluating, settledClear.settled sl, sl.balance)) =
        [(false, false, 0), (true, true, 0)]) ∧
    (([view215 1 none, view215 2 (some otherDemand), view215 2 (some shown)].all fun v =>
        accepts applied (telegram3 9 .idle 100 40 [v])) = true ∧
      (applied.peer? 3).map (fun r => (r.txy, r.tyx)) = some (100, 40) ∧
      applied.slots[1]?.map (fun sl => (sl.state.evaluating, sl.reset.demand.map (·.identity))) =
        some (true, some { originator := 5, number := 1 }) ∧
      (shown.originator.toNat, shown.number.toNat % 128, otherDemand.originator.toNat) = (5, 1, 3) ∧
      (∃ order : TakingOrder, order.resetFirst[1]? = some true)) ∧
    ((ex [.lingerEnd 1] applied).slots[1]?.map (fun sl => (sl.state.evaluating, sl.reset.demand)) = some (true, none)) :=
  ⟨by decide +kernel, by decide +kernel,
   ⟨by decide +kernel, by decide +kernel, by decide +kernel, by decide +kernel,
    { causes := .replicate 4 0, resetFirst := .replicate 4 true }, by decide +kernel⟩, by decide +kernel⟩

/-- The four ways of a telegram to disturb, with one cause each: on section 215 AGREEING, the first cause and its station, and
DISTURBED, the last further cause (R90, R95, R96, R98, R154, R155). -/
theorem test_countTelegram_causes :
    ([(tel3 0 .idle 100, Cause.peerRestart, 3), (tel3 8 .idle (100 + 4096), .countJump, 3),
      (tel3 8 .faulty 100, .peerHead, 3), (telegram3 8 .idle 100 40 [], .boundaryMismatch, 5)].all
      fun (tel, cause, station) =>
        see agreeing [.countTelegram 0 tel plainOrder] (fun s => s.slots[1]?.any fun sl =>
          sl.state == .disturbed && sl.record.firstCause == some cause && sl.record.firstStation == some station &&
            !sl.record.further) &&
        see heard [.countTelegram 0 tel plainOrder] (fun s => s.slots[1]?.any fun sl =>
          sl.record.lastFurther == some cause && sl.record.firstCause == some .startup)) = true := by decide +kernel

/-- A step of 5000 that also leaves the range: both causes reach the slot, in either order (R100, R107). -/
theorem test_countTelegram_rangeAndJump :
    ([0, 2].map fun n =>
      see farCounted [.countTelegram 0 (tel3 10 .idle 9100) { plainOrder with causes := .replicate 4 n }]
        (fun s => s.slots[1]?.map fun sl => (sl.record.firstCause, sl.record.lastFurther))) =
      [some (some .countJump, some .countRange), some (some .countRange, some .countJump)] := by decide +kernel

def stale : State := ex [.peerStale 3] heard

theorem witness_PeersGrowStaleAndLost :
    (heard.peer? 3).map (fun r => (r.state, r.acceptedAt)) = some (.fresh, some heard.now) ∧
    (stale.peer? 3).map (fun r => (r.state, r.acceptedAt)) = some (.stale, some heard.now) ∧ stale.lockdown = false ∧
    (let s := ex [.peerStale 3] (ex [.clockCheckPeriodEnd 0] heard)
     (s.peer? 3).map (fun r => (r.state, r.acceptedAt)) = some (.stale, some heard.now) ∧ s.lockdown = true) := by
  decide +kernel

theorem witness_SlotTimersRunOut :
    ((slot1 cleared fun sl => { sl with negativeSince := some cleared.now }).slots[1]?.map (·.negativeSince)) =
      some (some cleared.now) ∧
    (heard.slots[1]?.map (·.settledSince)) = some (some heard.now) := by decide +kernel

theorem witness_ConfirmedSlotsClear :
    (clearing.slots[1]?.map fun sl => (sl.state, sl.confirmSince)) = some (.clearing, some clearing.now) := by
  decide +kernel

theorem witness_DebouncedLevelsChange :
    (heard.configured = true ∧ heard.operator.selection = none) ∧
    (selected.configured = true ∧ selected.operator.selection.isSome = true ∧ operatorInactive.cfs = false ∧
      operatorInactive.cfd = false) := by decide +kernel

theorem witness_SelectionsRunTheirTime :
    (ex [.debouncedLevelChange 0 { operatorInactive with rq2 := true, rq4 := true }] heard).operator.requestSince.toList =
      [none, some heard.now, none, some heard.now] ∧
    selected.operator.selection = some { slot := 1, since := selected.now } := by decide +kernel

theorem witness_ConfirmationsIssueDemands :
    selected.phase = .run ∧ selected.lockdown = false ∧
    selected.operator.selection = some { slot := 1, since := selected.now } ∧
    (selected.slots[1]?.map fun sl => (sl.state, sl.reset.coolDownSince, sl.direct, sl.record.further, sl.record.firstCause)) =
      some (.disturbed, none, true, false, some .startup) ∧
    selected.head.state = .counting ∧ selected.detector.state = .idle ∧ selected.operator.debounced.cfs = false ∧
    selected.operator.debounced.cfd = false := by decide +kernel

/-- Refused: both lines; lockdown; a slot that is not DISTURBED; DIRECT after a further cause. -/
theorem witness_ConfirmationsAreRefused :
    selected.configured = true ∧ selected.operator.selection = some { slot := 1, since := selected.now } ∧
    selected.operator.debounced.cfs = false ∧ selected.operator.debounced.cfd = false ∧
    (ex [.clockCheckPeriodEnd 0] selected).lockdown = true ∧
    (ex [.clockCheckPeriodEnd 0] selected).operator.selection.isSome = true ∧
    ((slot1 selected fun sl => { sl with state := .clear }).slots[1]?.map (·.state)) = some .clear ∧
    ((slot1 selected fun sl => { sl with record := { sl.record with further := true } }).slots[1]?.map
      (·.record.further)) = some true ∧
    selected.alarmCondition = none := by decide +kernel

/-- The set of the own station alone is not complete for section 215, and that with station 3 is; with the own reset base far
from the own total a contribution is out of range. -/
theorem witness_CompleteSetsApply :
    (agreeing.slots[1]?.map fun sl => (sl.boundary.map (·.station), sl.state)) = some ([3, 5], .agreeing) ∧ 3 ∉ [5] ∧
    (∀ n ∈ [3, 5], n ∈ [5, 3]) ∧ (selected.slots[1]?.map (·.state.evaluating)) = some false ∧
    (applied.peer? 3).map (fun r => r.views.map (fun v => (v.sectionNumber, v.demand.map (·.baseTxy)))) =
      some [(215, some 100)] ∧
    (applied.slots[1]?.map fun sl => (sl.range, decide (sl.balance < 0))) = some (false, false) ∧
    ([(0, false), (40000, true)].all fun (base, range) =>
      match agreeing.slots[1]?, selected.slots[1]? with
      | some sl, some before =>
        (rangeAfter { applied with lockdown := false } before
          (setAgreement applied { identity := { originator := 5, number := 1 }, kind := .direct, baseTxy := base,
                                  baseTyx := 0, windowStart := 0 } [5, 3] sl)).range == range
      | _, _ => false) = true ∧ applied.lockdown = false := by decide +kernel

/-- A telegram of station 3 that shows section 215 the slot's own demand, and one of station 9 with a demand of its own that
reaches the Reset Controller first. -/
theorem witness_BringsView :
    (∃ r sl v, BringsView agreeing (telegram3 8 .idle 101 40 [view215 2 (some shown)]) plainOrder r 1 sl (some v) ∧
      sl.state = .agreeing ∧ sl.reset.demand.isSome = true ∧ sl.reset.agreement.isSome = true ∧
      v.demand.map (·.identity) = sl.reset.demand.map (·.identity)) ∧
    (∃ tel r sl v, BringsView sent tel { plainOrder with resetFirst := .replicate 4 true } r 0 sl (some v) ∧
      sl.state = .disturbed ∧ v.demand.isSome = true) := by
  refine ⟨⟨(agreeing.peer? 3).get (by decide +kernel), (agreeing.slots[1]?).get (by decide +kernel),
      ((([view215 2 (some shown)]).filterMap ViewPart.read)[0]?).get (by decide +kernel), ?_, by decide +kernel⟩,
    ⟨{ sender := 9, sequence := 6, status := .idle, txy := 300, tyx := 300, viewCount := 1, partialView := false
       views := [{ sectionNumber := 214, state := 2, settled := true, balance := 0
                   demand := some { originator := 9, number := 1, baseTxy := 300, baseTyx := 300 } }] },
      (sent.peer? 9).get (by decide +kernel), (sent.slots[0]?).get (by decide +kernel),
      { sectionNumber := 214, state := .agreeing, balance := 0, settled := true
        demand := some { identity := { originator := 9, number := 1 }, kind := .sweep, baseTxy := 300, baseTyx := 300 } },
      ?_, by decide +kernel⟩⟩
  · constructor <;> decide +kernel
  · constructor <;> decide +kernel

def demandOf (originator : Nat) : ViewDemand :=
  { identity := { originator := originator, number := 1 }, kind := .sweep, baseTxy := 0, baseTyx := 0 }

def eligibleDirect : ViewDemand := { demandOf 9 with kind := .direct }

/-- AGREEING, with a passage in progress. -/
def busy : State := ex [.filteredChange 0 true false] agreeing

/-- Slot 0, section 214, has the boundary stations 5, 9 and 12; slot 1 holds the own demand. A lower originator supersedes;
another demand of the same one does in its own view alone; a higher one does not. -/
theorem witness_DemandsAreAdoptedAndSuperseded :
    (heard.phase = .run ∧ heard.lockdown = false ∧ heard.head.state = .counting ∧ heard.detector.state = .idle ∧
      (heard.slots[0]?.map fun sl => (sl.state, sl.reset.coolDownSince, sl.reset.lastIdentity, sl.direct)) =
        some (.disturbed, none, none, false) ∧
      (heard.slots[0]?.map fun sl => sl.boundary.any (fun b => b.station != heard.own && b.station != 9)) = some true) ∧
    ((demandOf 9).kind = .sweep ∧ eligibleDirect.kind = .direct ∧ busy.detector.state ≠ .idle ∧
      busy.slots[0]?.map (·.state) = some .disturbed) ∧
    (([agreeing, busy].all fun s => s.slots[1]?.any fun sl =>
        sl.state == .agreeing && sl.reset.demand.map (·.identity) == some { originator := 5, number := 1 } &&
          sl.reset.agreement == some [5] && sl.reset.lastIdentity.map (·.originator) == some 5) = true ∧
      agreeing.headReady = true ∧ agreeing.phase = .run) ∧
    ((demandOf 3).identity.originator < 5 ∧ ¬(demandOf 9).identity.originator < 5 ∧
      (demandOf 5).identity = { originator := 5, number := 1 }) ∧
    ((adopted.slots[0]?.map fun sl => (sl.state, sl.reset.demand.map (·.identity), sl.reset.agreement)) =
      some (.agreeing, some { originator := 9, number := 1 }, some [5, 9])) ∧
    ((slot1 agreeing fun sl => { sl with record := { sl.record with further := true } }).slots[1]?.map
      (fun sl => (sl.direct, sl.record.further))) = some (true, true) ∧
    (applied.slots[1]?.map (·.state.evaluating)) = some true := by
  refine ⟨?_, ?_, ?_, ?_, ?_, ?_, ?_⟩ <;> decide +kernel

/-- Section 214 AGREEING, in lockdown. -/
def lockedAgreeing : State := ex [.clockCheckPeriodEnd 0] adopted

/-- In lockdown with a slot AGREEING, whose originator restarts; in SILENCE. -/
theorem witness_DemandsAreAdoptedAndSuperseded_outside :
    (lockedAgreeing.line.connected = true ∧ lockedAgreeing.configured = true ∧ lockedAgreeing.lockdown = true ∧
      (lockedAgreeing.peer? 9).map (fun r => (r.state, r.lastSequence)) = some (.fresh, some 6) ∧
      (lockedAgreeing.slots[0]?.map fun sl => (sl.state, sl.reset.lastIdentity.map (·.originator))) =
        some (.agreeing, some 9)) ∧
    (silent.line.connected = true ∧ silent.configured = true ∧ silent.phase ≠ .run ∧
      (silent.peer? 9).map (·.state) = some .unheard ∧ silent.slots.map (·.state) = [.disturbed, .disturbed]) ∧
    wellFormedTelegram (sound9 0) = true := by decide +kernel

/-- A restart in lockdown: no cause, and the demand and the set stand (R137, R139, R149, R152). -/
theorem test_countTelegram_inLockdown :
    see lockedAgreeing [demand9 0] (fun s => s.slots[0]?.any fun sl =>
      sl.state == .agreeing && sl.record.count == 1 && sl.reset.demand.isSome && sl.reset.agreement == some [5, 9] &&
        sl.reset.lastIdentity == none) = true := by decide +kernel

theorem witness_WindowsExpire :
    (agreeing.slots[1]?.map fun sl => (sl.state, sl.reset.windowSince)) = some (.agreeing, some agreeing.now) ∧
    ((slot1 agreeing fun sl => { sl with reset := { sl.reset with expiries := 3 } }).slots[1]?.map (·.reset.expiries)) =
      some 3 := by decide +kernel

theorem witness_LingersAndCoolDownsEnd :
    (applied.slots[1]?.map (·.reset.lingerSince)) = some (some applied.now) ∧
    ((slot1 heard fun sl => { sl with reset := { sl.reset with coolDownSince := some heard.now } }).slots[1]?.map
      (·.reset.coolDownSince)) = some (some heard.now) := by decide +kernel

theorem witness_CausesDisturb :
    (applied.slots.map (·.state)) = [.disturbed, .occupied] ∧ (agreeing.slots.map (·.state)) = [.disturbed, .agreeing] := by
  decide +kernel

def differing (since : Option Tick) (s : State) : State :=
  { s with lanes := { s.lanes with differing := [{ item := .ownTotals, since := since }] } }

/-- Held as differing, in lockdown as well; not held; handed over. -/
theorem witness_LaneAndClockFaults :
    ([sent, locked].all fun s =>
      (differing (some s.now) s).lanes.differing.find? (fun e => e.item == .ownTotals) ==
          some { item := .ownTotals, since := some s.now } &&
        (differing none s).lanes.differing.find? (fun e => e.item == .ownTotals) ==
          some { item := .ownTotals, since := none } &&
        s.lanes.differing.find? (fun e => e.item == .slotState 1) == none && s.configured &&
        decide (1 < s.slots.length)) = true ∧
    State.reset.lanes.differing.find? (fun e => e.item == .alarmPattern) = none ∧
    sent.lockdown = false ∧ locked.lockdown = true ∧ (97999 < 98000 ∧ 102000 < 102001) := by decide +kernel

theorem witness_LockdownCausesAreTakenOnce : locked.lockdown = true ∧ sent.lockdown = false := by decide +kernel

/-- CLQ2 read high where it was set low, then set high. -/
def mismatched : State :=
  pair215 { p := { lineOff with toggling := true, wasToggling := true, lastRead := some true }
            q := { level := true, toggling := true, wasToggling := true, lastRead := some true, mismatches := 1 } } toggling

/-- CLQ2 counted once, and read low before. -/
def relented : State :=
  pair215 { p := { lineOff with toggling := true, wasToggling := true, lastRead := some true }
            q := { level := true, toggling := true, wasToggling := true, lastRead := some false, mismatches := 1 } } toggling

/-- No count, a command on and off, CLP high and low before; and a count of 1 with a reading that fits. -/
theorem witness_HalfPeriodsFollowTheTable :
    (toggling.outputs.tickSince.isSome = true ∧
      (∀ i : Fin 4, toggling.outputs.pairs[i].p.mismatches = 0 ∧ toggling.outputs.pairs[i].q.mismatches = 0) ∧
      toggling.clearCommand 1 = true ∧ toggling.laneQCommand 1 = true ∧ toggling.outputs.pairs[1].p.level = true ∧
      cleared.outputs.pairs[1].p.level = false ∧ cleared.clearCommand 1 = true ∧ toggling.clearCommand 0 = false ∧
      toggling.laneQCommand 0 = false) ∧
    (mismatched.outputs.tickSince.isSome = true ∧
      (∀ i : Fin 4, mismatched.outputs.pairs[i].p.mismatches = 0 ∧
        (mismatched.outputs.pairs[i].q.mismatches = if i = 1 then 1 else 0)) ∧
      mismatched.outputs.pairs[1].q.level = true ∧ mismatched.outputs.pairs[1].q.toggling = true ∧
      mismatched.outputs.pairs[1].q.wasToggling = true ∧ mismatched.outputs.pairs[1].q.lastRead = some true) ∧
    ((relented.outputs.pairs[1].q.mismatches = 1 ∧ relented.outputs.pairs[1].q.lastRead = some false ∧
      relented.outputs.pairs[1].q.level = true)) := by decide +kernel

/-- A wrong level, and a right one without a change; no count; and a count of 1 in lockdown. -/
theorem witness_ReadBackFaultsLockDown :
    mismatched.outputs.tickSince.isSome = true ∧ mismatched.lockdown = false ∧
    mismatched.outputs.pairs[1].q.mismatches = 1 ∧ false ≠ mismatched.outputs.pairs[1].q.level ∧
    (mismatched.outputs.pairs[1].q.level = true ∧ mismatched.outputs.pairs[1].q.toggling = true ∧
      mismatched.outputs.pairs[1].q.wasToggling = true ∧ mismatched.outputs.pairs[1].q.lastRead = some true) ∧
    toggling.outputs.tickSince.isSome = true ∧
    (∀ i : Fin 4, toggling.outputs.pairs[i].p.mismatches = 0 ∧ toggling.outputs.pairs[i].q.mismatches = 0) ∧
    (lockedCounted.outputs.tickSince.isSome = true ∧ lockedCounted.lockdown = true ∧
      lockedCounted.outputs.pairs[1].q.mismatches = 1 ∧ lockedCounted.outputs.pairs[1].q.level = false) := by
  decide +kernel

/-- The outputs follow, with the alarm silent, standing and refusing. -/
theorem outputsFollow_of (s : State)
    (h : (decide (∀ i : Fin 4, ¬(s.outputs.pairs[i].p.level = true ∧ s.outputs.pairs[i].q.level = true) ∧
      s.outputs.lamps[i].pattern = s.lampCommand i) && s.outputs.status.since.isSome == s.inService &&
      (s.inService || !s.outputs.status.high) &&
      (match s.alarmCondition with
        | some c => s.outputs.alarm.shows == .standing c
        | none => s.outputs.alarm.shows == .silent || s.outputs.alarm.shows == .refusal)) = true) : OutputsFollow s := by
  simp only [Bool.and_eq_true, decide_eq_true_eq, beq_iff_eq, Bool.or_eq_true, Bool.not_eq_true'] at h
  obtain ⟨⟨⟨h1, h2⟩, h3⟩, h4⟩ := h
  refine ⟨fun i => (h1 i).1, fun i => (h1 i).2, h2, fun g => by simpa [g] using h3, fun c => ?_⟩
  split at h4 <;> rename_i e
  · simp_all
  · simp only [Bool.or_eq_true, beq_iff_eq] at h4
    obtain h4 | h4 := h4 <;> simp [h4, e]

def refusing : State := ex [.confirmSweep 0 true] selected
def alarmed : State := faultyB

theorem witness_PatternsStep :
    OutputsFollow running ∧ OutputsFollow refusing ∧ OutputsFollow alarmed ∧
    running.outputs.lamps[0].pattern = .flashSlow ∧ agreeing.outputs.lamps[1].pattern = .flashMedium ∧
    locked.outputs.lamps[3].pattern = .flashFast ∧ running.outputs.status.since = some 500000 ∧
    alarmed.outputs.alarm.shows = .standing .headNotCounting ∧ [200, 1800][alarmed.outputs.alarm.place]? = some 200 ∧
    refusing.outputs.alarm.shows = .refusal ∧ refusing.alarmCondition = none ∧ refusing.outputs.alarm.place < 4 :=
  ⟨outputsFollow_of _ (by decide +kernel), outputsFollow_of _ (by decide +kernel), outputsFollow_of _ (by decide +kernel),
   by decide +kernel⟩

theorem witness_QueriesAreAnswered :
    heard.line.connected = true ∧ heard.phase = .run ∧ heard.lockdown = false ∧ (5 : Byte) = BitVec.ofNat 8 heard.own ∧
    heard.slots[(1 : Byte).toNat]?.isSome = true ∧ (15 : Byte).toNat ≤ 15 ∧ (63 : Byte).toNat ≤ 63 ∧
    ((heard.peers[(0 : Byte).toNat]?).map fun r => (r.lastSequence, r.acceptedAt, r.status, r.state)) =
      some (some 7, some heard.now, some .idle, .fresh) ∧
    ((heard.peers[(0 : Byte).toNat + 1]?).map fun r => (r.lastSequence, r.acceptedAt)) = some (none, none) ∧
    (agreeing.phase = .run ∧ agreeing.lockdown = false ∧ agreeing.slots[1]?.map (fun sl =>
      (sl.state, sl.reset.demand.isSome, sl.reset.agreement)) = some (.agreeing, true, some [5])) := by decide +kernel

theorem witness_QueriesAreRefused :
    sent.line.connected = true ∧ sent.configured = true ∧ sent.phase = .run ∧ sent.slots.length ≤ (2 : Byte).toNat ∧
    16 ≤ (16 : Byte).toNat ∧ 64 ≤ (64 : Byte).toNat ∧ locked.line.connected = true ∧ locked.phase = .run ∧
    locked.lockdown = true ∧ (6 : Byte).toNat < 128 ∧ 6 ≤ (127 : Byte).toNat ∧ (127 : Byte).toNat < 128 ∧
    128 ≤ (128 : Byte).toNat ∧ lockedSilent.line.connected = true ∧ lockedSilent.configured = true ∧
    lockedSilent.phase = .silence ∧ lockedSilent.lockdown = true := by decide +kernel

theorem witness_LockdownStands :
    steps { locked with pending := [.spacingEnd] } (·.lockdown) = some true ∧ locked.lockdown = true ∧
    locked.restartHeld = false ∧
    steps { lockedAgreeing with pending := [demand9 0] } (fun t => decide (t.slots.map (·.record) =
      lockedAgreeing.slots.map (·.record))) = some true ∧
    steps { locked with restartHeld := true, pending := [.restart] } (·.lockdown) = some true := by decide +kernel

theorem start_is_start : AtStart State.reset := by constructor <;> decide +kernel

/-- From the start a bad clock check leads to lockdown. -/
theorem witness_LockdownStands_afterRestart :
    AtStart State.reset ∧ see State.reset [.clockCheckPeriodEnd 0] (·.lockdown) = true :=
  ⟨start_is_start, by decide +kernel⟩

theorem witness_TotalsChangeByCountsOnly :
    steps { inX3 90 with pending := [.filteredChange 0 false true] } (·.txy) = some 1 ∧ passing 90 = true := by
  decide +kernel

/-- A step from `cleared`, section 215 CLEAR: the clock check. -/
theorem witness_step : steps { cleared with pending := [.clockCheckPeriodEnd 97999] } (·.lockdown) = some true ∧
    steps { cleared with pending := [.peerStale 3] } (fun t => t.slots.map (·.state)) = some [.disturbed, .occupied] := by
  decide +kernel

/-- Trust comes to OCCUPIED and to SWEEP with an axle in; CLEARING with a used total changed, and without. -/
theorem witness_ClearingStaysSound_moves :
    ([(applied, peer3 9 100 40 4 (some shown)), (sweeping, peer3 9 101 41 4 (some shown)),
      (clearing, peer3 9 101 41 4 (some shown)), (clearing, peer3 9 100 40 4 (some shown))].map fun (s, c) =>
      (s.slots[1]?.map (·.state), steps { s with pending := [c] } fun t =>
        (t.slots[1]?.map (·.state), decide (t.totalsOf 3 = s.totalsOf 3)))) =
      [(some .occupied, some (some .clearing, true)), (some .sweep, some (some .clearing, false)),
       (some .clearing, some (some .clearing, false)), (some .clearing, some (some .clearing, true))] := by decide +kernel

theorem witness_ClearingStaysSound : ClearingSound cleared := by
  constructor
  · intro sl h _
    have g : (cleared.slots.all fun sl => sl.state == .disturbed || cleared.clearingConditions sl) = true := by
      decide +kernel
    have g' := List.all_eq_true.mp g sl h
    simp only [Bool.or_eq_true, beq_iff_eq] at g'
    obtain g' | g' := g'
    · simp_all
    · exact clearingConditions_iff.mp g'
  · decide +kernel

theorem witness_BalancesStayCurrent : BalancesCurrent cleared := by constructor <;> decide +kernel

/-- The hold running, in RUN. -/
theorem witness_BalancesStayCurrent_holds : HoldsSound negative ∧ negative.phase ≠ .configRead ∧
    (negative.slots[1]?.map fun sl => sl.negativeSince.isSome) = some true := by
  have g : (negative.slots.all fun sl =>
      (sl.negativeSince == none || (sl.state.evaluating && decide (sl.balance < 0))) &&
      (!sl.state.evaluating || decide (0 ≤ sl.balance) || sl.negativeSince != none) && !sl.entered &&
      sl.state != .sweep) = true := by decide +kernel
  refine ⟨?_, by decide +kernel, by decide +kernel⟩
  have h := List.all_eq_true.mp g
  simp only [Bool.and_eq_true, Bool.or_eq_true, beq_iff_eq, bne_iff_ne, decide_eq_true_eq, Bool.not_eq_true'] at h
  constructor
  · exact fun sl m n => (h sl m).1.1.1.resolve_left n
  · exact fun _ sl m e b => (h sl m).1.1.2.resolve_left fun o => o.elim (by simp [e]) (by omega)
  · exact fun sl m e => absurd e (by simp [(h sl m).1.2])
  · exact fun sl m e _ => absurd e (h sl m).2

theorem witness_OutputsKeepFollowing : OutputsFollow toggling := outputsFollow_of _ (by decide +kernel)

/-- A lamp, the status line, the alarm and a refusal that start, and each of them running on; the alarm silent. -/
theorem witness_PatternsRunOn :
    (∀ s ∈ [cleared, counting, running, lowB, alarmed, selected, refusing], OutputsFollow s) ∧
    (steps { cleared with pending := [.peerStale 3] } fun t => (t.outputs.lamps[0].pattern, t.outputs.lamps[1].pattern)) =
      some (cleared.outputs.lamps[0].pattern, .steady) ∧ cleared.outputs.lamps[1].pattern = .off ∧
    (steps { counting with pending := [.silenceEnd] } fun t => t.outputs.status.since.isSome) = some true ∧
    counting.outputs.status.since = none ∧ running.outputs.status.since.isSome = true ∧
    (steps { lowB with pending := [.headFault .b] } fun t => t.outputs.alarm.shows) = some (.standing .headNotCounting) ∧
    lowB.outputs.alarm.shows = .silent ∧ alarmed.outputs.alarm.shows = .standing .headNotCounting ∧
    (steps { selected with pending := [.confirmSweep 0 true] } fun t => t.outputs.alarm.shows) = some .refusal ∧
    refusing.outputs.alarm.shows = .refusal ∧
    (([running, alarmed, refusing].map fun s => steps { s with pending := [.clockCheckPeriodEnd 100000] } fun t =>
      decide (t.outputs.status.since.isSome = true ∧ t.outputs.alarm.shows = s.outputs.alarm.shows))) =
      [some true, some true, some true] := by
  refine ⟨?_, by decide +kernel⟩
  simp only [List.forall_mem_cons, List.not_mem_nil, false_implies, implies_true, and_true]
  refine ⟨?_, ?_, ?_, ?_, ?_, ?_, ?_⟩ <;> exact outputsFollow_of _ (by decide +kernel)

/-- Lane Q level; and behind by one event, with a difference found. -/
theorem witness_LanesSound : LanesSound State.reset ∧
    LanesSound (let s := { State.reset with txy := 1 }
      { s with lanes := { Lanes.start with
          behind := [{ due := 40, copy := ⟨s.evaluation⟩ }]
          differing := [{ item := .telegramContent, since := some 0 }] } }) := by
  refine ⟨?_, ?_⟩ <;> constructor <;> decide +kernel

theorem witness_LineAccessStaysSound : AccessSound driving := by constructor <;> decide +kernel

/-- Frames that come into service: an answer on an idle line, and with a character on it; after a telegram; a telegram
dropped, requested again; and a LOCKDOWN telegram on entry (R60, R62, R69, R79). -/
theorem witness_LineAccessStaysSound_taken :
    ([(listening, .statusQuery 50 0), (ex [.deferral 50] listening, .statusQuery 0 0),
      (ex [.statusQuery 0 0] driving, .attemptCompletion), (onAttempt 7 0 driving, .collision 1),
      (driving, .clockCheckPeriodEnd 0)].map fun (s, c) =>
      (s.line.service, steps { s with pending := [c] } fun t =>
        (t.line.service, t.line.attempt, t.line.transmitter == .slotDelay t.now, t.line.transmitter == .awaitIdle))) =
      [(none, some (some .answer, 0, true, false)), (none, some (some .answer, 0, false, true)),
       (some .telegram, some (some .answer, 0, false, true)), (some .telegram, some (some .telegram, 0, false, true)),
       (some .telegram, some (some .telegram, 0, false, true))] := by decide +kernel

/-- With a peer's telegram and two like queries handed on. -/
def handedThree : State := { sent with handed := [.telegram (telegram3 7 .idle 100 40 []), .query 1 0, .query 1 0] }

/-- A burst ends; a query takes its frame, the first of two alike, and one that did not come by the line takes none; another
command leaves them; and with none waiting the first is queued (R57). -/
theorem witness_LineAccessStaysSound_handed :
    ReceptionSound handedThree ∧
    ([[.receptionIdle 10000 (good [75, 157, 38, 2, 31, 5, 2, 1])], [.statusQuery 0 0], [.statusQuery 0 7],
      [.spacingEnd], []].map fun p =>
      steps { handedThree with pending := p } (·.handed)) =
      [some (handedThree.handed ++ [.query 2 1]), some [.telegram (telegram3 7 .idle 100 40 []), .query 1 0],
        some handedThree.handed, some handedThree.handed, some handedThree.handed] := by
  refine ⟨⟨by decide +kernel, fun tel h => ?_, fun kind parameter h => ?_⟩, by decide +kernel⟩
  · have e : tel = telegram3 7 .idle 100 40 [] := by simpa [handedThree] using h
    subst e
    exact ⟨by decide +kernel, Option.isSome_iff_exists.mp (by decide +kernel)⟩
  · exact ⟨by decide +kernel, .inl (by decide +kernel)⟩

theorem witness_DetectorStaysSound : DetectorSound (inX3 90) := by
  constructor
  · intro _ l h
    have g : (inX3 90).detector.state.levels = some (false, true) := by decide +kernel
    rw [g] at h
    cases h
    decide +kernel
  all_goals decide +kernel

theorem witness_RecordsStaySound : InRange cleared ∧ ResetSound agreeing ∧ PeersSound cleared := by
  refine ⟨?_, ?_, ?_⟩
  · constructor <;> decide +kernel
  · unfold ResetSound; decide +kernel
  · constructor <;> decide +kernel

/-- A step that changes the head status in ordinary service, with nothing waiting and while a telegram is driven; and station
9's restart on a slot AGREEING. -/
theorem witness_ChangesRequestTelegrams :
    steps { sent with pending := [.filteredChange 0 true false] } (fun t => (t.phase, t.lockdown, t.headStatus)) =
      some (.run, false, .busy) ∧ sent.headStatus = .idle ∧
    steps { driving with pending := [.filteredChange 0 true false] }
      (fun t => (t.phase, t.lockdown, t.headStatus, t.line.service, t.line.transmitter)) =
      some (.run, false, .busy, some .telegram, .driving 500010) ∧ driving.headStatus = .idle ∧
    driving.line.telegramSlot = true ∧
    (adopted.line.connected = true ∧ adopted.phase = .run ∧ adopted.lockdown = false ∧
      (adopted.peer? 9).map (fun r => (r.state, r.lastSequence)) = some (.fresh, some 6) ∧
      (adopted.slots[0]?.map fun sl => (sl.state, sl.boundary.any (fun b => b.station == 9))) = some (.agreeing, true) ∧
      9 ≠ adopted.own) := by
  refine ⟨?_, ?_, ?_, ?_, ?_, ?_⟩ <;> decide +kernel

theorem witness_TelegramsReadBack :
    longTelegram.partialView = false ∧ 1 ≤ ([7] : List Byte).length ∧ (List.replicate 64 (7 : Byte)).length ≤ 64 := by
  decide +kernel

end

end Sys2Proof.Tests
end

section
/-! PROOFS. The spike counter's quiet time (R4): the reasoning rules for a spike, for the event at the end of the quiet
time and for the STATUS answer, and the statement assembled from them. -/

namespace Sys2Proof.Machine

/-! ### A spike (R3, R4) -/

@[simp] theorem HeadChannel.spike_quietSince (now : Tick) (time : Word32) (counted : Bool) (c : HeadChannel) :
    (c.spike now time counted).quietSince = some now := rfl

/-- The recovery time and the limit of a spike leave what it does to its channel as it is. -/
theorem takeSpike_channel (c : Channel) (s : State) :
    (takeSpike c s).head.channel c =
      (s.head.channel c).spike s.now s.stationTime (s.detector.state == .idle) := by
  cases c <;> rfl

@[simp] theorem State.pass_now (s : State) (dt : Nat) : (s.pass dt).now = s.now + dt := rfl

/-- Whether or not a spike reaches the limit, the head it leaves is that of `takeSpike`: causes and judgement touch slots
alone. -/
theorem exec_spike_head (dt : Nat) (c : Channel) {s : State} (h : s.configured = true) :
    ∃ t, exec (.spike dt c) s = .next t ∧ t.now = s.now + dt ∧ t.head = (takeSpike c (s.pass dt)).head := by
  have hexec : exec (.spike dt c) s = execSpike dt c s := rfl
  rw [hexec, execSpike, onInput_arises (show (s.pass dt).configured = true from h)]
  refine ⟨_, rfl, ?_⟩
  rw [finish_now, finish_head]
  split <;> simp

/-! ### The end of the quiet time (R4) -/

theorem spikeQuietDue_eq {s : State} {c : Channel} {since : Tick} (h : (s.head.channel c).quietSince = some since) :
    spikeQuietDue s c = some (since + 100000) := by
  simp [spikeQuietDue, h, after, ms]

/-- An event at the instant `x` that changes the head alone. -/
theorem ends_reach_head (b s : State) (x : Tick) (h : Head) :
    Ends { s with now := max s.now x, head := h } (finish b { s.reach x with head := h }) := by
  obtain ⟨copy, behind, differing, hreach⟩ := reach_eq s x
  rw [hreach]
  exact (finish_ends b _).of_lanes rfl

/-- SPIKE_QUIET_EXPIRY at its instant: the channel's counter returns to 0, its quiet time stops, nothing else changes. -/
theorem exec_spikeQuietExpiry_ends {s : State} {c : Channel} {since : Tick}
    (h : (s.head.channel c).quietSince = some since) :
    ∃ t, exec (.spikeQuietExpiry c) s = .next t ∧
      Ends { s with
        now := max s.now (since + 100000)
        head := s.head.setChannel c fun ch => { ch with spikes := 0, quietSince := none } } t := by
  have hexec : exec (.spikeQuietExpiry c) s = execSpikeQuietExpiry c s := rfl
  rw [hexec, execSpikeQuietExpiry, whenDue_of_eq (spikeQuietDue_eq h)]
  exact ⟨_, rfl, ends_reach_head _ s _ _⟩

/-! ### The STATUS answer (11.2) -/

@[simp] theorem finish_answerSlot (b u : State) : (finish b u).line.answerSlot = u.line.answerSlot :=
  congrArg (·.line.answerSlot) (finish_ends b u).rest

/-- The data of an answer stand behind its header and kind, seven characters. -/
theorem answerBody_drop (own : Nat) (kind : Byte) (data : List Byte) (n : Nat) :
    (answerBody own kind data).drop (7 + n) = data.drop n := by
  rw [← List.drop_drop]; rfl

theorem statusData_spikes (s : State) :
    ((statusData s).drop 8).take 2 = [char8 s.head.a.spikes, char8 s.head.b.spikes] := rfl

theorem statusData_spikeTimes (s : State) :
    ((statusData s).drop 11).take 8 =
      chars32 (s.head.a.lastSpike.getD 0) ++ chars32 (s.head.b.lastSpike.getD 0) := rfl

theorem takesQueries_of_run {s : State} (hconnected : s.line.connected = true) (hrun : s.phase = .run) :
    s.takesQueries = true := by
  simp [State.takesQueries, State.configured, hconnected, hrun]

/-- A STATUS query is answered from the state at its instant, with the frame taken from those handed on (R178). -/
theorem exec_statusQuery_answers (dt : Nat) (parameter : Byte) {s : State} (h : s.takesQueries = true) :
    ∃ t, exec (.statusQuery dt parameter) s = .next t ∧
      t.line.answerSlot =
        some (answerBody s.own 1 (statusData ((s.takeHanded (.query 1 parameter)).pass dt))) := by
  refine ⟨_, onInput_arises (p := (·.takesQueries)) h, ?_⟩
  rw [finish_answerSlot]; rfl

end Sys2Proof.Machine

namespace Sys2Proof.Proofs
open Sys2Proof.Machine

/-- Settles O18: the expiry is an event of the head alone at its instant, a spike leaves the quiet time starting at its
own, and the two pairs of fields are read at their offsets in the STATUS data. -/
theorem spikeQuietTime : Obligations.SpikeQuietTime := by
  refine ⟨?expiry, ?restart, ?status⟩
  case expiry =>
    intro c since s hsince
    obtain ⟨t, hexec, hends⟩ := exec_spikeQuietExpiry_ends hsince
    refine ⟨t, hexec, ?_⟩
    cases c <;> exact hends
  case restart =>
    intro dt c s hconfigured
    obtain ⟨t, hexec, hnow, hhead⟩ := exec_spike_head dt c hconfigured
    refine ⟨t, hexec, ?_⟩
    rw [hhead, takeSpike_channel, HeadChannel.spike_quietSince, State.pass_now, hnow]
  case status =>
    intro dt p s hconnected hrun _
    obtain ⟨t, hexec, hanswer⟩ := exec_statusQuery_answers dt p (takesQueries_of_run hconnected hrun)
    refine ⟨t, _, hexec, hanswer, ?_, ?_⟩
    · rw [answerBody_drop _ _ _ 8, statusData_spikes]; simp [char8]
    · rw [answerBody_drop _ _ _ 11, statusData_spikeTimes]; simp

end Sys2Proof.Proofs
end

section
/-! PROOFS. The own totals (R25): that every command but a filtered change, a power-on and a restart leaves them, and so does
the part's own clock; how a passage that completes advances one of them; and the statement assembled from these. -/

namespace Sys2Proof.Machine

/-! ### The own totals -/

/-- The own totals of the point, TXY first (R25). -/
def State.ownTotals (s : State) : Word16 × Word16 := (s.txy, s.tyx)

theorem ownTotals_eq_iff {s t : State} : t.ownTotals = s.ownTotals ↔ t.txy = s.txy ∧ t.tyx = s.tyx :=
  Prod.ext_iff

@[simp] theorem finish_ownTotals (b u : State) : (finish b u).ownTotals = u.ownTotals :=
  ownTotals_eq_iff.mpr ⟨finish_txy b u, finish_tyx b u⟩

/-- A command of a timer whose event leaves the own totals leaves them. -/
theorem whenDue_ownTotals {due : Option Tick} {s t : State} {f : State → State} (h : whenDue due s f = .next t)
    (hf : ∀ u, (f u).ownTotals = u.ownTotals) : t.ownTotals = s.ownTotals := by
  obtain ⟨-, rfl⟩ | ⟨x, -, rfl⟩ := whenDue_cases h
  · rfl
  · rw [finish_ownTotals, hf]; rfl

/-- A command from outside whose event leaves the own totals leaves them. -/
theorem onInput_ownTotals {dt : Nat} {s t : State} {p : State → Bool} {f : State → State}
    (h : onInput dt s p f = .next t) (hf : ∀ u, (f u).ownTotals = u.ownTotals) : t.ownTotals = s.ownTotals := by
  obtain ⟨-, rfl⟩ | ⟨-, rfl⟩ := onInput_cases h
  · rfl
  · rw [finish_ownTotals, hf]; rfl

/-! ### Causes, lockdown and the start phases -/

@[simp] theorem enterLockdown_ownTotals (cause : LockdownCause) (s : State) :
    (enterLockdown cause s).ownTotals = s.ownTotals := by simp [State.ownTotals]

@[simp] theorem takeReason_ownTotals (s : State) : (takeReason s).ownTotals = s.ownTotals := by simp [State.ownTotals]

@[simp] theorem declareAll_ownTotals (cause : Cause) (s : State) : (declareAll cause s).ownTotals = s.ownTotals := by
  simp [State.ownTotals]

@[simp] theorem judgeAll_ownTotals (s : State) : (judgeAll s).ownTotals = s.ownTotals := rfl

theorem enterRun_ownTotals (s : State) : (enterRun s).ownTotals = s.ownTotals := by
  rw [enterRun, judgeAll_ownTotals, takeReason_ownTotals]; rfl

theorem enterSilence_ownTotals (s : State) : (enterSilence s).ownTotals = s.ownTotals := by
  unfold enterSilence
  dsimp only
  split
  · rw [enterRun_ownTotals]; rfl
  · rfl

theorem execLineLoopTest_ownTotals {dt : Nat} {result : LoopResult} {s t : State}
    (h : execLineLoopTest dt result s = .next t) : t.ownTotals = s.ownTotals := by
  refine onInput_ownTotals h fun u => ?_
  split
  · rfl
  · exact enterLockdown_ownTotals ..

theorem execLaneTest_ownTotals {agree : Bool} {s t : State} (h : execLaneTest agree s = .next t) :
    t.ownTotals = s.ownTotals := by
  refine whenDue_ownTotals h fun u => ?_
  split
  · rfl
  · exact enterLockdown_ownTotals ..

theorem execReadBackTest_ownTotals {readings : List Bool} {s t : State} (h : execReadBackTest readings s = .next t) :
    t.ownTotals = s.ownTotals := by
  refine whenDue_ownTotals h fun u => ?_
  split
  · exact enterSilence_ownTotals u
  · exact enterLockdown_ownTotals ..

theorem execSilenceEnd_ownTotals {s t : State} (h : execSilenceEnd s = .next t) : t.ownTotals = s.ownTotals := by
  refine whenDue_ownTotals h fun u => ?_
  dsimp only
  split
  · cases u.phase with
    | selfTest | silence => exact takeReason_ownTotals _
    | configRead | configHalt | run => rfl
  · split
    · exact enterRun_ownTotals _
    · rfl

theorem execClockCheckPeriodEnd_ownTotals {measured : Nat} {s t : State}
    (h : execClockCheckPeriodEnd measured s = .next t) : t.ownTotals = s.ownTotals := by
  refine whenDue_ownTotals h fun u => ?_
  dsimp only
  split
  · exact enterLockdown_ownTotals ..
  · rfl

theorem judgeCounts_ownTotals (s : State) : (judgeCounts s).ownTotals = s.ownTotals := by simp [State.ownTotals]

/-! ### The head -/

theorem execSpike_ownTotals {dt : Nat} {c : Channel} {s t : State} (h : execSpike dt c s = .next t) :
    t.ownTotals = s.ownTotals := by
  refine onInput_ownTotals h fun u => ?_
  split
  · rw [judgeAll_ownTotals, declareAll_ownTotals]; rfl
  · rfl

/-- A passage that a fault of the head drops is not counted (R19, R25). -/
theorem failHead_ownTotals (s : State) : (failHead s).ownTotals = s.ownTotals := by simp [State.ownTotals]

theorem execHeadFault_ownTotals {c : Channel} {s t : State} (h : execHeadFault c s = .next t) :
    t.ownTotals = s.ownTotals := by
  refine whenDue_ownTotals h fun u => ?_
  split
  · rfl
  · rw [judgeAll_ownTotals, declareAll_ownTotals, failHead_ownTotals]

/-! ### The line and its frames -/

theorem takeVerdict_ownTotals (v : Verdict) (s : State) : (takeVerdict v s).ownTotals = s.ownTotals := by
  cases v with
  | notJudged | invalid => rfl
  | valid body =>
    obtain ⟨counted, rfl, ⟨-, h⟩ | ⟨-, -, h⟩ | ⟨-, frame, -, h⟩⟩ := receiveFrame_cases body s <;>
      rw [show takeVerdict (.valid body) s = receiveFrame body s from rfl, h]
    · rw [enterLockdown_ownTotals]; rfl
    · rfl
    · rfl

theorem execReceptionIdle_ownTotals {dt : Nat} {burst : List LineChar} {s t : State}
    (h : execReceptionIdle dt burst s = .next t) : t.ownTotals = s.ownTotals := by
  unfold execReceptionIdle at h
  refine (onInput_ownTotals h fun u => ?_).trans (by split <;> rfl)
  split
  · rfl
  · exact takeVerdict_ownTotals ..

theorem execLineWin_ownTotals {laneQDiffers : Bool} {s t : State} (h : execLineWin laneQDiffers s = .next t) :
    t.ownTotals = s.ownTotals := by
  refine whenDue_ownTotals h fun u => ?_
  unfold compareCopies
  split <;> rfl

theorem dropFrame_ownTotals (s : State) : (dropFrame s).ownTotals = s.ownTotals := by
  have htold : (telegramDropped (leaveService (countDrop s))).ownTotals = s.ownTotals := by simp [State.ownTotals]
  unfold dropFrame
  dsimp only
  split <;> split
  · rw [declareAll_ownTotals, htold]
  · rw [declareAll_ownTotals]; rfl
  · exact htold
  · rfl

theorem execCollision_ownTotals {character : Nat} {s t : State} (h : execCollision character s = .next t) :
    t.ownTotals = s.ownTotals := by
  refine whenDue_ownTotals h fun u => ?_
  dsimp only
  split
  · exact dropFrame_ownTotals _
  · rfl

theorem execAttemptCompletion_ownTotals {s t : State} (h : execAttemptCompletion s = .next t) :
    t.ownTotals = s.ownTotals := by
  refine whenDue_ownTotals h fun u => ?_
  dsimp only
  split <;> rfl

theorem execHeartbeatExpiry_ownTotals {s t : State} (h : execHeartbeatExpiry s = .next t) :
    t.ownTotals = s.ownTotals := by
  refine whenDue_ownTotals h fun u => ?_
  dsimp only
  split
  · exact takeReason_ownTotals _
  · rfl

/-- A peer's telegram changes the totals its record holds, never the own ones (R25, R88). -/
theorem acceptTelegram_ownTotals (r : PeerRecord) (j : Judgement) (tel : Telegram) (order : TakingOrder) (s : State) :
    (acceptTelegram r j tel order s).ownTotals = s.ownTotals := by
  unfold acceptTelegram
  dsimp only
  split <;> simp [State.ownTotals]

theorem judgeTelegram_ownTotals (r : PeerRecord) (tel : Telegram) (order : TakingOrder) (s : State) :
    (judgeTelegram r tel order s).ownTotals = s.ownTotals := by
  unfold judgeTelegram
  split
  · split
    · rfl
    · exact acceptTelegram_ownTotals ..
  · rfl

theorem execCountTelegram_ownTotals {dt : Nat} {tel : Telegram} {order : TakingOrder} {s t : State}
    (h : execCountTelegram dt tel order s = .next t) : t.ownTotals = s.ownTotals := by
  unfold execCountTelegram at h
  refine (onInput_ownTotals h fun u => ?_).trans rfl
  split
  · exact judgeTelegram_ownTotals ..
  · rfl

/-! ### Queries -/

/-- A query leaves the own totals if its answer does. -/
theorem onQuery_ownTotals {dt : Nat} {kind parameter : Byte} {s t : State} {f : State → State}
    (h : onQuery dt kind parameter s f = .next t) (hf : ∀ u, (f u).ownTotals = u.ownTotals) :
    t.ownTotals = s.ownTotals :=
  (onInput_ownTotals h hf).trans rfl

/-- A refusal places an answer and no more, so that the answer given in range decides (R178). -/
theorem judgeQuery_ownTotals {kind : Byte} {inRange : Bool} {answer : State → State} {s : State}
    (h : (answer s).ownTotals = s.ownTotals) : (judgeQuery kind inRange answer s).ownTotals = s.ownTotals := by
  unfold judgeQuery
  split
  · rfl
  · exact h

theorem execSectionQuery_ownTotals {dt : Nat} {parameter : Byte} {s t : State}
    (h : execSectionQuery dt parameter s = .next t) : t.ownTotals = s.ownTotals := by
  refine onQuery_ownTotals h fun u => judgeQuery_ownTotals ?_
  unfold answerSection
  split <;> rfl

theorem execQueryOfUnknownKind_ownTotals {dt : Nat} {kind parameter : Byte} {s t : State}
    (h : execQueryOfUnknownKind dt kind parameter s = .next t) : t.ownTotals = s.ownTotals := by
  rw [execQueryOfUnknownKind_eq] at h
  split at h
  · cases h; rfl
  · exact onQuery_ownTotals h fun _ => rfl

/-! ### The operator lines -/

theorem refuseConfirmation_ownTotals (i : Fin 4) (s : State) : (refuseConfirmation i s).ownTotals = s.ownTotals := by
  simp [State.ownTotals]

theorem confirm_ownTotals (i : Fin 4) (kind : ResetKind) (s : State) : (confirm i kind s).ownTotals = s.ownTotals := by
  unfold confirm
  split
  · split
    · exact refuseConfirmation_ownTotals i s
    · rfl
  · rfl

theorem judgeEdge_ownTotals (cfs cfd : Bool) (s : State) : (judgeEdge cfs cfd s).ownTotals = s.ownTotals := by
  unfold judgeEdge
  split
  · rfl
  · cases cfs <;> cases cfd
    · exact refuseConfirmation_ownTotals ..
    · exact confirm_ownTotals ..
    · exact confirm_ownTotals ..
    · exact refuseConfirmation_ownTotals ..

/-- A demand takes the own totals as its base and leaves them (R135). -/
theorem takeOperatorSample_ownTotals (levels : OperatorLevels) (s : State) :
    (takeOperatorSample levels s).ownTotals = s.ownTotals := by
  unfold takeOperatorSample
  dsimp only
  split
  · rw [judgeEdge_ownTotals]; rfl
  · rfl

/-! ### Every other command -/

/-- A power-on starts with both own totals 0, and so does a restart that is taken (R25). -/
theorem exec_ownTotals_of_starts {c : Instr} {s t : State} (hstarts : Starts c) (h : exec c s = .next t) :
    t.ownTotals = s.ownTotals ∨ t.ownTotals = (0, 0) := by
  cases c with
  | powerOn active => cases h; exact .inr rfl
  | restart =>
    dsimp only [exec, execRestart] at h
    split at h <;> cases h
    · exact .inl rfl
    · exact .inr rfl
  | _ => exact hstarts.elim

/-- A command that neither starts the part afresh nor brings a filtered change leaves the own totals (R25). -/
theorem exec_ownTotals {c : Instr} {s t : State} (hstarts : ¬Starts c)
    (hfiltered : ∀ dt a b, c ≠ .filteredChange dt a b) (h : exec c s = .next t) : t.ownTotals = s.ownTotals := by
  cases c with
  | powerOn | restart => exact absurd trivial hstarts
  | filteredChange dt a b => exact absurd rfl (hfiltered dt a b)
  | restartRelease | healthLevelChange | deferral =>
    dsimp only [exec, execRestartRelease, execHealthLevelChange, execDeferral] at h
    exact onInput_ownTotals h fun _ => rfl
  | stationTimeWrap | spikeQuietExpiry | headRecovery | lineIdle | spacingEnd | lampPatternStep | statusLineToggle
  | refusalPatternStep =>
    dsimp only [exec, execStationTimeWrap, execSpikeQuietExpiry, execHeadRecovery, execLineIdle, execSpacingEnd,
      execLampPatternStep, execStatusLineToggle, execRefusalPatternStep] at h
    exact whenDue_ownTotals h fun _ => rfl
  | peerStale | settledTimeExpiry | confirmExpiry | selection | selectionTimeout | windowExpiry | lingerEnd
  | coolDownEnd =>
    dsimp only [exec, execPeerStale, execSettledTimeExpiry, execConfirmExpiry, execSelection, execSelectionTimeout,
      execWindowExpiry, execLingerEnd, execCoolDownEnd] at h
    exact whenDue_ownTotals h fun _ => rfl
  | configReadEnd =>
    dsimp only [exec, execConfigReadEnd] at h
    exact onInput_ownTotals h fun u => by split <;> rfl
  | lineLoopTest => exact execLineLoopTest_ownTotals h
  | laneTest => exact execLaneTest_ownTotals h
  | readBackTest => exact execReadBackTest_ownTotals h
  | silenceEnd => exact execSilenceEnd_ownTotals h
  | spike => exact execSpike_ownTotals h
  | headFault => exact execHeadFault_ownTotals h
  | receptionIdle => exact execReceptionIdle_ownTotals h
  | countTelegram => exact execCountTelegram_ownTotals h
  | statusQuery => exact onQuery_ownTotals h fun _ => rfl
  | sectionQuery => exact execSectionQuery_ownTotals h
  | peersQuery | logQuery | clearDiag => exact onQuery_ownTotals h fun _ => judgeQuery_ownTotals rfl
  | queryOfUnknownKind => exact execQueryOfUnknownKind_ownTotals h
  | lineWin => exact execLineWin_ownTotals h
  | collision => exact execCollision_ownTotals h
  | attemptCompletion => exact execAttemptCompletion_ownTotals h
  | heartbeatExpiry => exact execHeartbeatExpiry_ownTotals h
  | lockdownTelegramTimer =>
    dsimp only [exec, execLockdownTelegramTimer] at h
    exact whenDue_ownTotals h fun _ => takeReason_ownTotals _
  | peerLost | negativeBalance =>
    dsimp only [exec, execPeerLost, execNegativeBalance] at h
    exact whenDue_ownTotals h fun _ => by simp [State.ownTotals]
  | debouncedLevelChange | confirmSweep | confirmDirect =>
    dsimp only [exec, execDebouncedLevelChange, execConfirmSweep, execConfirmDirect] at h
    exact onInput_ownTotals h fun _ => takeOperatorSample_ownTotals ..
  | laneMismatch =>
    dsimp only [exec, execLaneMismatch] at h
    exact whenDue_ownTotals h fun _ => enterLockdown_ownTotals ..
  | clockCheckPeriodEnd => exact execClockCheckPeriodEnd_ownTotals h
  | halfPeriodTick | tickWatchExpiry =>
    dsimp only [exec, execHalfPeriodTick, execTickWatchExpiry] at h
    exact whenDue_ownTotals h fun _ => judgeCounts_ownTotals _
  | alarmPatternStep =>
    dsimp only [exec, execAlarmPatternStep] at h
    exact whenDue_ownTotals h fun u => by split <;> rfl

/-! ### The part's own clock -/

theorem raiseOne_ownTotals (events : List TimedEvent) (s : State) : (raiseOne events s).ownTotals = s.ownTotals := by
  unfold raiseOne
  split <;> rfl

theorem sampleHead_ownTotals (s : State) : (sampleHead s).1.ownTotals = s.ownTotals := by
  unfold sampleHead
  split <;> rfl

theorem sampleOperator_ownTotals (s : State) : (sampleOperator s).1.ownTotals = s.ownTotals := by
  unfold sampleOperator
  split <;> rfl

theorem sampleRestart_ownTotals (s : State) : (sampleRestart s).1.ownTotals = s.ownTotals := by
  unfold sampleRestart
  split <;> rfl

theorem raiseSampled_ownTotals (events : List Instr) (s : State) : (raiseSampled events s).ownTotals = s.ownTotals := by
  unfold raiseSampled
  split <;> rfl

theorem noteRuns_ownTotals (b s : State) : (noteRuns b s).ownTotals = s.ownTotals := by simp [State.ownTotals]

/-- A sample lengthens runs and raises events; what these do to the own totals follows when they are taken (R2, R25). -/
theorem sample_ownTotals (s : State) : (sample s).ownTotals = s.ownTotals := by
  rw [sample, raiseSampled_ownTotals, noteRuns_ownTotals, sampleRestart_ownTotals, sampleOperator_ownTotals,
    sampleHead_ownTotals]
  rfl

/-- With no command waiting the part leaves the own totals (R25). -/
theorem idle_ownTotals (s : State) : (idle s).ownTotals = s.ownTotals := by
  unfold idle
  split
  · rfl
  · split
    · exact sample_ownTotals s
    · rfl
    · unfold sampleOrRaise
      split
      · exact sample_ownTotals _
      · exact raiseOne_ownTotals ..
    · exact raiseOne_ownTotals ..

/-! ### A passage that completes (R12, R13, R17, R18) -/

/-- The state from which a passage in this direction completes (R12, R13). -/
def Direction.last : Direction → Automaton
  | .xy => .x3
  | .yx => .y3

/-- The own totals after a count in this direction (R25). -/
def Direction.advance : Direction → Word16 × Word16 → Word16 × Word16
  | .xy, (txy, tyx) => (txy + 1, tyx)
  | .yx, (txy, tyx) => (txy, tyx + 1)

/-- From `s` to `t` a plausible passage in this direction has completed, with the head COUNTING outside lockdown, and is
counted and logged (R17, R18, R25). -/
structure CountsPassage (direction : Direction) (s t : State) : Prop where
  counting : s.head.state = .counting
  unlocked : s.lockdown = false
  last : s.detector.state = direction.last
  plausible : s.spacing * 3 ≤ 5 * s.detector.trail.getD 0
  idle : t.detector.state = .idle
  totals : t.ownTotals = direction.advance s.ownTotals
  entry : t.log.getLast?.map (·.kind) = some direction.logKind

@[simp] theorem count_ownTotals (direction : Direction) (s : State) :
    (count direction s).ownTotals = direction.advance s.ownTotals := by cases direction <;> rfl

theorem logPassage_getLast? (kind : LogKind) (speed : Nat) (rocked : Bool) (s : State) :
    (logPassage kind speed rocked s).log.getLast?.map (·.kind) = some kind := by
  simp [logPassage, appendEntry]

theorem implausible_eq_false {spacing skew : Nat} : implausible spacing skew = false ↔ spacing * 3 ≤ 5 * skew := by
  simp [implausible]

theorem State.follows_iff {s : State} : s.follows = true ↔ s.head.state = .counting ∧ s.lockdown = false := by
  simp [State.follows]

/-- The check in UNRESOLVED completes no passage (R16). -/
theorem Detector.checkUnresolved_ne_completes (ticks : Nat) (a b : Bool) (d : Detector) (direction : Direction)
    (skew : Nat) (rocked : Bool) : (d.checkUnresolved ticks a b).2 ≠ .completes direction skew rocked := by
  unfold Detector.checkUnresolved
  split <;> simp

/-- A change of channel A completes a passage from Y3 alone, in direction YX (R13). -/
theorem Detector.changeA_cases (now ticks : Nat) (a b : Bool) (d : Detector) :
    (d.state = .y3 ∧ d.changeA now ticks a b = d.complete ticks .yx) ∨
      ∀ direction skew rocked, (d.changeA now ticks a b).2 ≠ .completes direction skew rocked := by
  obtain ⟨state, leadAt, heldCount, trail, rocked⟩ := d
  cases state with
  | y3 =>
    cases a
    · exact .inl ⟨rfl, rfl⟩
    · exact .inr fun _ _ _ => nofun
  | unresolved => exact .inr (Detector.checkUnresolved_ne_completes ticks a b _)
  | idle | x1 | x2 | x3 | y1 | y2 => cases a <;> exact .inr fun _ _ _ => nofun

/-- A change of channel B completes a passage from X3 alone, in direction XY (R12). -/
theorem Detector.changeB_cases (now ticks : Nat) (a b : Bool) (d : Detector) :
    (d.state = .x3 ∧ d.changeB now ticks a b = d.complete ticks .xy) ∨
      ∀ direction skew rocked, (d.changeB now ticks a b).2 ≠ .completes direction skew rocked := by
  obtain ⟨state, leadAt, heldCount, trail, rocked⟩ := d
  cases state with
  | x3 =>
    cases b
    · exact .inl ⟨rfl, rfl⟩
    · exact .inr fun _ _ _ => nofun
  | unresolved => exact .inr (Detector.checkUnresolved_ne_completes ticks a b _)
  | idle | x1 | x2 | y3 | y1 | y2 => cases b <;> exact .inr fun _ _ _ => nofun

/-- The changes of one sample complete a passage from the last state of its direction, or none (R9, R12, R13). -/
theorem Detector.take_cases (now ticks : Nat) (changedA changedB a b : Bool) (d : Detector) :
    (∃ direction : Direction, d.state = direction.last ∧
      d.take now ticks changedA changedB a b = d.complete ticks direction) ∨
      ∀ direction skew rocked, (d.take now ticks changedA changedB a b).2 ≠ .completes direction skew rocked := by
  cases changedA <;> cases changedB
  · exact .inr fun _ _ _ => nofun
  · exact (d.changeB_cases now ticks a b).imp_left fun h => ⟨.xy, h⟩
  · exact (d.changeA_cases now ticks a b).imp_left fun h => ⟨.yx, h⟩
  · exact .inr (d.checkUnresolved_ne_completes ticks a b)

/-- The fall of the direction's trailing channel completes the passage in its last state (R12, R13). -/
theorem Detector.take_of_last {direction : Direction} {d : Detector} {a b : Bool} (h : d.state = direction.last)
    (ha : a = false) (hb : b = false) (now ticks : Nat) :
    d.take now ticks (direction == .yx) (direction == .xy) a b = d.complete ticks direction := by
  subst ha hb
  cases direction <;> simp only [Direction.last] at h
  · have hchange : d.changeB now ticks false false = d.complete ticks .xy := by simp [Detector.changeB, h]
    exact hchange
  · have hchange : d.changeA now ticks false false = d.complete ticks .yx := by simp [Detector.changeA, h]
    exact hchange

/-- The end of a passage that does not complete is no count (R13, R16). -/
theorem endPassage_ownTotals {ending : Ending} (h : ∀ direction skew rocked, ending ≠ .completes direction skew rocked)
    (s : State) : (endPassage ending s).ownTotals = s.ownTotals := by
  cases ending with
  | goesOn | drawnBack => rfl
  | completes direction skew rocked => exact absurd rfl (h direction skew rocked)
  | unresolved rocked =>
    simp only [endPassage, judgeAll_ownTotals, declareAll_ownTotals]; rfl

/-- An implausible passage is no count (R18). -/
theorem endPassage_of_implausible {direction : Direction} {skew : Nat} {rocked : Bool} {s : State}
    (h : implausible s.spacing skew = true) : (endPassage (.completes direction skew rocked) s).ownTotals = s.ownTotals := by
  simp only [endPassage, h, if_true, judgeAll_ownTotals, declareAll_ownTotals]; rfl

/-- A plausible passage is counted, behind its log entry (R18). -/
theorem endPassage_of_plausible {direction : Direction} {skew : Nat} {rocked : Bool} {s : State}
    (h : implausible s.spacing skew = false) : endPassage (.completes direction skew rocked) s =
      count direction (logPassage direction.logKind (passageSpeed s.spacing skew) rocked s) := by
  simp [endPassage, h]

/-- The sample that completes a passage counts it, if it is plausible, with the head COUNTING outside lockdown. -/
theorem followPassage_counts {direction : Direction} {a b : Bool} {s : State} (hfollows : s.follows = true)
    (hlast : s.detector.state = direction.last)
    (htake : s.detector.take s.now s.passageTicks a b s.head.a.level s.head.b.level =
      s.detector.complete s.passageTicks direction)
    (hplausible : s.spacing * 3 ≤ 5 * s.detector.trail.getD 0) : CountsPassage direction s (followPassage a b s) := by
  obtain ⟨hcounting, hunlocked⟩ := State.follows_iff.mp hfollows
  have hresult : followPassage a b s = endPassage (.completes direction (s.detector.trail.getD 0) s.detector.rocked)
      { s with detector := s.detector.toIdle s.passageTicks } := by
    rw [followPassage, if_pos hfollows, htake]; rfl
  rw [hresult, endPassage_of_plausible (implausible_eq_false.mpr (by exact hplausible))]
  refine ⟨hcounting, hunlocked, hlast, hplausible, ?idle, ?totals, ?entry⟩
  case idle => rw [count_detector]; rfl
  case totals => rw [count_ownTotals]; rfl
  case entry => rw [count_log, logPassage_getLast?]

/-- The changes of one sample leave the own totals or count one passage (R18, R25). -/
theorem followPassage_cases (a b : Bool) (s : State) :
    (followPassage a b s).ownTotals = s.ownTotals ∨
      ∃ direction, CountsPassage direction s (followPassage a b s) := by
  by_cases hfollows : s.follows = true
  case neg => exact .inl (by rw [followPassage, if_neg hfollows])
  obtain ⟨direction, hlast, htake⟩ | hnone :=
    s.detector.take_cases s.now s.passageTicks a b s.head.a.level s.head.b.level
  · by_cases hplausible : s.spacing * 3 ≤ 5 * s.detector.trail.getD 0
    · exact .inr ⟨direction, followPassage_counts hfollows hlast htake hplausible⟩
    · refine .inl ?_
      rw [followPassage, if_pos hfollows, htake]
      exact endPassage_of_implausible (by rwa [← implausible_eq_false, Bool.not_eq_false] at hplausible)
  · refine .inl ?_
    rw [followPassage, if_pos hfollows]
    exact endPassage_ownTotals hnone _

/-! ### A filtered change (R2) -/

/-- A count stands between the state before a filtered change and the end of its event: time, the head's filtered levels
and the lanes are no part of it. -/
theorem CountsPassage.of_event {direction : Direction} {a b : Bool} {s w u : State} (dt : Nat) (x : Tick)
    (hw : w = takeFiltered a b (((s.wait dt).upTo x).pass 0)) (h : CountsPassage direction w u) (before : State) :
    CountsPassage direction s (finish before u) := by
  subst hw
  obtain ⟨hcounting, hunlocked, hlast, hplausible, hidle, htotals, hentry⟩ := h
  exact ⟨hcounting, hunlocked, hlast, hplausible, by rwa [finish_detector], by rwa [finish_ownTotals],
    by rwa [finish_log]⟩

/-- A filtered change leaves the own totals or counts one passage (R18, R25). -/
theorem exec_filteredChange_cases {dt : Nat} {a b : Bool} {s t : State} (h : exec (.filteredChange dt a b) s = .next t) :
    t.ownTotals = s.ownTotals ∨ ∃ direction, CountsPassage direction s t := by
  dsimp only [exec, execFilteredChange] at h
  obtain ⟨-, rfl⟩ | ⟨-, rfl⟩ := onInput_cases h
  · exact .inl rfl
  · obtain hkept | ⟨direction, hcounts⟩ := followPassage_cases a b (takeFiltered a b (State.pass 0 _))
    · exact .inl (by rw [finish_ownTotals, hkept]; rfl)
    · exact .inr ⟨direction, hcounts.of_event dt _ rfl _⟩

/-- The filtered change that completes a plausible passage counts it, in every phase with a configuration (R25). -/
theorem exec_filteredChange_counts {direction : Direction} {s : State} (dt : Nat) (hconfigured : s.configured = true)
    (hfollows : s.follows = true) (hlast : s.detector.state = direction.last)
    (hplausible : s.spacing * 3 ≤ 5 * s.detector.trail.getD 0)
    (ha : (s.head.a.change (direction == .yx)).level = false)
    (hb : (s.head.b.change (direction == .xy)).level = false) :
    ∃ t, exec (.filteredChange dt (direction == .yx) (direction == .xy)) s = .next t ∧
      CountsPassage direction s t := by
  dsimp only [exec, execFilteredChange]
  refine ⟨_, onInput_arises ?arises, CountsPassage.of_event dt _ rfl (followPassage_counts hfollows hlast ?take hplausible) _⟩
  case arises => cases direction <;> exact (Bool.and_true _).trans hconfigured
  case take => exact Detector.take_of_last hlast ha hb _ _

/-! ### Every step -/

/-- What a step does to the own totals: nothing, or a power-on or restart sets both to 0, or a filtered change counts one
passage (R25). -/
theorem step_ownTotals {s t : State} (h : step s = .next t) :
    t.ownTotals = s.ownTotals ∨ ((∃ c rest, s.pending = c :: rest ∧ Starts c) ∧ t.ownTotals = (0, 0)) ∨
      ∃ direction, CountsPassage direction s t := by
  unfold step at h
  split at h
  next c rest hpending =>
    by_cases hstarts : Starts c
    · exact (exec_ownTotals_of_starts hstarts h).imp id fun hzero => .inl ⟨⟨c, rest, hpending, hstarts⟩, hzero⟩
    by_cases hfiltered : ∃ dt a b, c = .filteredChange dt a b
    · obtain ⟨dt, a, b, rfl⟩ := hfiltered
      refine (exec_filteredChange_cases h).imp id fun ⟨direction, hcounts⟩ => .inr ⟨direction, ?_⟩
      exact ⟨hcounts.counting, hcounts.unlocked, hcounts.last, hcounts.plausible, hcounts.idle, hcounts.totals,
        hcounts.entry⟩
    · exact .inl ((exec_ownTotals hstarts (fun dt a b hc => hfiltered ⟨dt, a, b, hc⟩) h).trans rfl)
  next => cases h; exact .inl (idle_ownTotals s)

end Sys2Proof.Machine

namespace Sys2Proof.Proofs
open Sys2Proof.Machine

/-- Settles O51: a step leaves the own totals but for a start and a filtered change, whose automaton completes a passage
from X3 or Y3 alone; the levels of the converse are those with which it completes. -/
theorem totalsChangeByCountsOnly : Obligations.TotalsChangeByCountsOnly := by
  refine ⟨?step, ?powerOn, ?restart, ?counts⟩
  case step =>
    intro s t h
    obtain hkept | ⟨hstarts, hzero⟩ | ⟨direction, hcounts⟩ := step_ownTotals h
    · exact .inl (ownTotals_eq_iff.mp hkept)
    · exact .inr (.inl ⟨hstarts, Prod.ext_iff.mp hzero⟩)
    · obtain ⟨hcounting, hunlocked, hlast, hplausible, hidle, htotals, hentry⟩ := hcounts
      refine .inr (.inr ⟨hcounting, hunlocked, hidle, hplausible, ?_⟩)
      cases direction <;> obtain ⟨htxy, htyx⟩ := Prod.ext_iff.mp htotals
      · exact .inl ⟨hlast, htxy, htyx, hentry⟩
      · exact .inr ⟨hlast, htyx, htxy, hentry⟩
  case powerOn => exact fun s active => ⟨_, rfl, rfl, rfl⟩
  case restart =>
    intro s hreleased
    have hexec : exec .restart s = execRestart s := rfl
    rw [hexec, execRestart, hreleased]
    exact ⟨_, rfl, rfl, rfl⟩
  case counts =>
    intro dt skew s direction hconfigured hcounting hunlocked htrail hplausible hpassing
    have hfollows : s.follows = true := State.follows_iff.mpr ⟨hcounting, hunlocked⟩
    have hskew : s.spacing * 3 ≤ 5 * s.detector.trail.getD 0 := by rwa [htrail]
    cases direction <;> obtain ⟨hlast, ha, hb⟩ := hpassing
    case xy =>
      obtain ⟨t, hexec, hcounts⟩ := exec_filteredChange_counts (direction := .xy) dt hconfigured hfollows hlast hskew
        (by simp [HeadChannel.change, HeadChannel.level, ha]) (by simp [HeadChannel.change, HeadChannel.level, hb])
      exact ⟨t, hexec, Prod.ext_iff.mp hcounts.totals⟩
    case yx =>
      obtain ⟨t, hexec, hcounts⟩ := exec_filteredChange_counts (direction := .yx) dt hconfigured hfollows hlast hskew
        (by simp [HeadChannel.change, HeadChannel.level, ha]) (by simp [HeadChannel.change, HeadChannel.level, hb])
      exact ⟨t, hexec, (Prod.ext_iff.mp hcounts.totals).symm⟩

end Sys2Proof.Proofs
end

section
/-! PROOFS. Lockdown (R162, R163): what a second cause does; that every command but a start, and the part's own clock,
leaves the condition and what stands in it; that a restart and a power-on put every block at its start value; and the
statements assembled from these. -/

namespace Sys2Proof.Machine

/-! ### A cause taken in lockdown, and out of it (R161, R163) -/

theorem enterLockdown_of_lockdown {cause : LockdownCause} {s : State} (h : s.lockdown = true) :
    enterLockdown cause s = s := if_pos h

@[simp] theorem enterLockdown_lockdown (cause : LockdownCause) (s : State) :
    (enterLockdown cause s).lockdown = true := by
  unfold enterLockdown
  split
  · assumption
  · simp

theorem enterLockdown_lockdownRecord {cause : LockdownCause} {s : State} (h : s.lockdown = false) :
    (enterLockdown cause s).lockdownRecord = some { cause := cause, time := s.stationTime } := by
  simp [enterLockdown, h]

/-! ### What stands in lockdown (R161, R162) -/

/-- What no event in lockdown changes: the lockdown record, the start phase, the own totals, the log and every slot's
disturbance record. -/
structure Standing where
  lockdownRecord : Option LockdownRecord
  phase : Phase
  txy : Word16
  tyx : Word16
  log : List LogEntry
  records : List DisturbanceRecord

def State.standing (s : State) : Standing :=
  { lockdownRecord := s.lockdownRecord, phase := s.phase, txy := s.txy, tyx := s.tyx, log := s.log,
    records := s.slots.map (·.record) }

/-- From `s` to `t` the lockdown condition stays as it is, and in lockdown so does what stands in it, and an automaton that
is IDLE. -/
structure KeepsLockdown (s t : State) : Prop where
  condition : t.lockdown = s.lockdown
  standing : s.lockdown = true → t.standing = s.standing
  idle : s.lockdown = true → s.detector.state = .idle → t.detector.state = .idle

namespace KeepsLockdown

theorem refl (s : State) : KeepsLockdown s s := ⟨rfl, fun _ => rfl, fun _ h => h⟩

theorem trans {s t u : State} (h : KeepsLockdown s t) (h' : KeepsLockdown t u) : KeepsLockdown s u where
  condition := h'.condition.trans h.condition
  standing hlocked := (h'.standing (h.condition.trans hlocked)).trans (h.standing hlocked)
  idle hlocked hidle := h'.idle (h.condition.trans hlocked) (h.idle hlocked hidle)

/-- An operation that leaves the condition, what stands in lockdown, and the automaton, in lockdown or not. -/
theorem of_eq {s t : State} (hcondition : t.lockdown = s.lockdown) (hstanding : t.standing = s.standing)
    (hdetector : t.detector = s.detector) : KeepsLockdown s t :=
  ⟨hcondition, fun _ => hstanding, fun _ h => hdetector ▸ h⟩

/-- Such an operation, and behind it one that keeps lockdown. -/
theorem from_eq {s t u : State} (h : KeepsLockdown t u) (hcondition : t.lockdown = s.lockdown)
    (hstanding : t.standing = s.standing) (hdetector : t.detector = s.detector) : KeepsLockdown s u :=
  (of_eq hcondition hstanding hdetector).trans h

/-- An operation that in lockdown does nothing. -/
theorem of_unchanged {s t : State} (hcondition : t.lockdown = s.lockdown) (h : s.lockdown = true → t = s) :
    KeepsLockdown s t where
  condition := hcondition
  standing hlocked := by rw [h hlocked]
  idle hlocked hidle := by rwa [h hlocked]

/-- Out of lockdown only the condition has to stay as it is. -/
theorem of_locked {s t : State} (hcondition : t.lockdown = s.lockdown)
    (h : s.lockdown = true → KeepsLockdown s t) : KeepsLockdown s t :=
  ⟨hcondition, fun hlocked => (h hlocked).standing hlocked, fun hlocked => (h hlocked).idle hlocked⟩

end KeepsLockdown

/-- A cause taken in lockdown changes nothing (R163). -/
theorem enterLockdown_keepsLockdown {cause : LockdownCause} {s : State} (h : s.lockdown = true) :
    KeepsLockdown s (enterLockdown cause s) := by
  rw [enterLockdown_of_lockdown h]; exact .refl s

@[simp] theorem finish_standing (b u : State) : (finish b u).standing = u.standing := by simp [State.standing]

theorem finish_keepsLockdown (b u : State) : KeepsLockdown u (finish b u) :=
  .of_eq (finish_lockdown b u) (finish_standing b u) (finish_detector b u)

/-- A command of a timer keeps what its event keeps, which finds the lockdown condition as the command does. -/
theorem whenDue_keepsLockdown {due : Option Tick} {s t : State} {f : State → State} (h : whenDue due s f = .next t)
    (hf : ∀ u, u.lockdown = s.lockdown → KeepsLockdown u (f u)) : KeepsLockdown s t := by
  obtain ⟨-, rfl⟩ | ⟨x, -, rfl⟩ := whenDue_cases h
  · exact .refl _
  · have hreach : KeepsLockdown s (s.reach x) := .of_eq rfl rfl rfl
    exact hreach.trans ((hf (s.reach x) rfl).trans (finish_keepsLockdown ..))

/-- A command from outside keeps what its event keeps where it can arise. -/
theorem onInput_keepsLockdown {dt : Nat} {s t : State} {p : State → Bool} {f : State → State}
    (h : onInput dt s p f = .next t)
    (hf : ∀ u, u.lockdown = s.lockdown → p u = true → KeepsLockdown u (f u)) : KeepsLockdown s t := by
  have hpass : KeepsLockdown s (s.pass dt) := .of_eq rfl rfl rfl
  obtain ⟨-, rfl⟩ | ⟨harises, rfl⟩ := onInput_cases h
  · exact hpass
  · exact hpass.trans ((hf (s.pass dt) rfl harises).trans (finish_keepsLockdown ..))

/-! ### The records of the slots -/

theorem map_records {f : Slot → Slot} (hf : ∀ sl, (f sl).record = sl.record) (slots : List Slot) :
    (slots.map f).map (·.record) = slots.map (·.record) := by
  simp [hf]

theorem mapIdx_records {f : Nat → Slot → Slot} (hf : ∀ i sl, (f i sl).record = sl.record) (slots : List Slot) :
    (slots.mapIdx f).map (·.record) = slots.map (·.record) := by
  apply List.ext_getElem?
  simp [Function.comp_def, hf]

theorem modify_records {f : Slot → Slot} (hf : ∀ sl, (f sl).record = sl.record) (i : Nat) (slots : List Slot) :
    (slots.modify i f).map (·.record) = slots.map (·.record) := by
  apply List.ext_getElem?
  intro j
  by_cases h : i = j <;> simp [h, Function.comp_def, hf]

/-- Changes of slots alone that leave every record keep lockdown. -/
theorem KeepsLockdown.of_records {s : State} {slots : List Slot}
    (h : slots.map (·.record) = s.slots.map (·.record)) : KeepsLockdown s { s with slots := slots } :=
  .of_eq rfl (by simp [State.standing, h]) rfl

theorem modifySlot_keepsLockdown {f : Slot → Slot} (hf : ∀ sl, (f sl).record = sl.record) (i : Fin 4) (s : State) :
    KeepsLockdown s (s.modifySlot i f) :=
  .of_records (modify_records hf i.val s.slots)

/-- A judgement of the clearing conditions moves a slot, and is no cause (R112, R155). -/
@[simp] theorem judge_record (s : State) (totalChanged : Bool) (sl : Slot) :
    (judge s totalChanged sl).record = sl.record := by
  obtain h | ⟨-, -, h⟩ | ⟨-, -, -, h⟩ | ⟨-, -, h⟩ :=
    judgeClearing_cases s.now (s.clearingConditions sl) totalChanged sl <;> rw [judge, h] <;> rfl

theorem judgeSlots_keepsLockdown (p : Slot → Bool) (s : State) : KeepsLockdown s (judgeSlots p s) :=
  .of_records (map_records (fun sl => by split <;> simp) s.slots)

theorem judgeAll_keepsLockdown (s : State) : KeepsLockdown s (judgeAll s) := judgeSlots_keepsLockdown ..

/-! ### Causes (R152): in lockdown they are not applied -/

theorem declareAll_keepsLockdown (cause : Cause) (s : State) : KeepsLockdown s (declareAll cause s) :=
  .of_unchanged (declareAll_lockdown cause s) fun h => if_pos h

theorem declareUsing_keepsLockdown (cause : Cause) (peer : Nat) (s : State) :
    KeepsLockdown s (declareUsing cause peer s) :=
  .of_unchanged (declareUsing_lockdown cause peer s) fun h => if_pos h

theorem declareAt_keepsLockdown (cause : Cause) (i : Fin 4) (s : State) : KeepsLockdown s (declareAt cause i s) :=
  .of_unchanged (declareAt_lockdown cause i s) fun h => if_pos h

/-! ### The start phases -/

theorem takeReason_keepsLockdown (s : State) : KeepsLockdown s (takeReason s) :=
  .of_eq (takeReason_lockdown s) (by simp [State.standing]) (takeReason_detector s)

@[simp] theorem enterRun_lockdown (s : State) : (enterRun s).lockdown = s.lockdown := by simp [enterRun]

theorem execConfigReadEnd_keepsLockdown {dt : Nat} {memory : List Byte} {first : HeadLevels} {s t : State}
    (h : execConfigReadEnd dt memory first s = .next t) : KeepsLockdown s t := by
  refine onInput_keepsLockdown h fun u _ harises => ?_
  have hunlocked : u.lockdown = false := by simp_all
  refine .of_unchanged (by split <;> rfl) fun hlocked => ?_
  simp [hunlocked] at hlocked

theorem execLineLoopTest_keepsLockdown {dt : Nat} {result : LoopResult} {s t : State} (hlocked : s.lockdown = true)
    (h : execLineLoopTest dt result s = .next t) : KeepsLockdown s t := by
  refine onInput_keepsLockdown h fun u hu harises => ?_
  simp [State.inLoopTest, hu, hlocked] at harises

theorem execLaneTest_keepsLockdown {agree : Bool} {s t : State} (hlocked : s.lockdown = true)
    (h : execLaneTest agree s = .next t) : KeepsLockdown s t := by
  obtain ⟨-, rfl⟩ | ⟨x, hdue, -⟩ := whenDue_cases h
  · exact .refl _
  · simp [laneTestDue, hlocked] at hdue

theorem execReadBackTest_keepsLockdown {readings : List Bool} {s t : State} (hlocked : s.lockdown = true)
    (h : execReadBackTest readings s = .next t) : KeepsLockdown s t := by
  obtain ⟨-, rfl⟩ | ⟨x, hdue, -⟩ := whenDue_cases h
  · exact .refl _
  · simp [readBackTestDue, hlocked] at hdue

theorem execSilenceEnd_keepsLockdown {s t : State} (h : execSilenceEnd s = .next t) : KeepsLockdown s t := by
  refine whenDue_keepsLockdown h fun u _ => ?_
  dsimp only
  have hended : KeepsLockdown u { u with silenceOver := true } := .of_eq rfl rfl rfl
  split
  next =>
    split
    · exact hended.trans (takeReason_keepsLockdown _)
    · exact hended.trans (takeReason_keepsLockdown _)
    · exact hended
  next hunlocked =>
    split
    · exact .of_unchanged (enterRun_lockdown _) fun hlocked => absurd hlocked hunlocked
    · exact hended

/-! ### The head -/

theorem followPassage_keepsLockdown (a b : Bool) (s : State) : KeepsLockdown s (followPassage a b s) := by
  refine .of_unchanged ?_ fun hlocked => ?_
  · unfold followPassage; split <;> simp
  · simp [followPassage, State.follows, hlocked]

theorem execFilteredChange_keepsLockdown {dt : Nat} {a b : Bool} {s t : State}
    (h : execFilteredChange dt a b s = .next t) : KeepsLockdown s t := by
  dsimp only [execFilteredChange] at h
  refine .from_eq (onInput_keepsLockdown h fun u _ _ => ?_) rfl rfl rfl
  have htaken : KeepsLockdown u (takeFiltered a b u) := .of_eq rfl rfl rfl
  exact htaken.trans (followPassage_keepsLockdown ..)

theorem execSpike_keepsLockdown {dt : Nat} {c : Channel} {s t : State} (h : execSpike dt c s = .next t) :
    KeepsLockdown s t := by
  refine onInput_keepsLockdown h fun u _ _ => ?_
  have htaken : KeepsLockdown u (takeSpike c u) := .of_eq rfl rfl rfl
  split
  · exact htaken.trans ((declareAll_keepsLockdown ..).trans (judgeAll_keepsLockdown _))
  · exact htaken

/-- A failing head drops the passage in progress, which leaves the automaton IDLE (R19). -/
theorem failHead_keepsLockdown (s : State) : KeepsLockdown s (failHead s) where
  condition := failHead_lockdown s
  standing _ := by simp [State.standing]
  idle _ hidle := by simp [failHead, hidle]

theorem execHeadFault_keepsLockdown {c : Channel} {s t : State} (h : execHeadFault c s = .next t) :
    KeepsLockdown s t := by
  refine whenDue_keepsLockdown h fun u _ => ?_
  split
  · exact .refl u
  · exact (failHead_keepsLockdown u).trans ((declareAll_keepsLockdown ..).trans (judgeAll_keepsLockdown _))

/-! ### The line -/

/-- In lockdown a frame of the own number is counted, and enters nothing (R58, R163). -/
theorem takeVerdict_keepsLockdown (v : Verdict) {s : State} (hlocked : s.lockdown = true) :
    KeepsLockdown s (takeVerdict v s) := by
  cases v with
  | notJudged | invalid => exact .of_eq rfl rfl rfl
  | valid body =>
    obtain ⟨counted, rfl, ⟨-, h⟩ | ⟨-, -, h⟩ | ⟨-, frame, -, h⟩⟩ := receiveFrame_cases body s <;>
      rw [show takeVerdict (.valid body) s = receiveFrame body s from rfl, h]
    · exact .from_eq (enterLockdown_keepsLockdown (by exact hlocked)) rfl rfl rfl
    · exact .of_eq rfl rfl rfl
    · exact .of_eq rfl rfl rfl

theorem execReceptionIdle_keepsLockdown {dt : Nat} {burst : List LineChar} {s t : State} (hlocked : s.lockdown = true)
    (h : execReceptionIdle dt burst s = .next t) : KeepsLockdown s t := by
  dsimp only [execReceptionIdle] at h
  refine .from_eq (onInput_keepsLockdown h fun u hu _ => ?_) ?condition ?standing ?detector
  case condition | standing | detector => split <;> rfl
  have hu' : u.lockdown = true := hu.trans (by split <;> exact hlocked)
  split
  · exact .of_eq rfl rfl rfl
  · exact .from_eq (takeVerdict_keepsLockdown _ (by exact hu')) rfl rfl rfl

theorem telegramDropped_keepsLockdown (s : State) : KeepsLockdown s (telegramDropped s) :=
  .of_eq (telegramDropped_lockdown s) (by simp [State.standing]) (telegramDropped_detector s)

theorem dropFrame_keepsLockdown (s : State) : KeepsLockdown s (dropFrame s) := by
  have hleft : KeepsLockdown s (leaveService (countDrop s)) := .of_eq rfl rfl rfl
  have htold : KeepsLockdown s (if s.line.service = some .telegram then telegramDropped (leaveService (countDrop s))
      else leaveService (countDrop s)) := by
    split
    · exact hleft.trans (telegramDropped_keepsLockdown _)
    · exact hleft
  unfold dropFrame
  dsimp only
  split
  · exact htold.trans (declareAll_keepsLockdown ..)
  · exact htold

theorem execCollision_keepsLockdown {character : Nat} {s t : State} (h : execCollision character s = .next t) :
    KeepsLockdown s t := by
  refine whenDue_keepsLockdown h fun u _ => ?_
  dsimp only
  have hcollided : KeepsLockdown u (countCollision (releaseLine u)) := .of_eq rfl rfl rfl
  split
  · exact hcollided.trans (dropFrame_keepsLockdown _)
  · exact hcollided

/-! ### An accepted telegram: in lockdown no cause, no propagation and no reset (R126, R149, R152) -/

theorem takeTotals_record {s : State} (hlocked : s.lockdown = true) (evaluating : Bool) (sl : Slot) :
    (takeTotals s evaluating sl).record = sl.record := by
  simp [takeTotals, hlocked, recompute]

theorem declareSlot_of_lockdown {s : State} (hlocked : s.lockdown = true) (cause : Cause) (station : Nat) (sl : Slot) :
    declareSlot s cause station sl = sl := if_pos hlocked

theorem Item.take_record {s : State} (hlocked : s.lockdown = true) (before after : PeerRecord) (i : Nat)
    (found sl : Slot) (item : Item) : (item.take before after s i found sl).record = sl.record := by
  cases item with
  | peerRestart | countJump | peerHead | boundaryMismatch => simp [Item.take, declareSlot_of_lockdown hlocked]
  | changes =>
    simp only [Item.take, takeChanges]
    split
    · split
      · exact takeTotals_record hlocked ..
      · exact judge_record ..
    · rfl

theorem foldl_take_record {s : State} (hlocked : s.lockdown = true) (before after : PeerRecord) (i : Nat) (found : Slot)
    (items : List Item) : ∀ sl : Slot, (items.foldl (Item.take before after s i found) sl).record = sl.record := by
  induction items with
  | nil => exact fun _ => rfl
  | cons item items ih => exact fun sl => (ih _).trans (Item.take_record hlocked ..)

theorem takeItems_keepsLockdown (order : TakingOrder) (before after : PeerRecord) (items : List Item) {s : State}
    (hlocked : s.lockdown = true) : KeepsLockdown s (takeItems order before after items s) :=
  .of_records (mapIdx_records (fun i sl => foldl_take_record hlocked before after i sl _ sl) s.slots)

theorem takeView_of_lockdown {s : State} (hlocked : s.lockdown = true) (sender : Nat) (view : Option View) (sl : Slot) :
    takeView s sender view sl = sl := by
  simp [takeView, State.inService, hlocked]

theorem evaluateView_of_lockdown {s : State} (hlocked : s.lockdown = true) (view : Option View) (sl : Slot) :
    evaluateView s view sl = sl := by
  cases view <;> simp [evaluateView, hlocked]

theorem evaluatorTakes_record {s : State} (hlocked : s.lockdown = true) (judged : Bool) (view : Option View) (sl : Slot) :
    (evaluatorTakes s judged view sl).record = sl.record := by
  simp only [evaluatorTakes, evaluateView_of_lockdown hlocked]
  split
  · rfl
  · exact judge_record ..

theorem readView_record {s : State} (hlocked : s.lockdown = true) (order : TakingOrder) (first : Bool)
    (after : PeerRecord) (judged : Bool) (i : Nat) (sl : Slot) :
    (readView order first after judged s i sl).record = sl.record := by
  unfold readView
  dsimp only
  split
  · split
    · rw [takeView_of_lockdown hlocked]
    · exact evaluatorTakes_record hlocked ..
  · rfl

theorem rangeAfter_of_lockdown {s : State} (hlocked : s.lockdown = true) (before sl : Slot) :
    rangeAfter s before sl = sl := by
  simp [rangeAfter, hlocked]

theorem rangesAfter_of_lockdown {before s : State} (hlocked : s.lockdown = true)
    (hlength : s.slots.length = before.slots.length) : rangesAfter before s = s := by
  have hslots : before.slots.zipWith (rangeAfter s) s.slots = s.slots := by
    apply List.ext_getElem <;> simp [rangeAfter_of_lockdown hlocked, hlength]
  rw [rangesAfter, hslots]

theorem notice_keepsLockdown (before after : State) : KeepsLockdown after (notice before after) :=
  .of_eq (notice_lockdown ..) (by simp [State.standing]) (notice_detector ..)

theorem readRound_keepsLockdown (order : TakingOrder) (first : Bool) (after : PeerRecord) (judged : Bool) {s : State}
    (hlocked : s.lockdown = true) : KeepsLockdown s (readRound order first after judged s) := by
  have hviews : KeepsLockdown s (readViews order first after judged s) :=
    .of_records (mapIdx_records (readView_record hlocked order first after judged) s.slots)
  unfold readRound
  dsimp only
  rw [rangesAfter_of_lockdown (by simpa) (by simp [readViews])]
  exact hviews.trans ((notice_keepsLockdown ..).trans (notice_keepsLockdown ..))

theorem handViews_keepsLockdown (order : TakingOrder) (before after : PeerRecord) {s : State}
    (hlocked : s.lockdown = true) : KeepsLockdown s (handViews order before after s) :=
  (readRound_keepsLockdown order true after _ hlocked).trans
    (readRound_keepsLockdown order false after _ (by simpa))

theorem forgetIdentities_keepsLockdown (originator : Nat) (s : State) :
    KeepsLockdown s (forgetIdentities originator s) :=
  .of_records (map_records (fun sl => by split <;> rfl) s.slots)

/-- A telegram accepted in lockdown reaches the Peer Table, and is no cause (R88, R152). -/
theorem acceptTelegram_keepsLockdown (r : PeerRecord) (j : Judgement) (tel : Telegram) (order : TakingOrder) (s : State) :
    KeepsLockdown s (acceptTelegram r j tel order s) := by
  refine .of_locked (by unfold acceptTelegram; dsimp only; split <;> simp) fun hlocked => ?_
  unfold acceptTelegram
  extract_lets accepted recorded known
  have hrecorded : KeepsLockdown s recorded := .of_eq rfl rfl rfl
  have hknown : KeepsLockdown s known := by
    dsimp only [known]
    split
    · exact hrecorded.trans (forgetIdentities_keepsLockdown ..)
    · exact hrecorded
  have hlocked' : known.lockdown = true := hknown.condition.trans hlocked
  exact hknown.trans ((takeItems_keepsLockdown _ _ _ _ hlocked').trans
    ((notice_keepsLockdown ..).trans (handViews_keepsLockdown _ _ _ (by simpa))))

theorem judgeTelegram_keepsLockdown (r : PeerRecord) (tel : Telegram) (order : TakingOrder) (s : State) :
    KeepsLockdown s (judgeTelegram r tel order s) := by
  unfold judgeTelegram
  split
  · split
    · exact .refl s
    · exact acceptTelegram_keepsLockdown ..
  · exact .refl s

theorem execCountTelegram_keepsLockdown {dt : Nat} {tel : Telegram} {order : TakingOrder} {s t : State}
    (h : execCountTelegram dt tel order s = .next t) : KeepsLockdown s t := by
  refine .from_eq (onInput_keepsLockdown h fun u _ _ => ?_) rfl rfl rfl
  split
  · exact judgeTelegram_keepsLockdown ..
  · exact .refl u

/-! ### The ages of a peer and the timers of a slot -/

theorem execPeerStale_keepsLockdown {station : Nat} {s t : State} (h : execPeerStale station s = .next t) :
    KeepsLockdown s t :=
  whenDue_keepsLockdown h fun _ _ => .from_eq (judgeSlots_keepsLockdown ..) rfl rfl rfl

theorem leaveSets_keepsLockdown (station : Nat) (s : State) : KeepsLockdown s (leaveSets station s) :=
  .of_records (map_records (fun sl => by split <;> rfl) s.slots)

theorem execPeerLost_keepsLockdown {station : Nat} {s t : State} (h : execPeerLost station s = .next t) :
    KeepsLockdown s t := by
  refine whenDue_keepsLockdown h fun u _ => ?_
  have hlost : KeepsLockdown u (u.modifyPeer station PeerRecord.lose) := .of_eq rfl rfl rfl
  exact hlost.trans ((leaveSets_keepsLockdown ..).trans
    ((declareUsing_keepsLockdown ..).trans (judgeSlots_keepsLockdown ..)))

theorem execNegativeBalance_keepsLockdown {i : Fin 4} {s t : State} (h : execNegativeBalance i s = .next t) :
    KeepsLockdown s t :=
  whenDue_keepsLockdown h fun u _ =>
    (modifySlot_keepsLockdown (by exact fun _ => rfl) i u).trans (declareAt_keepsLockdown ..)

/-! ### The operator lines -/

theorem refuseConfirmation_keepsLockdown (i : Fin 4) (s : State) : KeepsLockdown s (refuseConfirmation i s) := by
  have hrefusal : ∀ u : State, KeepsLockdown u (requestRefusal u) := fun u =>
    .of_eq (requestRefusal_lockdown u) (by simp [State.standing]) (requestRefusal_detector u)
  exact (modifySlot_keepsLockdown (by exact fun _ => rfl) i s).trans (hrefusal _)

theorem issueDemand_keepsLockdown (i : Fin 4) (kind : ResetKind) (s : State) : KeepsLockdown s (issueDemand i kind s) :=
  (modifySlot_keepsLockdown (by exact fun _ => rfl) i s).trans (.of_eq rfl rfl rfl)

theorem confirm_keepsLockdown (i : Fin 4) (kind : ResetKind) (s : State) : KeepsLockdown s (confirm i kind s) := by
  unfold confirm
  split
  · split
    · exact refuseConfirmation_keepsLockdown i s
    · exact issueDemand_keepsLockdown i kind s
  · exact .refl s

theorem judgeEdge_keepsLockdown (cfs cfd : Bool) (s : State) : KeepsLockdown s (judgeEdge cfs cfd s) := by
  have hdeselected : ∀ u : State, KeepsLockdown u { u with operator := { u.operator with selection := none } } :=
    fun _ => .of_eq rfl rfl rfl
  unfold judgeEdge
  split
  · exact .refl s
  · cases cfs <;> cases cfd
    · exact (refuseConfirmation_keepsLockdown ..).trans (hdeselected _)
    · exact (confirm_keepsLockdown ..).trans (hdeselected _)
    · exact (confirm_keepsLockdown ..).trans (hdeselected _)
    · exact (refuseConfirmation_keepsLockdown ..).trans (hdeselected _)

theorem takeOperatorSample_keepsLockdown (levels : OperatorLevels) (s : State) :
    KeepsLockdown s (takeOperatorSample levels s) := by
  have htaken : KeepsLockdown s (takeLevels levels s) := .of_eq rfl rfl rfl
  unfold takeOperatorSample
  dsimp only
  split
  · exact htaken.trans (judgeEdge_keepsLockdown ..)
  · exact htaken

/-! ### Queries -/

/-- A query keeps lockdown if its answer does. -/
theorem onQuery_keepsLockdown {dt : Nat} {kind parameter : Byte} {s t : State} {f : State → State}
    (h : onQuery dt kind parameter s f = .next t) (hf : ∀ u, KeepsLockdown u (f u)) : KeepsLockdown s t :=
  .from_eq (onInput_keepsLockdown h fun u _ _ => hf u) rfl rfl rfl

/-- A refusal places an answer and no more, so that the answer given in range decides (R178). -/
theorem judgeQuery_keepsLockdown {kind : Byte} {inRange : Bool} {answer : State → State} {s : State}
    (h : KeepsLockdown s (answer s)) : KeepsLockdown s (judgeQuery kind inRange answer s) := by
  unfold judgeQuery
  split
  · exact .of_eq rfl rfl rfl
  · exact h

theorem execSectionQuery_keepsLockdown {dt : Nat} {parameter : Byte} {s t : State}
    (h : execSectionQuery dt parameter s = .next t) : KeepsLockdown s t := by
  refine onQuery_keepsLockdown h fun u => judgeQuery_keepsLockdown ?_
  unfold answerSection
  split <;> exact .of_eq rfl rfl rfl

theorem execQueryOfUnknownKind_keepsLockdown {dt : Nat} {kind parameter : Byte} {s t : State}
    (h : execQueryOfUnknownKind dt kind parameter s = .next t) : KeepsLockdown s t := by
  rw [execQueryOfUnknownKind_eq] at h
  split at h
  · cases h; exact .of_eq rfl rfl rfl
  · exact onQuery_keepsLockdown h fun _ => .of_eq rfl rfl rfl

/-! ### The commands that can bring a lockdown cause (R161) -/

/-- The commands whose events can be lockdown causes. -/
def CanLockDown : Instr → Prop
  | .lineLoopTest _ _ | .laneTest _ | .readBackTest _ | .receptionIdle _ _ | .laneMismatch _ | .clockCheckPeriodEnd _
  | .halfPeriodTick _ | .tickWatchExpiry => True
  | _ => False

theorem execClockCheckPeriodEnd_keepsLockdown {measured : Nat} {s t : State} (hlocked : s.lockdown = true)
    (h : execClockCheckPeriodEnd measured s = .next t) : KeepsLockdown s t := by
  refine whenDue_keepsLockdown h fun u hu => ?_
  dsimp only
  split
  · exact .from_eq (enterLockdown_keepsLockdown (hu.trans hlocked)) rfl rfl rfl
  · exact .of_eq rfl rfl rfl

theorem judgeCounts_keepsLockdown {s : State} (hlocked : s.lockdown = true) : KeepsLockdown s (judgeCounts s) := by
  unfold judgeCounts
  split
  · exact .from_eq (enterLockdown_keepsLockdown (by exact hlocked)) rfl rfl rfl
  · exact .refl s

/-- In lockdown a further cause changes nothing that stands (R162, R163). -/
theorem exec_keepsLockdown_of_lockdown {c : Instr} {s t : State} (hcause : CanLockDown c) (hlocked : s.lockdown = true)
    (h : exec c s = .next t) : KeepsLockdown s t := by
  cases c with
  | lineLoopTest => exact execLineLoopTest_keepsLockdown hlocked h
  | laneTest => exact execLaneTest_keepsLockdown hlocked h
  | readBackTest => exact execReadBackTest_keepsLockdown hlocked h
  | receptionIdle => exact execReceptionIdle_keepsLockdown hlocked h
  | laneMismatch =>
    dsimp only [exec, execLaneMismatch] at h
    exact whenDue_keepsLockdown h fun u hu =>
      .from_eq (enterLockdown_keepsLockdown (by exact hu.trans hlocked)) rfl rfl rfl
  | clockCheckPeriodEnd => exact execClockCheckPeriodEnd_keepsLockdown hlocked h
  | halfPeriodTick =>
    dsimp only [exec, execHalfPeriodTick] at h
    refine whenDue_keepsLockdown h fun u hu => ?_
    refine .from_eq (.trans (judgeCounts_keepsLockdown ?_) (.of_eq rfl rfl rfl)) rfl rfl rfl
    exact hu.trans hlocked
  | tickWatchExpiry =>
    dsimp only [exec, execTickWatchExpiry] at h
    exact whenDue_keepsLockdown h fun u hu =>
      .from_eq (judgeCounts_keepsLockdown (by exact hu.trans hlocked)) rfl rfl rfl
  | _ => exact hcause.elim

/-! ### Every other command -/

/-- A command that neither starts the part afresh nor can bring a lockdown cause keeps lockdown, in it and out of it. -/
theorem exec_keepsLockdown {c : Instr} {s t : State} (hstarts : ¬Starts c) (hcause : ¬CanLockDown c)
    (h : exec c s = .next t) : KeepsLockdown s t := by
  cases c with
  | powerOn | restart => exact absurd trivial hstarts
  | lineLoopTest | laneTest | readBackTest | receptionIdle | laneMismatch | clockCheckPeriodEnd | halfPeriodTick
  | tickWatchExpiry => exact absurd trivial hcause
  | restartRelease | healthLevelChange | deferral =>
    dsimp only [exec, execRestartRelease, execHealthLevelChange, execDeferral] at h
    exact onInput_keepsLockdown h fun _ _ _ => .of_eq rfl rfl rfl
  | stationTimeWrap | spikeQuietExpiry | lineIdle | spacingEnd | selection | selectionTimeout | lampPatternStep
  | statusLineToggle | refusalPatternStep =>
    dsimp only [exec, execStationTimeWrap, execSpikeQuietExpiry, execLineIdle, execSpacingEnd, execSelection,
      execSelectionTimeout, execLampPatternStep, execStatusLineToggle, execRefusalPatternStep] at h
    exact whenDue_keepsLockdown h fun _ _ => .of_eq rfl rfl rfl
  | settledTimeExpiry | confirmExpiry | windowExpiry | lingerEnd | coolDownEnd =>
    dsimp only [exec, execSettledTimeExpiry, execConfirmExpiry, execWindowExpiry, execLingerEnd, execCoolDownEnd] at h
    exact whenDue_keepsLockdown h fun u _ => modifySlot_keepsLockdown (by exact fun _ => rfl) _ u
  | configReadEnd => exact execConfigReadEnd_keepsLockdown h
  | silenceEnd => exact execSilenceEnd_keepsLockdown h
  | filteredChange => exact execFilteredChange_keepsLockdown h
  | spike => exact execSpike_keepsLockdown h
  | headFault => exact execHeadFault_keepsLockdown h
  | headRecovery =>
    dsimp only [exec, execHeadRecovery] at h
    exact whenDue_keepsLockdown h fun _ _ => .from_eq (judgeAll_keepsLockdown _) rfl rfl rfl
  | countTelegram => exact execCountTelegram_keepsLockdown h
  | statusQuery => exact onQuery_keepsLockdown h fun _ => .of_eq rfl rfl rfl
  | sectionQuery => exact execSectionQuery_keepsLockdown h
  | peersQuery | logQuery | clearDiag =>
    exact onQuery_keepsLockdown h fun _ => judgeQuery_keepsLockdown (.of_eq rfl rfl rfl)
  | queryOfUnknownKind => exact execQueryOfUnknownKind_keepsLockdown h
  | lineWin =>
    dsimp only [exec, execLineWin] at h
    refine whenDue_keepsLockdown h fun u _ => ?_
    unfold compareCopies
    split <;> exact .of_eq rfl rfl rfl
  | collision => exact execCollision_keepsLockdown h
  | attemptCompletion =>
    dsimp only [exec, execAttemptCompletion] at h
    refine whenDue_keepsLockdown h fun u _ => ?_
    have hleft : KeepsLockdown u (endLineFault (leaveService (releaseLine u))) := .of_eq rfl rfl rfl
    split
    · exact hleft.trans (.of_eq rfl rfl rfl)
    · exact hleft
  | heartbeatExpiry =>
    dsimp only [exec, execHeartbeatExpiry] at h
    refine whenDue_keepsLockdown h fun u _ => ?_
    split
    · exact .from_eq (takeReason_keepsLockdown _) rfl rfl rfl
    · exact .of_eq rfl rfl rfl
  | lockdownTelegramTimer =>
    dsimp only [exec, execLockdownTelegramTimer] at h
    exact whenDue_keepsLockdown h fun _ _ => .from_eq (takeReason_keepsLockdown _) rfl rfl rfl
  | peerStale => exact execPeerStale_keepsLockdown h
  | peerLost => exact execPeerLost_keepsLockdown h
  | negativeBalance => exact execNegativeBalance_keepsLockdown h
  | debouncedLevelChange | confirmSweep | confirmDirect =>
    dsimp only [exec, execDebouncedLevelChange, execConfirmSweep, execConfirmDirect] at h
    exact onInput_keepsLockdown h fun _ _ _ => takeOperatorSample_keepsLockdown ..
  | alarmPatternStep =>
    dsimp only [exec, execAlarmPatternStep] at h
    exact whenDue_keepsLockdown h fun u _ => by split <;> exact .of_eq rfl rfl rfl

/-! ### The part's own clock -/

theorem raiseOne_keepsLockdown (events : List TimedEvent) (s : State) : KeepsLockdown s (raiseOne events s) := by
  unfold raiseOne
  split <;> exact .of_eq rfl rfl rfl

theorem sampleHead_keepsLockdown (s : State) : KeepsLockdown s (sampleHead s).1 := by
  unfold sampleHead
  split <;> exact .of_eq rfl rfl rfl

theorem sampleOperator_keepsLockdown (s : State) : KeepsLockdown s (sampleOperator s).1 := by
  unfold sampleOperator
  split <;> exact .of_eq rfl rfl rfl

theorem sampleRestart_keepsLockdown (s : State) : KeepsLockdown s (sampleRestart s).1 := by
  unfold sampleRestart
  split <;> exact .of_eq rfl rfl rfl

theorem raiseSampled_keepsLockdown (events : List Instr) (s : State) : KeepsLockdown s (raiseSampled events s) := by
  unfold raiseSampled
  split <;> exact .of_eq rfl rfl rfl

theorem noteRuns_keepsLockdown (b s : State) : KeepsLockdown s (noteRuns b s) :=
  .of_eq (noteRuns_lockdown b s) (by simp [State.standing]) (noteRuns_detector b s)

/-- A sample lengthens runs and raises events, which take effect as commands (R2, R51, R130). -/
theorem sample_keepsLockdown (s : State) : KeepsLockdown s (sample s) := by
  have htaken : KeepsLockdown s { s with sampleDue := false } := .of_eq rfl rfl rfl
  exact htaken.trans ((sampleHead_keepsLockdown _).trans ((sampleOperator_keepsLockdown _).trans
    ((sampleRestart_keepsLockdown _).trans ((noteRuns_keepsLockdown s _).trans (raiseSampled_keepsLockdown ..)))))

theorem idle_keepsLockdown (s : State) : KeepsLockdown s (idle s) := by
  unfold idle
  split
  · exact .of_eq rfl rfl rfl
  · split
    · exact sample_keepsLockdown s
    · exact .of_eq rfl rfl rfl
    · unfold sampleOrRaise
      split
      · exact .from_eq (sample_keepsLockdown _) rfl rfl rfl
      · exact .from_eq (raiseOne_keepsLockdown ..) rfl rfl rfl
    · exact raiseOne_keepsLockdown ..

/-! ### Every step (R162) -/

/-- A step in lockdown keeps it, unless it takes a power-on or a restart that is not yet held. -/
theorem step_keepsLockdown {s t : State} (h : step s = .next t) (hlocked : s.lockdown = true)
    (hstarts : ∀ c rest, s.pending = c :: rest → Starts c → c = .restart ∧ s.restartHeld = true) : KeepsLockdown s t := by
  unfold step at h
  split at h
  next c rest hpending =>
    refine .from_eq (t := { s with pending := rest }) ?_ rfl rfl rfl
    by_cases hstart : Starts c
    · obtain ⟨rfl, hheld⟩ := hstarts c rest hpending hstart
      dsimp only [exec, execRestart] at h
      rw [if_pos hheld] at h
      cases h
      exact .refl _
    by_cases hcause : CanLockDown c
    · exact exec_keepsLockdown_of_lockdown hcause (by exact hlocked) h
    · exact exec_keepsLockdown hstart hcause h
  next => cases h; exact idle_keepsLockdown s

/-! ### A restart and a power-on (R51, R52) -/

/-- Whatever a restart or a power-on keeps or is told of the restart line, every block is at its start value (R51, R52). -/
theorem atStart_of_reset (held reading : Bool) (log : List LogEntry) (record : Option LockdownRecord) (pins : Pins)
    (freeUses : Nat) (pending : List Instr) :
    AtStart (alignLanes { State.reset with
      restartHeld := held, reading := reading, log := log, lockdownRecord := record, pins := pins, freeUses := freeUses,
      pending := pending }) := by
  constructor
  case time => exact ⟨rfl, by simp [State.stationTime, State.reset]⟩
  case operator => exact ⟨rfl, rfl, rfl, fun line => by simp [State.reset, Operator.start]⟩
  case pairs => exact fun i => by simp [State.reset, Outputs.start]
  case lamps => exact fun i => by simp [State.reset, Outputs.start]
  all_goals and_intros <;> rfl

theorem exec_restart_atStart {s : State} (h : s.restartHeld = false) :
    ∃ t, exec .restart s = .next t ∧ AtStart t ∧ t.lockdownRecord = s.lockdownRecord := by
  have hexec : exec .restart s = execRestart s := rfl
  rw [hexec, execRestart, if_neg (by simp [h])]
  exact ⟨_, rfl, atStart_of_reset .., rfl⟩

theorem exec_powerOn_atStart (active : Bool) (s : State) :
    ∃ t, exec (.powerOn active) s = .next t ∧ AtStart t ∧ t.lockdownRecord = none :=
  ⟨_, rfl, atStart_of_reset .., rfl⟩

theorem AtStart.unlocked {t : State} (h : AtStart t) : t.lockdown = false := h.phase.2.2.2

/-- A start never leads to lockdown (R51). -/
theorem exec_lockdown_of_starts {c : Instr} {s t : State} (hstarts : Starts c) (hunlocked : s.lockdown = false)
    (h : exec c s = .next t) : t.lockdown = false := by
  cases c with
  | powerOn active => cases h; rfl
  | restart =>
    dsimp only [exec, execRestart] at h
    split at h <;> cases h
    · exact hunlocked
    · rfl
  | _ => exact hstarts.elim

/-- A timer that does not run brings no lockdown. -/
theorem whenDue_unlocked {due : Option Tick} {s t : State} {f : State → State} (h : whenDue due s f = .next t)
    (hunlocked : s.lockdown = false) (hdue : due = none) : t.lockdown = false := by
  rw [hdue, whenDue_none] at h
  cases h
  exact hunlocked

/-- An event that cannot arise brings no lockdown. -/
theorem onInput_unlocked {dt : Nat} {s t : State} {p : State → Bool} {f : State → State}
    (h : onInput dt s p f = .next t) (hunlocked : s.lockdown = false) (hp : p (s.pass dt) = false) :
    t.lockdown = false := by
  rw [onInput_not hp] at h
  cases h
  exact hunlocked

/-- With the receiver off the line no burst is received, and none brings a lockdown (R55, R58). -/
theorem execReceptionIdle_unlocked {dt : Nat} {burst : List LineChar} {s t : State}
    (h : execReceptionIdle dt burst s = .next t) (hunlocked : s.lockdown = false) (hoff : s.line.connected = false) :
    t.lockdown = false := by
  have hidle : ∀ u : State, u.line = s.line → idleArises burst u = false := fun u hline => by
    simp [idleArises, hline, hoff]
  dsimp only [execReceptionIdle] at h
  exact onInput_unlocked h (by split <;> exact hunlocked) (hidle _ (by split <;> rfl))

/-- At the start no self-test runs, the receiver is off the line and no half-period tick runs, so that of the lockdown
causes only a clock check and a lane difference can arise (R46, R55, R160, R168). -/
theorem exec_atStart_cause {c : Instr} {s t : State} (hcause : CanLockDown c) (hstart : AtStart s)
    (h : exec c s = .next t) :
    t.lockdown = false ∨ (∃ measured, c = .clockCheckPeriodEnd measured) ∨ ∃ item, c = .laneMismatch item := by
  have hunlocked := hstart.unlocked
  obtain ⟨-, htest, -, -⟩ := hstart.phase
  obtain ⟨hoff, -⟩ := hstart.line
  obtain ⟨-, -, -, -, htick, -⟩ := hstart.status
  cases c with
  | clockCheckPeriodEnd measured => exact .inr (.inl ⟨measured, rfl⟩)
  | laneMismatch item => exact .inr (.inr ⟨item, rfl⟩)
  | lineLoopTest =>
    dsimp only [exec, execLineLoopTest] at h
    exact .inl (onInput_unlocked h hunlocked (by simp [State.inLoopTest, htest]))
  | laneTest =>
    dsimp only [exec, execLaneTest] at h
    exact .inl (whenDue_unlocked h hunlocked (by simp [laneTestDue, htest]))
  | readBackTest =>
    dsimp only [exec, execReadBackTest] at h
    exact .inl (whenDue_unlocked h hunlocked (by simp [readBackTestDue, htest]))
  | receptionIdle => exact .inl (execReceptionIdle_unlocked h hunlocked hoff)
  | halfPeriodTick =>
    dsimp only [exec, execHalfPeriodTick] at h
    exact .inl (whenDue_unlocked h hunlocked (by simp [halfPeriodDue, after, htick]))
  | tickWatchExpiry =>
    dsimp only [exec, execTickWatchExpiry] at h
    exact .inl (whenDue_unlocked h hunlocked (by simp [htick]))
  | _ => exact hcause.elim

end Sys2Proof.Machine

namespace Sys2Proof.Proofs
open Sys2Proof.Machine

/-- Settles O44: with lockdown standing the entry is left at its first test. -/
theorem lockdownCausesAreTakenOnce : Obligations.LockdownCausesAreTakenOnce :=
  ⟨fun _ _ hlocked => enterLockdown_of_lockdown hlocked,
   fun cause s hunlocked => ⟨enterLockdown_lockdown cause s, enterLockdown_lockdownRecord hunlocked⟩,
   fun first _ s _ => enterLockdown_of_lockdown (enterLockdown_lockdown first s)⟩

/-- Settles O50: every command but a start, and the part's own clock, keeps the condition and what stands in it; a start
puts every block at its start value, where of the lockdown causes only the clock check and the lane difference arise. -/
theorem lockdownStands : Obligations.LockdownStands := by
  refine ⟨?stands, ?restart, ?powerOn, ?cause, ?afresh⟩
  case stands =>
    intro s t h hlocked hstarts
    obtain ⟨hcondition, hstanding, hidle⟩ := step_keepsLockdown h hlocked hstarts
    obtain ⟨hrecord, hphase, htxy, htyx, hlog, hrecords⟩ := Standing.mk.inj (hstanding hlocked)
    exact ⟨hcondition.trans hlocked, hrecord, hphase, htxy, htyx, hlog, hrecords, hidle hlocked⟩
  case restart =>
    intro s rest hpending hreleased
    obtain ⟨t, hexec, hstart, hrecord⟩ := exec_restart_atStart (s := { s with pending := rest }) hreleased
    exact ⟨t, by rw [step, hpending]; exact hexec, hstart.unlocked, hstart, hrecord⟩
  case powerOn =>
    intro s active rest hpending
    obtain ⟨t, hexec, hstart, hrecord⟩ := exec_powerOn_atStart active { s with pending := rest }
    exact ⟨t, by rw [step, hpending]; exact hexec, hstart.unlocked, hstart, hrecord⟩
  case cause =>
    intro cause s hunlocked hreleased
    obtain ⟨t, hexec, hstart, hrecord⟩ :=
      exec_restart_atStart ((enterLockdown_restartHeld cause s).trans hreleased)
    exact ⟨t, hexec, hstart.unlocked, hrecord.trans (enterLockdown_lockdownRecord hunlocked)⟩
  case afresh =>
    intro c s t hstart h hlocked
    by_cases hstarts : Starts c
    · simp [exec_lockdown_of_starts hstarts hstart.unlocked h] at hlocked
    by_cases hcause : CanLockDown c
    · exact (exec_atStart_cause hcause hstart h).resolve_left (by simp [hlocked])
    · have hkept : t.lockdown = s.lockdown := (exec_keepsLockdown hstarts hcause h).condition
      simp [hkept, hstart.unlocked] at hlocked

end Sys2Proof.Proofs
end

section
/-! PROOFS. One rule for every command: the instant it is taken at, the condition under which its event arises, and what the
event does before it ends as every event does. The statements about every step go by this rule and not by the arms of
`exec`. -/

namespace Sys2Proof.Machine

/-! ### Time -/

theorem State.pass_eq_reach (s : State) (dt : Nat) : s.pass dt = s.reach (s.now + dt) := by
  simp [State.pass, State.reach, State.wait, State.upTo]

/-- Time that passes up to an instant after other time is time that passes up to the later one. -/
theorem State.reach_of_wait (s : State) (dt : Nat) (x : Tick) :
    ((s.wait dt).upTo x).pass 0 = s.reach (max (s.now + dt) x) := by
  have hnow : ∀ n x : Nat, max (n + dt) x = max n (max (n + dt) x) := by omega
  have htime : ∀ n x : Nat, dt + (x - (n + dt)) = max (n + dt) x - n := by omega
  simp only [State.pass, State.reach, State.wait, State.upTo, Lanes.wait, Nat.add_zero, Nat.add_assoc, htime]
  rw [← hnow]

theorem State.reach_of_wait_zero (s : State) (dt : Nat) : (s.wait dt).pass 0 = s.reach (s.now + dt) := by
  simp [State.pass, State.reach, State.wait, State.upTo, Lanes.wait]

/-! ### The event of a command -/

/-- The frame that a command takes leaves those handed on, whether its event arises or not (R57). -/
def State.unhand (c : Instr) (s : State) : State :=
  match frameTaken c with
  | some frame => s.takeHanded frame
  | none => s

/-- The event of a command can arise in `s`: what has to stand for an event from outside, and for one of a timer that it
runs out at `x`. -/
def Arises (c : Instr) (s : State) (x : Tick) : Prop :=
  match c with
  | .powerOn _ | .restart => False
  | .restartRelease _ => s.restartHeld = true
  | .configReadEnd .. => s.reading = true ∧ s.phase = .configRead ∧ s.lockdown = false
  | .lineLoopTest .. => s.inLoopTest = true
  | .laneTest _ => laneTestDue s = some x
  | .readBackTest _ => readBackTestDue s = some x
  | .silenceEnd => silenceEndDue s = some x
  | .stationTimeWrap => wrapDue s = x
  | .filteredChange _ a b => s.configured = true ∧ (a || b) = true
  | .spike .. => s.configured = true
  | .spikeQuietExpiry c => spikeQuietDue s c = some x
  | .headFault c => headFaultDue s c = some x
  | .headRecovery => headRecoveryDue s = some x
  | .receptionIdle _ burst => idleArises burst s = true
  | .countTelegram .. => s.line.connected = true ∧ s.configured = true
  | .statusQuery .. | .sectionQuery .. | .peersQuery .. | .logQuery .. | .clearDiag .. => s.takesQueries = true
  | .lineIdle => lineIdleDue s = some x
  | .deferral _ => s.line.connected = true ∧ s.line.isDriving = false
  | .lineWin _ => lineWinDue s = some x
  | .collision n => readBackDue s n = some x
  | .attemptCompletion => readBackDue s s.line.driven.length = some x
  | .spacingEnd => spacingDue s = some x
  | .heartbeatExpiry => heartbeatDue s = some x
  | .lockdownTelegramTimer => lockdownTelegramDue s = some x
  | .peerStale n => peerStaleDue s n = some x
  | .peerLost n => peerLostDue s n = some x
  | .negativeBalance i => negativeDue s i = some x
  | .settledTimeExpiry i => settledDue s i = some x
  | .confirmExpiry i => confirmDue s i = some x
  | .debouncedLevelChange .. | .confirmSweep .. | .confirmDirect .. => s.configured = true
  | .selection i => selectionDue s i = some x
  | .selectionTimeout => selectionTimeoutDue s = some x
  | .windowExpiry i => windowDue s i = some x
  | .lingerEnd i => lingerDue s i = some x
  | .coolDownEnd i => coolDownDue s i = some x
  | .laneMismatch item => laneMismatchDue s item = some x
  | .clockCheckPeriodEnd _ => clockPeriodDue s = x
  | .halfPeriodTick _ => halfPeriodDue s = some x
  | .tickWatchExpiry => s.outputs.tickSince.isSome = true ∧ x = s.now
  | .lampPatternStep i => lampDue s i = some x
  | .statusLineToggle => statusDue s = some x
  | .alarmPatternStep => alarmDue s = some x
  | .refusalPatternStep => refusalDue s = some x
  | .healthLevelChange .. => s.configured = true
  | .queryOfUnknownKind .. => s.takesQueries = true

/-- The levels that one sample of the operator lines brings (R130, R132). -/
def sampledLevels (c : Instr) (w : State) : OperatorLevels :=
  match c with
  | .debouncedLevelChange _ levels => levels
  | .confirmSweep _ cfd => { w.operator.debounced with cfs := true, cfd := cfd }
  | .confirmDirect _ cfs => { w.operator.debounced with cfs := cfs, cfd := true }
  | _ => w.operator.debounced

/-- What the event of a command does at its instant, before it ends as every event does. -/
def effect (c : Instr) (w : State) : State :=
  match c with
  | .powerOn _ | .restart => w
  | .restartRelease _ =>
    { w with
      restartHeld := false, restartFrom := none, pins := { w.pins with restart := false }
      reading := w.phase == .configRead && !w.lockdown }
  | .configReadEnd _ memory first =>
    match passingImage memory with
    | some im => passImage im first w
    | none => failImage w
  | .lineLoopTest _ result =>
    if loopTestPasses w result then { joinLine w with selfTest := some .lane, selfTestSince := w.now }
    else enterLockdown .selfTestFault w
  | .laneTest agree =>
    if agree then { w with selfTest := some .readBack, selfTestSince := w.now } else enterLockdown .selfTestFault w
  | .readBackTest readings =>
    if readings.length = 40 ∧ readings.all (fun high => !high) = true then enterSilence w
    else enterLockdown .selfTestFault w
  | .silenceEnd =>
    if w.lockdown then
      match w.phase with
      | .selfTest | .silence => takeReason { w with silenceOver := true }
      | _ => { w with silenceOver := true }
    else if w.phase = .silence then enterRun { w with silenceOver := true }
    else { w with silenceOver := true }
  | .stationTimeWrap => w
  | .filteredChange _ a b => followPassage a b (takeFiltered a b w)
  | .spike _ c => if reachesLimit c w then judgeAll (declareAll .headInterference (takeSpike c w)) else takeSpike c w
  | .spikeQuietExpiry c => { w with head := w.head.setChannel c fun ch => { ch with spikes := 0, quietSince := none } }
  | .headFault _ => if w.head.state = .faulty then w else judgeAll (declareAll .headFault (failHead w))
  | .headRecovery => judgeAll { w with head := { w.head with state := .counting, recoverFrom := none } }
  | .receptionIdle _ burst =>
    if burst.isEmpty then { w with line := { w.line with receiver := w.line.receiver.toWaiting } } else endBurst burst w
  | .countTelegram _ tel order =>
    match w.peer? tel.sender.toNat with
    | some r => judgeTelegram r tel order w
    | none => w
  | .statusQuery .. => placeAnswer 1 (statusData w) w
  | .sectionQuery _ parameter => judgeQuery 2 (w.slotIndex parameter) (answerSection parameter) w
  | .peersQuery _ parameter => judgeQuery 3 (decide (parameter.toNat ≤ 15)) (answerPeers parameter) w
  | .logQuery _ parameter =>
    judgeQuery 4 (decide (parameter.toNat ≤ 63)) (fun w => placeAnswer 4 (logData w parameter.toNat) w) w
  | .clearDiag .. => judgeQuery 5 true (fun w => placeAnswer 5 [] (clearCounters w)) w
  | .lineIdle => { w with line := { w.line with transmitter := .slotDelay w.now } }
  | .deferral _ => startBit w
  | .lineWin fault =>
    compareCopies fault
      { w with line := { w.line with
          transmitter := .driving w.now
          driven := frameOf (bodyAtWin w)
          quietSince := none
          receiver := { w.line.receiver with state := .skipping, badFirst := false } } }
  | .collision _ =>
    if 8 ≤ (countCollision (releaseLine w)).line.attempt then dropFrame (countCollision (releaseLine w))
    else countCollision (releaseLine w)
  | .attemptCompletion =>
    if w.line.service = some .telegram then telegramCompleted (endLineFault (leaveService (releaseLine w)))
    else endLineFault (leaveService (releaseLine w))
  | .spacingEnd => { w with builder := { w.builder with spacingSince := none } }
  | .heartbeatExpiry =>
    if w.inService then takeReason { w with builder := { w.builder with heartbeatSince := none } }
    else { w with builder := { w.builder with heartbeatSince := none } }
  | .lockdownTelegramTimer => takeReason { w with builder := { w.builder with lockdownSince := none } }
  | .peerStale n => judgeUsing n (w.modifyPeer n fun r => { r with state := .stale })
  | .peerLost n => judgeUsing n (declareUsing .peerLost n (leaveSets n (w.modifyPeer n PeerRecord.lose)))
  | .negativeBalance i => declareAt .negativeBalance i (w.modifySlot i fun sl => { sl with negativeSince := none })
  | .settledTimeExpiry i => w.modifySlot i fun sl => { sl with settledSince := none }
  | .confirmExpiry i => w.modifySlot i (enterClear w)
  | .debouncedLevelChange .. | .confirmSweep .. | .confirmDirect .. => takeOperatorSample (sampledLevels c w) w
  | .selection i =>
    { w with operator := { w.operator with
        requestSince := w.operator.requestSince.set i none
        selection := match w.slot? i with
          | some _ => some { slot := i, since := w.now }
          | none => w.operator.selection } }
  | .selectionTimeout => { w with operator := { w.operator with selection := none } }
  | .windowExpiry i => w.modifySlot i (expireDemand w.now)
  | .lingerEnd i => w.modifySlot i fun sl => { sl with reset := { sl.reset with demand := none, lingerSince := none } }
  | .coolDownEnd i => w.modifySlot i fun sl => { sl with reset := { sl.reset with coolDownSince := none } }
  | .laneMismatch item => enterLockdown .laneMismatch { w with lanes := w.lanes.handOver item }
  | .clockCheckPeriodEnd measured =>
    if clockDisagrees measured then
      enterLockdown .clockFault { w with lanes := { w.lanes with periodSince := clockPeriodDue w } }
    else { w with lanes := { w.lanes with periodSince := clockPeriodDue w } }
  | .halfPeriodTick read =>
    setLevels (judgeCounts (compareAll read { w with outputs := { w.outputs with tickSince := halfPeriodDue w, watch := 0 } }))
  | .tickWatchExpiry =>
    judgeCounts { w with outputs := { w.outputs with
      watch := nextWatch w.outputs.watch, pairs := w.outputs.pairs.map ClearPair.release } }
  | .lampPatternStep i =>
    { w with outputs := { w.outputs with
        lamps := w.outputs.lamps.set i
          { w.outputs.lamps[i] with lit := !w.outputs.lamps[i].lit, since := (lampDue w i).getD w.now } } }
  | .statusLineToggle => { w with outputs := { w.outputs with status := { high := !w.outputs.status.high, since := statusDue w } } }
  | .alarmPatternStep =>
    match w.outputs.alarm.shows with
    | .standing c =>
      { w with outputs := { w.outputs with alarm := w.outputs.alarm.step ((alarmDue w).getD w.now) (alarmTimes c).length } }
    | _ => w
  | .refusalPatternStep =>
    { w with outputs := { w.outputs with
        alarm :=
          if w.outputs.alarm.place = 4 then Alarm.silence w.now
          else w.outputs.alarm.step ((refusalDue w).getD w.now) 5 } }
  | .healthLevelChange _ c high =>
    { w with
      head := Head.recover (w.head.firstQuiet w.now) (w.head.setHealth c (·.take w.now high))
      pins := w.pins.setHealth c high }
  | .queryOfUnknownKind _ kind _ => refuseQuery kind w

/-! ### What a command can do -/

/-- What a command other than a start does: nothing, while its timer does not run; time alone, with the frame it takes; or
its event at its instant, with the end of it. -/
inductive Taken (c : Instr) (s : State) : State → Prop where
  | still : frameTaken c = none → Taken c s s
  | waits (x : Tick) : Taken c s ((s.unhand c).reach x)
  | event (x : Tick) : Arises c s x →
      Taken c s (finish ((s.unhand c).reach x) (effect c ((s.unhand c).reach x)))

theorem Taken.of_whenDue {c : Instr} {s t : State} {due : Option Tick} {f : State → State}
    (h : whenDue due s f = .next t) (hframe : frameTaken c = none)
    (harises : ∀ x, due = some x → Arises c s x) (heffect : ∀ x, f (s.reach x) = effect c (s.reach x)) :
    Taken c s t := by
  have hunhand : s.unhand c = s := by simp [State.unhand, hframe]
  obtain ⟨-, rfl⟩ | ⟨x, hx, rfl⟩ := whenDue_cases h
  · exact .still hframe
  · have := Taken.event x (harises x hx)
    rw [hunhand] at this
    rw [heffect x]
    exact this

theorem Taken.of_onInput {c : Instr} {s u t : State} {x : Tick} {dt : Nat} {p : State → Bool} {f : State → State}
    (h : onInput dt u p f = .next t) (hpass : u.pass dt = (s.unhand c).reach x)
    (harises : p ((s.unhand c).reach x) = true → Arises c s x)
    (heffect : f ((s.unhand c).reach x) = effect c ((s.unhand c).reach x)) : Taken c s t := by
  obtain ⟨-, rfl⟩ | ⟨hp, rfl⟩ := onInput_cases h <;> rw [hpass] at *
  · exact .waits x
  · rw [heffect]; exact .event x (harises hp)

theorem execReceptionIdle_taken {dt : Nat} {burst : List LineChar} {s t : State}
    (h : execReceptionIdle dt burst s = .next t) : Taken (.receptionIdle dt burst) s t := by
  dsimp only [execReceptionIdle] at h
  cases hburst : burst.isEmpty <;> rw [hburst] at h
  · exact .of_onInput h (s.reach_of_wait_zero dt) id (by simp [effect, hburst])
  · exact .of_onInput h (s.reach_of_wait dt _) id (by simp [effect, hburst])

theorem execQueryOfUnknownKind_taken {dt : Nat} {kind parameter : Byte} {s t : State}
    (h : execQueryOfUnknownKind dt kind parameter s = .next t) :
    Taken (.queryOfUnknownKind dt kind parameter) s t := by
  rw [execQueryOfUnknownKind_eq] at h
  split at h
  next hknown =>
    have hunhand : s.unhand (.queryOfUnknownKind dt kind parameter) = s := by simp [State.unhand, frameTaken, hknown]
    have := Taken.waits (c := .queryOfUnknownKind dt kind parameter) (s := s) (s.now + dt)
    rw [hunhand, ← State.pass_eq_reach] at this
    cases h
    exact this
  next hunknown =>
    have hunhand : s.unhand (.queryOfUnknownKind dt kind parameter) = s.takeHanded (.query kind parameter) := by
      simp [State.unhand, frameTaken, hunknown]
    rw [onQuery, ← hunhand] at h
    exact .of_onInput h (State.pass_eq_reach _ dt) (fun hp => by rw [hunhand] at hp; exact hp) rfl

/-- What a command other than a start can do. -/
theorem exec_taken {c : Instr} {s t : State} (hstarts : ¬Starts c) (h : exec c s = .next t) : Taken c s t := by
  cases c with
  | powerOn | restart => exact absurd trivial hstarts
  | restartRelease | lineLoopTest | spike | healthLevelChange | debouncedLevelChange | confirmSweep | confirmDirect =>
    dsimp only [exec, execRestartRelease, execLineLoopTest, execSpike, execHealthLevelChange, execDebouncedLevelChange,
      execConfirmSweep, execConfirmDirect] at h
    exact .of_onInput h (State.pass_eq_reach s _) (fun hp => hp) rfl
  | statusQuery | sectionQuery | peersQuery | logQuery | clearDiag =>
    dsimp only [exec, execStatusQuery, execSectionQuery, execPeersQuery, execLogQuery, execClearDiag, onQuery] at h
    exact .of_onInput h (State.pass_eq_reach _ _) (fun hp => hp) rfl
  | configReadEnd =>
    dsimp only [exec, execConfigReadEnd] at h
    exact .of_onInput h (State.pass_eq_reach s _) (fun hp => by
      simp only [Bool.and_eq_true, beq_iff_eq, Bool.not_eq_true', and_assoc] at hp; exact hp) rfl
  | filteredChange =>
    dsimp only [exec, execFilteredChange] at h
    exact .of_onInput h (s.reach_of_wait _ _) (fun hp => by simp only [Bool.and_eq_true] at hp; exact hp) rfl
  | deferral =>
    dsimp only [exec, execDeferral] at h
    exact .of_onInput h (State.pass_eq_reach s _) (fun hp => by
      simp only [Bool.and_eq_true, Bool.not_eq_true'] at hp; exact hp) rfl
  | countTelegram =>
    dsimp only [exec, execCountTelegram] at h
    exact .of_onInput h (State.pass_eq_reach _ _) (fun hp => by simp only [Bool.and_eq_true] at hp; exact hp) rfl
  | receptionIdle => exact execReceptionIdle_taken h
  | queryOfUnknownKind => exact execQueryOfUnknownKind_taken h
  | tickWatchExpiry =>
    dsimp only [exec, execTickWatchExpiry] at h
    refine .of_whenDue h rfl (fun x hx => ?_) fun _ => rfl
    cases htick : s.outputs.tickSince <;> simp [htick] at hx
    exact ⟨by simp [htick], hx.symm⟩
  | stationTimeWrap | clockCheckPeriodEnd =>
    dsimp only [exec, execStationTimeWrap, execClockCheckPeriodEnd] at h
    exact .of_whenDue h rfl (fun x hx => Option.some.inj hx) fun _ => rfl
  | laneTest | readBackTest | silenceEnd | spikeQuietExpiry | headFault | headRecovery =>
    dsimp only [exec, execLaneTest, execReadBackTest, execSilenceEnd, execSpikeQuietExpiry, execHeadFault,
      execHeadRecovery] at h
    exact .of_whenDue h rfl (fun x hx => hx) fun _ => rfl
  | lineIdle | lineWin | collision | attemptCompletion | spacingEnd | heartbeatExpiry | lockdownTelegramTimer =>
    dsimp only [exec, execLineIdle, execLineWin, execCollision, execAttemptCompletion, execSpacingEnd,
      execHeartbeatExpiry, execLockdownTelegramTimer] at h
    exact .of_whenDue h rfl (fun x hx => hx) fun _ => rfl
  | peerStale | peerLost | negativeBalance | settledTimeExpiry | confirmExpiry | windowExpiry | lingerEnd | coolDownEnd =>
    dsimp only [exec, execPeerStale, execPeerLost, execNegativeBalance, execSettledTimeExpiry, execConfirmExpiry,
      execWindowExpiry, execLingerEnd, execCoolDownEnd] at h
    exact .of_whenDue h rfl (fun x hx => hx) fun _ => rfl
  | selection | selectionTimeout | laneMismatch | halfPeriodTick | lampPatternStep | statusLineToggle | alarmPatternStep
  | refusalPatternStep =>
    dsimp only [exec, execSelection, execSelectionTimeout, execLaneMismatch, execHalfPeriodTick, execLampPatternStep,
      execStatusLineToggle, execAlarmPatternStep, execRefusalPatternStep] at h
    exact .of_whenDue h rfl (fun x hx => hx) fun _ => rfl

/-! ### What the part's own clock can do -/

/-- With no command waiting the part raises events, lets a tick pass, or takes the samples of the tick, which lengthen runs
and may raise events. -/
inductive Idles (s : State) : State → Prop where
  | raises (pending : List Instr) (freeUses : Nat) : Idles s { s with pending := pending, freeUses := freeUses }
  | ticks : Idles s (tick s)
  | samples (pending : List Instr) (freeUses : Nat) (runA runB restartFrom : Option Tick) (runs : OperatorRuns)
      (sampled : State) : sampled = { s with
        sampleDue := false, restartFrom := restartFrom
        head := { s.head with a := { s.head.a with diffFrom := runA }, b := { s.head.b with diffFrom := runB } }
        operator := { s.operator with runs := runs } } →
      Idles s { noteRuns s sampled with pending := pending, freeUses := freeUses }

theorem raiseOne_eq (events : List TimedEvent) (s : State) :
    ∃ pending freeUses, raiseOne events s = { s with pending := pending, freeUses := freeUses } := by
  unfold raiseOne
  split <;> exact ⟨_, _, rfl⟩

theorem HeadChannel.extend_eq (now : Tick) (found : Sampled) (c : HeadChannel) :
    ∃ run, c.extend now found = { c with diffFrom := run } := by
  unfold HeadChannel.extend
  split <;> exact ⟨_, rfl⟩

theorem sampleHead_eq (s : State) : ∃ runA runB, (sampleHead s).1 = { s with
    head := { s.head with a := { s.head.a with diffFrom := runA }, b := { s.head.b with diffFrom := runB } } } := by
  unfold sampleHead
  split
  · obtain ⟨runA, hA⟩ := HeadChannel.extend_eq s.now (sampleChannel s.filterSamples s.now s.pins.head.hca s.head.a) s.head.a
    obtain ⟨runB, hB⟩ := HeadChannel.extend_eq s.now (sampleChannel s.filterSamples s.now s.pins.head.hcb s.head.b) s.head.b
    exact ⟨runA, runB, by dsimp only; rw [hA, hB]⟩
  · exact ⟨_, _, rfl⟩

theorem sampleOperator_eq (s : State) :
    ∃ runs, (sampleOperator s).1 = { s with operator := { s.operator with runs := runs } } := by
  unfold sampleOperator
  split <;> exact ⟨_, rfl⟩

theorem sampleRestart_eq (s : State) : ∃ first, (sampleRestart s).1 = { s with restartFrom := first } := by
  unfold sampleRestart
  split <;> exact ⟨_, rfl⟩

theorem raiseSampled_eq (events : List Instr) (s : State) :
    ∃ pending freeUses, raiseSampled events s = { s with pending := pending, freeUses := freeUses } := by
  unfold raiseSampled
  split <;> exact ⟨_, _, rfl⟩

/-- A sample of `s`, of which the events raised and the free values used before it are no part. -/
theorem sample_idles (s : State) (used : Nat) : Idles s (sample { s with freeUses := used }) := by
  obtain ⟨runA, runB, hhead⟩ := sampleHead_eq { s with freeUses := used, sampleDue := false }
  obtain ⟨runs, hoperator⟩ := sampleOperator_eq (sampleHead { s with freeUses := used, sampleDue := false }).1
  obtain ⟨first, hrestart⟩ :=
    sampleRestart_eq (sampleOperator (sampleHead { s with freeUses := used, sampleDue := false }).1).1
  unfold sample
  extract_lets head operator restart
  have hsampled : restart.1 = { s with
      freeUses := used, sampleDue := false, restartFrom := first
      head := { s.head with a := { s.head.a with diffFrom := runA }, b := { s.head.b with diffFrom := runB } }
      operator := { s.operator with runs := runs } } := by
    exact hrestart.trans (by rw [hoperator, hhead])
  obtain ⟨pending, freeUses, hraised⟩ := raiseSampled_eq (head.2 ++ operator.2 ++ restart.2)
    (noteRuns { s with freeUses := used } restart.1)
  rw [hraised, hsampled]
  have := Idles.samples (s := s) pending freeUses runA runB first runs _ rfl
  unfold noteRuns at this ⊢
  split
  next h =>
    rw [if_pos (by exact h)] at this
    exact this
  next h =>
    rw [if_neg (by exact h)] at this
    exact this

theorem raiseOne_idles (events : List TimedEvent) (s : State) (used : Nat) :
    Idles s (raiseOne events { s with freeUses := used }) := by
  obtain ⟨pending, freeUses, h⟩ := raiseOne_eq events { s with freeUses := used }
  rw [h]
  exact .raises pending freeUses

/-- What the part can do with no command waiting. -/
theorem idle_idles (s : State) : Idles s (idle s) := by
  unfold idle
  split
  · exact .raises ..
  · split
    · exact sample_idles s s.freeUses
    · exact .ticks
    · unfold sampleOrRaise
      split
      · exact sample_idles s _
      · exact raiseOne_idles _ s _
    · exact raiseOne_idles _ s s.freeUses

/-! ### What a step can do -/

/-- What a power-on or a restart does: nothing, in an activation already taken, or every block at its start value but for the
log and the lockdown record (R33, R51). -/
inductive Started (s : State) : State → Prop where
  | held : s.restartHeld = true → Started s s
  | fresh (held reading : Bool) (log : List LogEntry) (record : Option LockdownRecord) (pins : Pins) (freeUses : Nat) :
      log = [] ∨ log = appendEntry s.log restartMark →
      Started s (alignLanes { State.reset with
        restartHeld := held, reading := reading, log := log, lockdownRecord := record, pins := pins, freeUses := freeUses,
        pending := s.pending })

theorem exec_started {c : Instr} {s t : State} (hstarts : Starts c) (h : exec c s = .next t) : Started s t := by
  cases c with
  | powerOn active => cases h; exact .fresh _ _ [] none _ _ (.inl rfl)
  | restart =>
    dsimp only [exec, execRestart] at h
    split at h <;> cases h
    next hheld => exact .held hheld
    next => exact .fresh true false _ s.lockdownRecord _ _ (.inr rfl)
  | _ => exact hstarts.elim

/-- What a step can do: a command at the front of the queue starts the part afresh or is taken, or the part runs on its own
clock. -/
inductive Steps (s : State) : State → Prop where
  | starts {c : Instr} {rest : List Instr} {t : State} : s.pending = c :: rest → Starts c →
      Started { s with pending := rest } t → Steps s t
  | takes {c : Instr} {rest : List Instr} {t : State} : s.pending = c :: rest → ¬Starts c →
      Taken c { s with pending := rest } t → Steps s t
  | idles {t : State} : s.pending = [] → Idles s t → Steps s t

theorem step_steps {s t : State} (h : step s = .next t) : Steps s t := by
  unfold step at h
  split at h
  next c rest hpending =>
    by_cases hstarts : Starts c
    · exact .starts hpending hstarts (exec_started hstarts h)
    · exact .takes hpending hstarts (exec_taken hstarts h)
  next hpending => cases h; exact .idles hpending (idle_idles s)

/-- An invariant that says nothing of the queue is kept by every step if it holds at a start, and time, the event of every
command with its end, and the part's own clock keep it. -/
theorem step_keeps {P : State → Prop} {s t : State} (h : step s = .next t)
    (hpending : ∀ rest, P s → P { s with pending := rest })
    (hstart : ∀ held reading log record pins freeUses pending, log = [] ∨ log = appendEntry s.log restartMark →
      P (alignLanes { State.reset with
        restartHeld := held, reading := reading, log := log, lockdownRecord := record, pins := pins, freeUses := freeUses,
        pending := pending }))
    (hreach : ∀ c x rest, P s → P ((State.unhand c { s with pending := rest }).reach x))
    (hevent : ∀ c x rest, Arises c { s with pending := rest } x →
      P ((State.unhand c { s with pending := rest }).reach x) →
      P (finish ((State.unhand c { s with pending := rest }).reach x)
        (effect c ((State.unhand c { s with pending := rest }).reach x))))
    (hidle : ∀ u, Idles s u → P s → P u) (hP : P s) : P t := by
  cases step_steps h with
  | starts hqueue _ hstarted =>
    cases hstarted with
    | held => exact hpending _ hP
    | fresh held reading log record pins freeUses hlog => exact hstart _ _ _ _ _ _ _ hlog
  | takes hqueue _ htaken =>
    cases htaken with
    | still => exact hpending _ hP
    | waits x => exact hreach _ _ _ hP
    | event x harises => exact hevent _ _ _ harises (hreach _ _ _ hP)
  | idles _ hidles => exact hidle _ hidles hP

end Sys2Proof.Machine
end

section
/-! PROOFS. What each compound operation can change, once for each: the fields written, everything else as it stood. -/

namespace Sys2Proof.Machine

/-! ### Reasons and what is shown -/

theorem takeReason_eq (s : State) : ∃ request, takeReason s = { s with builder := { s.builder with request := request } } := by
  obtain h | h := takeReason_cases s <;> rw [h] <;> exact ⟨_, rfl⟩

theorem noteChange_eq (b s : State) :
    ∃ request, noteChange b s = { s with builder := { s.builder with request := request } } := by
  obtain h | h := noteChange_cases b s <;> rw [h] <;> exact ⟨_, rfl⟩

theorem notice_eq (b s : State) : ∃ request lamps status alarm, notice b s =
    { s with
      builder := { s.builder with request := request }
      outputs := { s.outputs with lamps := lamps, status := status, alarm := alarm } } := by
  obtain ⟨request, h⟩ := noteChange_eq b s
  exact ⟨request, _, _, _, by rw [notice, h]; rfl⟩

/-! ### Causes -/

theorem declareOn_eq (cause : Cause) (station : Nat) (p : Slot → Bool) (s : State) :
    ∃ slots, declareOn cause station p s = { s with slots := slots } := by
  unfold declareOn
  split <;> exact ⟨_, rfl⟩

theorem peerLost_eq (n : Nat) (s : State) :
    ∃ slots, effect (.peerLost n) s = { s.modifyPeer n PeerRecord.lose with slots := slots } := by
  obtain ⟨slots, h⟩ := declareOn_eq .peerLost n (fun sl => sl.uses s.own n) (leaveSets n (s.modifyPeer n PeerRecord.lose))
  have hdeclared : declareUsing .peerLost n (leaveSets n (s.modifyPeer n PeerRecord.lose)) =
    { leaveSets n (s.modifyPeer n PeerRecord.lose) with slots := slots } := h
  exact ⟨_, by dsimp only [effect]; rw [hdeclared]; rfl⟩

theorem declareAt_eq (cause : Cause) (i : Fin 4) (s : State) :
    ∃ slots, declareAt cause i s = { s with slots := slots } := by
  unfold declareAt
  split <;> exact ⟨_, rfl⟩

theorem judge_declareAll_eq (cause : Cause) (s : State) :
    ∃ slots, judgeAll (declareAll cause s) = { s with slots := slots } := by
  obtain ⟨slots, h⟩ := declareOn_eq cause s.own (fun _ => true) s
  exact ⟨_, by rw [declareAll, h]; rfl⟩

/-! ### An accepted telegram -/

theorem readRound_eq (order : TakingOrder) (first : Bool) (after : PeerRecord) (judged : Bool) (s : State) :
    ∃ slots request lamps status alarm, readRound order first after judged s = { s with
      slots := slots, builder := { s.builder with request := request }
      outputs := { s.outputs with lamps := lamps, status := status, alarm := alarm } } := by
  unfold readRound
  extract_lets read
  obtain ⟨request, lamps, status, alarm, hread⟩ := notice_eq s (readViews order first after judged s)
  obtain ⟨request', lamps', status', alarm', hround⟩ := notice_eq read (rangesAfter s read)
  refine ⟨(rangesAfter s read).slots, request', lamps', status', alarm', ?_⟩
  rw [hround, show read = _ from hread]
  rfl

theorem handViews_eq (order : TakingOrder) (before after : PeerRecord) (s : State) :
    ∃ slots request lamps status alarm, handViews order before after s = { s with
      slots := slots, builder := { s.builder with request := request }
      outputs := { s.outputs with lamps := lamps, status := status, alarm := alarm } } := by
  obtain ⟨_, _, _, _, _, hfirst⟩ := readRound_eq order true after (totalsChange before after) s
  obtain ⟨slots, request, lamps, status, alarm, hsecond⟩ := readRound_eq order false after (totalsChange before after)
    (readRound order true after (totalsChange before after) s)
  refine ⟨slots, request, lamps, status, alarm, ?_⟩
  rw [handViews, hsecond, hfirst]

/-- The record of the sender's station after an accepted telegram, in the table (R91, R100). -/
def acceptedPeers (r : PeerRecord) (j : Judgement) (t : Telegram) (s : State) : List PeerRecord :=
  (s.modifyPeer r.station fun _ => r.accept s.now s.own s.slots j t).peers

theorem acceptTelegram_eq (r : PeerRecord) (j : Judgement) (t : Telegram) (order : TakingOrder) (s : State) :
    ∃ slots request lamps status alarm, acceptTelegram r j t order s = { s with
      peers := acceptedPeers r j t s, slots := slots, builder := { s.builder with request := request }
      outputs := { s.outputs with lamps := lamps, status := status, alarm := alarm } } := by
  unfold acceptTelegram
  extract_lets accepted recorded known
  have hknown : ∃ slots, known = { s with peers := acceptedPeers r j t s, slots := slots } := by
    dsimp only [known]
    split <;> exact ⟨_, rfl⟩
  obtain ⟨slots, hknown⟩ := hknown
  obtain ⟨_, _, _, _, hnotice⟩ := notice_eq s (takeItems order r accepted (itemsOf r j t) known)
  obtain ⟨slots', request, lamps, status, alarm, hviews⟩ :=
    handViews_eq order r accepted (notice s (takeItems order r accepted (itemsOf r j t) known))
  refine ⟨slots', request, lamps, status, alarm, ?_⟩
  rw [hviews, hnotice, hknown]
  rfl

/-- A telegram is discarded, with nothing changed, or accepted (R88, R89). -/
theorem judgeTelegram_cases (r : PeerRecord) (t : Telegram) (order : TakingOrder) (s : State) :
    judgeTelegram r t order s = s ∨
      (wellFormedTelegram t = true ∧ judgeSequence r t.sequence ≠ .duplicate ∧
        judgeTelegram r t order s = acceptTelegram r (judgeSequence r t.sequence) t order s) := by
  unfold judgeTelegram
  split
  next hwell =>
    split
    · exact .inl rfl
    · exact .inr ⟨hwell, by assumption, rfl⟩
  · exact .inl rfl

/-! ### The operator lines -/

theorem requestRefusal_eq (s : State) :
    ∃ alarm, requestRefusal s = { s with outputs := { s.outputs with alarm := alarm } } := by
  unfold requestRefusal
  split <;> exact ⟨_, rfl⟩

theorem refuseConfirmation_eq (i : Fin 4) (s : State) : ∃ alarm, refuseConfirmation i s =
    { s.modifySlot i fun sl => { sl with reset := { sl.reset with outcome := .refused } } with
      outputs := { s.outputs with alarm := alarm } } := by
  obtain ⟨alarm, h⟩ := requestRefusal_eq (s.modifySlot i fun sl => { sl with reset := { sl.reset with outcome := .refused } })
  exact ⟨alarm, h⟩

/-- What a confirm edge does: nothing without a selection, a refusal, or a demand issued on a slot that accepts it. -/
inductive EdgeJudged (s : State) : State → Prop where
  | nothing : EdgeJudged s s
  | deselects : EdgeJudged s { s with operator := { s.operator with selection := none } }
  | refuses (i : Fin 4) (alarm : Alarm) : requestRefusal s = { s with outputs := { s.outputs with alarm := alarm } } →
      EdgeJudged s { s.modifySlot i fun sl => { sl with reset := { sl.reset with outcome := .refused } } with
        outputs := { s.outputs with alarm := alarm }, operator := { s.operator with selection := none } }
  | issues (i : Fin 4) (kind : ResetKind) (sl : Slot) : s.slot? i = some sl → refusedConfirmation s sl kind = false →
      EdgeJudged s { issueDemand i kind s with
        operator := { s.operator with
          demandNumber := nextDemandNumber s.operator.demandNumber, selection := none } }

theorem refuseConfirmation_judged (i : Fin 4) (s : State) :
    EdgeJudged s { refuseConfirmation i s with
      operator := { (refuseConfirmation i s).operator with selection := none } } := by
  obtain ⟨alarm, h⟩ := requestRefusal_eq s
  have hrefused : refuseConfirmation i s =
      { s.modifySlot i fun sl => { sl with reset := { sl.reset with outcome := .refused } } with
        outputs := { s.outputs with alarm := alarm } } := by
    unfold refuseConfirmation requestRefusal at *
    have hcondition : (s.modifySlot i fun sl => { sl with reset := { sl.reset with outcome := .refused } }).alarmCondition =
        s.alarmCondition := rfl
    rw [hcondition]
    cases hc : s.alarmCondition <;> rw [hc] at h
    · have := congrArg (·.outputs.alarm) h
      dsimp only at this ⊢
      rw [← this]
      rfl
    · have := congrArg (·.outputs.alarm) h
      dsimp only at this ⊢
      rw [← this]
      rfl
  rw [hrefused]
  exact .refuses i alarm h

theorem confirm_judged (i : Fin 4) (kind : ResetKind) (s : State) :
    EdgeJudged s { confirm i kind s with operator := { (confirm i kind s).operator with selection := none } } := by
  unfold confirm
  split
  next sl hslot =>
    split
    next => exact refuseConfirmation_judged i s
    next haccepted => exact .issues i kind sl hslot (by simpa using haccepted)
  next => exact .deselects

theorem judgeEdge_judged (cfs cfd : Bool) (s : State) : EdgeJudged s (judgeEdge cfs cfd s) := by
  unfold judgeEdge
  split
  · exact .nothing
  · cases cfs <;> cases cfd
    · exact refuseConfirmation_judged ..
    · exact confirm_judged ..
    · exact confirm_judged ..
    · exact refuseConfirmation_judged ..

/-- One sample of the operator lines takes the levels, and judges an active edge of a confirm line. -/
theorem takeOperatorSample_judged (levels : OperatorLevels) (s : State) :
    EdgeJudged (takeLevels levels s) (takeOperatorSample levels s) := by
  unfold takeOperatorSample
  dsimp only
  split
  · exact judgeEdge_judged ..
  · exact .nothing

theorem EdgeJudged.eq {s t : State} (h : EdgeJudged s t) : ∃ slots operator alarm, t = { s with
    slots := slots, operator := operator, outputs := { s.outputs with alarm := alarm } } := by
  cases h <;> exact ⟨_, _, _, rfl⟩

theorem takeOperatorSample_eq (levels : OperatorLevels) (s : State) : ∃ slots operator pins alarm,
    takeOperatorSample levels s = { s with
      slots := slots, operator := operator, pins := pins, outputs := { s.outputs with alarm := alarm } } := by
  obtain ⟨slots, operator, alarm, h⟩ := (takeOperatorSample_judged levels s).eq
  exact ⟨slots, operator, _, alarm, h⟩

/-! ### Queries -/

/-- The answer of a query in range. -/
theorem answerSection_eq (parameter : Byte) (s : State) :
    ∃ answer, answerSection parameter s = { s with line := { s.line with answerSlot := some answer } } := by
  unfold answerSection
  split <;> exact ⟨_, rfl⟩

/-- A query is refused, which places an answer alone, or answered (R178). -/
theorem judgeQuery_cases (kind : Byte) (inRange : Bool) (answer : State → State) (s : State) :
    judgeQuery kind inRange answer s = refuseQuery kind s ∨
      (s.lockdown = false ∧ judgeQuery kind inRange answer s = answer s) := by
  unfold judgeQuery
  split
  · exact .inl rfl
  · rename_i h; exact .inr ⟨by simp_all, rfl⟩

/-! ### The line -/

theorem telegramDropped_eq (s : State) : ∃ request since, telegramDropped s =
    { s with builder := { s.builder with request := request, lockdownSince := since } } := by
  unfold telegramDropped
  split
  · exact ⟨_, _, rfl⟩
  · split
    · obtain ⟨request, h⟩ := takeReason_eq s
      rw [h]
      exact ⟨_, _, rfl⟩
    · exact ⟨_, _, rfl⟩

theorem dropFrame_eq (s : State) : ∃ slots request since, dropFrame s = { s with
    line := (leaveService (countDrop s)).line, slots := slots
    builder := { s.builder with request := request, lockdownSince := since } } := by
  have htold : ∃ request since, (if s.line.service = some .telegram then telegramDropped (leaveService (countDrop s))
      else leaveService (countDrop s)) = { s with
        line := (leaveService (countDrop s)).line
        builder := { s.builder with request := request, lockdownSince := since } } := by
    split
    · obtain ⟨request, since, h⟩ := telegramDropped_eq (leaveService (countDrop s))
      exact ⟨request, since, h⟩
    · exact ⟨_, _, rfl⟩
  obtain ⟨request, since, h⟩ := htold
  unfold dropFrame
  dsimp only
  rw [h]
  split
  · obtain ⟨slots, hdeclared⟩ := declareOn_eq .lineFault s.own (fun _ => true) { s with
      line := (leaveService (countDrop s)).line
      builder := { s.builder with request := request, lockdownSince := since } }
    exact ⟨slots, request, since, hdeclared⟩
  · exact ⟨_, _, _, rfl⟩

theorem compareCopies_eq (fault : Bool) (s : State) : ∃ faulty differing,
    compareCopies fault s = { s with lanes := { s.lanes with faulty := faulty, differing := differing } } := by
  unfold compareCopies
  split <;> exact ⟨_, _, rfl⟩

/-! ### The start phases -/

theorem enterRun_eq (s : State) : ∃ request, enterRun s =
    judgeAll { s with phase := .run, silenceOver := true, builder := { s.builder with request := request } } := by
  obtain ⟨request, h⟩ := takeReason_eq { s with phase := .run, silenceOver := true }
  exact ⟨request, by rw [enterRun, h]⟩

/-- Entry to SILENCE, or to RUN at once (R47, R48). -/
theorem enterSilence_cases (s : State) :
    (s.now < silenceTicks ∧ enterSilence s = { s with
      phase := .silence, selfTest := none, outputs := { s.outputs with tickSince := some s.now, watch := 0 } }) ∨
    (silenceTicks ≤ s.now ∧ enterSilence s = enterRun { s with
      phase := .silence, selfTest := none, outputs := { s.outputs with tickSince := some s.now, watch := 0 } }) := by
  unfold enterSilence
  dsimp only
  split
  next h => exact .inr ⟨h, rfl⟩
  next h => exact .inl ⟨Nat.lt_of_not_le h, rfl⟩

/-! ### Lockdown -/

/-- What entry to lockdown writes (R161). -/
theorem enterLockdown_eq {cause : LockdownCause} {s : State} (h : s.lockdown = false) :
    ∃ silenceOver builder line, enterLockdown cause s = { s with
      lockdown := true, lockdownRecord := some { cause := cause, time := s.stationTime }, reading := false, selfTest := none
      detector := { s.detector with state := .idle, leadAt := none, heldCount := s.passageTicks, rocked := false }
      slots := s.slots.map Slot.unclear
      silenceOver := silenceOver, builder := builder, line := line } := by
  have hend : ∃ line, endLoopTest cause s = { s with line := line } := by
    unfold endLoopTest
    split <;> exact ⟨_, rfl⟩
  have hfirst : ∀ u : State, ∃ silenceOver request, firstLockdownTelegram u =
      { u with silenceOver := silenceOver, builder := { u.builder with request := request } } := by
    intro u
    unfold firstLockdownTelegram
    split
    · obtain ⟨request, hr⟩ := takeReason_eq { u with silenceOver := true }
      exact ⟨_, request, hr⟩
    · exact ⟨_, _, rfl⟩
  obtain ⟨line, hend⟩ := hend
  obtain ⟨silenceOver, request, hfirst⟩ := hfirst (builderAtLockdown (abandonFrames (dropPassage
    { s with
      line := line, lockdown := true, lockdownRecord := some { cause := cause, time := s.stationTime }, reading := false
      selfTest := none })))
  rw [enterLockdown, if_neg (by simp [h])]
  dsimp only
  rw [hend, hfirst, judgeAll_of_lockdown rfl]
  exact ⟨silenceOver, _, _, rfl⟩

/-- An operation that may enter lockdown leaves the state as it is, or enters it. -/
theorem judgeCounts_cases (s : State) :
    judgeCounts s = s ∨ judgeCounts s = enterLockdown .outputReadback
      { s with outputs := { s.outputs with pairs := s.outputs.pairs.map ClearPair.forget } } := by
  unfold judgeCounts
  split
  · exact .inr rfl
  · exact .inl rfl

/-! ### A burst -/

/-- A burst that ends leaves the receiver and the line's counters, and may enter lockdown or hand a frame on. -/
theorem takeVerdict_cases (v : Verdict) (s : State) :
    (∃ bad, takeVerdict v s = { s with line := { s.line with framesBad := bad } }) ∨
    (∃ good handed, takeVerdict v s = { s with line := { s.line with framesGood := good }, handed := handed }) ∨
    (∃ good, takeVerdict v s = enterLockdown .duplicateStation { s with line := { s.line with framesGood := good } }) := by
  cases v with
  | notJudged => exact .inl ⟨_, rfl⟩
  | invalid => exact .inl ⟨_, rfl⟩
  | valid body =>
    obtain ⟨counted, rfl, ⟨-, h⟩ | ⟨-, -, h⟩ | ⟨-, frame, -, h⟩⟩ := receiveFrame_cases body s <;>
      rw [show takeVerdict (.valid body) s = receiveFrame body s from rfl, h]
    · exact .inr (.inr ⟨_, rfl⟩)
    · exact .inr (.inl ⟨_, _, rfl⟩)
    · exact .inr (.inl ⟨_, _, rfl⟩)

/-! ### A passage that ends -/

theorem endPassage_eq (ending : Ending) (s : State) : ∃ slots txy tyx log, endPassage ending s =
    { s with slots := slots, txy := txy, tyx := tyx, log := log } := by
  cases ending with
  | goesOn | drawnBack => exact ⟨_, _, _, _, rfl⟩
  | completes direction skew rocked =>
    dsimp only [endPassage]
    split
    · obtain ⟨slots, h⟩ := judge_declareAll_eq .passageUnresolved
        (logPassage .unresolved (passageSpeed s.spacing skew) rocked s)
      exact ⟨slots, _, _, _, h⟩
    · cases direction <;> exact ⟨_, _, _, _, rfl⟩
  | unresolved rocked =>
    obtain ⟨slots, h⟩ := judge_declareAll_eq .passageUnresolved (logPassage .unresolved 0 rocked s)
    exact ⟨slots, _, _, _, h⟩

end Sys2Proof.Machine
end

section
/-! PROOFS. The passage automaton stands for the filtered levels (R8, R9): what a state has to agree in for that, the head's
recovery time, the automaton's moves with the levels of a filtered change, and every step. -/

namespace Sys2Proof.Machine

/-! ### What the soundness of the detector reads -/

/-- Two states agree in what `DetectorSound` reads. -/
structure SameDetection (s t : State) : Prop where
  state : t.head.state = s.head.state
  filteredA : t.head.a.filtered = s.head.a.filtered
  filteredB : t.head.b.filtered = s.head.b.filtered
  healthA : t.head.healthA.level = s.head.healthA.level
  healthB : t.head.healthB.level = s.head.healthB.level
  recoverFrom : t.head.recoverFrom = s.head.recoverFrom
  automaton : t.detector.state = s.detector.state
  lockdown : t.lockdown = s.lockdown
  configured : t.configured = s.configured

theorem SameDetection.follows {s t : State} (h : SameDetection s t) : t.follows = s.follows := by
  simp [State.follows, h.state, h.lockdown]

theorem DetectorSound.of_same {s t : State} (hs : DetectorSound s) (h : SameDetection s t) : DetectorSound t := by
  obtain ⟨hlevels, hsampled, hidle, hrecovery, hstarting⟩ := hs
  refine ⟨?_, ?_, ?_, ?_, ?_⟩ <;>
    simpa only [h.follows, h.state, h.filteredA, h.filteredB, h.healthA, h.healthB, h.recoverFrom, h.automaton,
      h.configured]

/-- An operation that writes none of head, detector, lockdown and phase. -/
theorem DetectorSound.of_eq {s t : State} (hs : DetectorSound s) (hhead : t.head = s.head)
    (hdetector : t.detector = s.detector) (hlockdown : t.lockdown = s.lockdown) (hphase : t.phase = s.phase) :
    DetectorSound t :=
  hs.of_same ⟨by rw [hhead], by rw [hhead], by rw [hhead], by rw [hhead], by rw [hhead], by rw [hhead], by rw [hdetector],
    hlockdown, by simp [State.configured, hphase]⟩

theorem configured_eq {s t : State} (h : t.phase = s.phase) : t.configured = s.configured := by
  simp [State.configured, h]

theorem DetectorSound.finish {u : State} (h : DetectorSound u) (b : State) : DetectorSound (finish b u) :=
  h.of_eq (finish_head b u) (finish_detector b u) (finish_lockdown b u) (finish_phase b u)

/-! ### The recovery time (R8) -/

theorem Head.quiet_iff {h : Head} : h.quiet = true ↔ h.a.filtered = some false ∧ h.b.filtered = some false ∧
    h.healthA.level = some true ∧ h.healthB.level = some true := by
  simp only [Head.quiet, Bool.and_eq_true, beq_iff_eq, and_assoc]
  exact ⟨fun ⟨ha, hb, h⟩ => ⟨h.1, h.2, ha, hb⟩, fun ⟨ha, hb, h⟩ => ⟨h.1, h.2, ha, hb⟩⟩

/-- A recovery time that stands after a sample finds all inputs at rest (R8). -/
theorem Head.recover_quiet {first : Tick} {h : Head} (hruns : (h.recover first).recoverFrom ≠ none) :
    (h.recover first).a.filtered = some false ∧ (h.recover first).b.filtered = some false ∧
      (h.recover first).healthA.level = some true ∧ (h.recover first).healthB.level = some true := by
  have hquiet : h.quiet = true := by
    refine Classical.byContradiction fun hnot => ?_
    simp [Head.recover, hnot] at hruns
  exact Head.quiet_iff.mp hquiet

@[simp] theorem Head.recover_state (first : Tick) (h : Head) : (h.recover first).state = h.state := rfl
@[simp] theorem Head.recover_a (first : Tick) (h : Head) : (h.recover first).a = h.a := rfl
@[simp] theorem Head.recover_b (first : Tick) (h : Head) : (h.recover first).b = h.b := rfl
@[simp] theorem Head.recover_healthA (first : Tick) (h : Head) : (h.recover first).healthA = h.healthA := rfl
@[simp] theorem Head.recover_healthB (first : Tick) (h : Head) : (h.recover first).healthB = h.healthB := rfl

/-! ### Lockdown, the image and the head -/

/-- Entry to lockdown leaves the automaton IDLE (R20). -/
theorem enterLockdown_sound {w : State} (hs : DetectorSound w) (cause : LockdownCause) :
    DetectorSound (enterLockdown cause w) := by
  cases hlocked : w.lockdown
  · obtain ⟨silenceOver, builder, line, heq⟩ := enterLockdown_eq (cause := cause) hlocked
    have hfollows : (enterLockdown cause w).follows = false := by simp [State.follows]
    refine ⟨fun h => ?_, fun h => ?_, fun _ => by rw [heq], ?_, ?_⟩
    · simp [hfollows] at h
    · simp [hfollows] at h
    · rw [enterLockdown_head]; exact hs.recovery
    · rw [configured_eq (enterLockdown_phase cause w), enterLockdown_head]; exact hs.starting
  · rwa [enterLockdown_of_lockdown hlocked]

theorem passImage_sound {w : State} (hs : DetectorSound w) (hphase : w.phase = .configRead) (im : Image)
    (first : HeadLevels) : DetectorSound (passImage im first w) := by
  have hstarting : w.head.state = .starting := hs.starting (by simp [State.configured, hphase])
  have hfollows : (passImage im first w).follows = false := by
    simp [State.follows, passImage, Head.firstSample, hstarting]
  refine ⟨fun h => ?_, fun h => ?_, fun _ => ?_, Head.recover_quiet, fun h => ?_⟩
  · simp [hfollows] at h
  · simp [hfollows] at h
  · exact hs.idle (by simp [State.follows, hstarting])
  · simp [State.configured, passImage] at h

theorem failImage_sound {w : State} (hs : DetectorSound w) (hphase : w.phase = .configRead) :
    DetectorSound (failImage w) :=
  hs.of_same ⟨rfl, rfl, rfl, rfl, rfl, rfl, rfl, rfl, by simp [failImage, State.configured, hphase]⟩

/-- A head that is FAULTY and an automaton that is IDLE are sound, whatever the inputs (R8, R9). -/
theorem DetectorSound.of_faulty {t : State} (hstate : t.head.state = .faulty) (hidle : t.detector.state = .idle)
    (hrecovery : t.head.recoverFrom ≠ none → t.head.a.filtered = some false ∧ t.head.b.filtered = some false ∧
      t.head.healthA.level = some true ∧ t.head.healthB.level = some true) (hconfigured : t.configured = true) :
    DetectorSound t := by
  have hfollows : t.follows = false := by simp [State.follows, hstate]
  exact ⟨fun h => by simp [hfollows] at h, fun h => by simp [hfollows] at h, fun _ => hidle, hrecovery,
    fun h => by simp [hconfigured] at h⟩

theorem failHead_sound {w : State} (hconfigured : w.configured = true) : DetectorSound (failHead w) := by
  unfold failHead
  dsimp only
  split
  next hidle => exact .of_faulty rfl hidle Head.recover_quiet hconfigured
  next => exact .of_faulty rfl rfl Head.recover_quiet hconfigured

/-- A spike at the limit finds the automaton IDLE, and any other leaves the state of the head (R3, R5). -/
theorem takeSpike_sound {w : State} (hs : DetectorSound w) (hconfigured : w.configured = true) (c : Channel) :
    DetectorSound (takeSpike c w) := by
  cases hlimit : reachesLimit c w
  · obtain ⟨hlevels, hsampled, hidle, -, -⟩ := hs
    have hstate : (takeSpike c w).head.state = w.head.state := by simp [takeSpike, hlimit]
    have hfollows : (takeSpike c w).follows = w.follows := by simp [State.follows, hstate]
    have ha : (takeSpike c w).head.a.filtered = w.head.a.filtered := by cases c <;> rfl
    have hb : (takeSpike c w).head.b.filtered = w.head.b.filtered := by cases c <;> rfl
    refine ⟨?_, ?_, ?_, Head.recover_quiet, fun h => ?_⟩
    · rw [hfollows, ha, hb]; exact hlevels
    · rw [hfollows, ha, hb]; exact hsampled
    · rw [hfollows]; exact hidle
    · exact absurd (h.symm.trans hconfigured) (by simp)
  · have hidle : w.detector.state = .idle := by
      simp only [reachesLimit, Bool.and_eq_true, beq_iff_eq] at hlimit
      exact hlimit.1.1
    exact .of_faulty (by simp [takeSpike, hlimit]) hidle Head.recover_quiet hconfigured

/-- The recovery time runs only with all inputs at rest, where IDLE stands for the levels (R8, R9). -/
theorem headRecovery_sound {w : State} {x : Tick} (hs : DetectorSound w) (hdue : headRecoveryDue w = some x) :
    DetectorSound (judgeAll { w with head := { w.head with state := .counting, recoverFrom := none } }) := by
  unfold headRecoveryDue at hdue
  split at hdue
  case isFalse => cases hdue
  case isTrue hconditions =>
    obtain ⟨hconfigured, hstate⟩ := hconditions
    have hruns : w.head.recoverFrom ≠ none := by
      intro h
      simp [h, after] at hdue
    obtain ⟨ha, hb, -, -⟩ := hs.recovery hruns
    have hidle : w.detector.state = .idle := hs.idle (by simp [State.follows, hstate])
    refine ⟨fun _ l hl => ?_, fun _ => ?_, fun _ => hidle, fun h => absurd rfl h, fun h => ?_⟩
    · obtain rfl : (false, false) = l := Option.some.inj ((congrArg Automaton.levels hidle).symm.trans hl)
      exact ⟨ha, hb⟩
    · exact ⟨by simp [ha], by simp [hb]⟩
    · exact absurd (h.symm.trans hconfigured) (by simp)

theorem healthLevel_sound {w : State} (hs : DetectorSound w) (hconfigured : w.configured = true) (c : Channel)
    (high : Bool) (first : Tick) (pins : Pins) :
    DetectorSound { w with head := Head.recover first (w.head.setHealth c (·.take w.now high)), pins := pins } := by
  obtain ⟨hlevels, hsampled, hidle, -, -⟩ := hs
  refine ⟨?_, ?_, ?_, Head.recover_quiet, fun h => ?_⟩
  · cases c <;> exact hlevels
  · cases c <;> exact hsampled
  · cases c <;> exact hidle
  · exact absurd (h.symm.trans hconfigured) (by simp)

/-! ### A filtered change (R9, R12, R13, R16) -/

@[simp] theorem HeadChannel.change_filtered (changed : Bool) (c : HeadChannel) :
    (c.change changed).filtered = c.filtered.map (fun l => l != changed) := by
  cases hc : c.filtered <;> cases changed <;> simp [HeadChannel.change, hc]

/-- The state and the levels after the changes of one sample stand for each other if they did before it (R12, R13, R16). -/
theorem Detector.take_levels {d : Detector} {a b : Bool} (h : ∀ l, d.state.levels = some l → l = (a, b))
    (now ticks : Nat) (changedA changedB : Bool) :
    ∀ l, (d.take now ticks changedA changedB (a != changedA) (b != changedB)).1.state.levels = some l →
      l = (a != changedA, b != changedB) := by
  obtain ⟨state, leadAt, heldCount, trail, rocked⟩ := d
  cases state with
  | unresolved =>
    cases a <;> cases b <;> cases changedA <;> cases changedB <;> rintro l ⟨⟩ <;> rfl
  | idle | x1 | x2 | x3 | y1 | y2 | y3 =>
    obtain ⟨rfl, rfl⟩ := Prod.mk.inj (h _ rfl)
    cases changedA <;> cases changedB <;> rintro l ⟨⟩ <;> rfl

theorem DetectorSound.level {w : State} (hs : DetectorSound w) (hfollows : w.follows = true) :
    ∀ l, w.detector.state.levels = some l → l = (w.head.a.level, w.head.b.level) := by
  intro l hl
  obtain ⟨ha, hb⟩ := hs.levels hfollows l hl
  simp [HeadChannel.level, ha, hb]

theorem endPassage_sound {s : State} (hs : DetectorSound s) (ending : Ending) : DetectorSound (endPassage ending s) := by
  obtain ⟨slots, txy, tyx, log, h⟩ := endPassage_eq ending s
  rw [h]
  exact hs.of_eq rfl rfl rfl rfl

theorem filteredChange_sound {w : State} (hs : DetectorSound w) (hconfigured : w.configured = true) (a b : Bool) :
    DetectorSound (followPassage a b (takeFiltered a b w)) := by
  have ha : (takeFiltered a b w).head.a.filtered = w.head.a.filtered.map (fun l => l != a) :=
    HeadChannel.change_filtered a w.head.a
  have hb : (takeFiltered a b w).head.b.filtered = w.head.b.filtered.map (fun l => l != b) :=
    HeadChannel.change_filtered b w.head.b
  have hfollows : (takeFiltered a b w).follows = w.follows := rfl
  have hunconfigured : (takeFiltered a b w).configured ≠ false := by
    rw [show (takeFiltered a b w).configured = w.configured from rfl, hconfigured]; simp
  unfold followPassage
  split
  next hf =>
    apply endPassage_sound
    rw [hfollows] at hf
    obtain ⟨hsa, hsb⟩ := hs.sampled hf
    obtain ⟨la, hla⟩ := Option.ne_none_iff_exists'.mp hsa
    obtain ⟨lb, hlb⟩ := Option.ne_none_iff_exists'.mp hsb
    have hfa : (takeFiltered a b w).head.a.filtered = some (la != a) := by rw [ha, hla]; rfl
    have hfb : (takeFiltered a b w).head.b.filtered = some (lb != b) := by rw [hb, hlb]; rfl
    refine ⟨fun _ l hl => ?_, fun _ => ?_, fun h => ?_, Head.recover_quiet, fun h => absurd h hunconfigured⟩
    · have hlevel := hs.level hf
      simp only [HeadChannel.level, hla, hlb, Option.getD_some] at hlevel
      simp only [HeadChannel.level, hfa, hfb, Option.getD_some] at hl
      obtain rfl := Detector.take_levels hlevel _ _ a b l hl
      exact ⟨hfa, hfb⟩
    · exact ⟨by simp [hfa], by simp [hfb]⟩
    · exact absurd (h.symm.trans (hfollows.trans hf)) (by simp)
  next hf =>
    have hnot : (takeFiltered a b w).follows = false := by simpa using hf
    exact ⟨fun h => absurd h hf, fun h => absurd h hf, fun _ => hs.idle (hfollows ▸ hnot), Head.recover_quiet,
      fun h => absurd h hunconfigured⟩

/-! ### Every command and every step -/

theorem takeVerdict_sound {s : State} (hs : DetectorSound s) (v : Verdict) : DetectorSound (takeVerdict v s) := by
  obtain ⟨bad, h⟩ | ⟨good, handed, h⟩ | ⟨good, h⟩ := takeVerdict_cases v s <;> rw [h]
  · exact hs.of_eq rfl rfl rfl rfl
  · exact hs.of_eq rfl rfl rfl rfl
  · exact enterLockdown_sound (by exact hs.of_eq rfl rfl rfl rfl) _

theorem judgeCounts_sound {s : State} (hs : DetectorSound s) : DetectorSound (judgeCounts s) := by
  obtain h | h := judgeCounts_cases s <;> rw [h]
  · exact hs
  · exact enterLockdown_sound (by exact hs.of_eq rfl rfl rfl rfl) _

theorem judge_declareAll_sound {s : State} (hs : DetectorSound s) (cause : Cause) :
    DetectorSound (judgeAll (declareAll cause s)) := by
  obtain ⟨slots, h⟩ := judge_declareAll_eq cause s
  rw [h]
  exact hs.of_eq rfl rfl rfl rfl

/-- The phases of the start in which the head is sampled lead to one another (R47, R48). -/
theorem DetectorSound.of_phase {s t : State} (hs : DetectorSound s) (hhead : t.head = s.head)
    (hdetector : t.detector = s.detector) (hlockdown : t.lockdown = s.lockdown) (hbefore : s.configured = true)
    (hafter : t.configured = true) : DetectorSound t :=
  hs.of_same ⟨by rw [hhead], by rw [hhead], by rw [hhead], by rw [hhead], by rw [hhead], by rw [hhead], by rw [hdetector],
    hlockdown, by rw [hbefore, hafter]⟩

theorem enterRun_sound {s : State} (hs : DetectorSound s) (hconfigured : s.configured = true) :
    DetectorSound (enterRun s) := by
  obtain ⟨request, h⟩ := enterRun_eq s
  rw [h]
  exact hs.of_phase rfl rfl rfl hconfigured rfl

theorem enterSilence_sound {s : State} (hs : DetectorSound s) (hconfigured : s.configured = true) :
    DetectorSound (enterSilence s) := by
  have hsilent : DetectorSound { s with
      phase := .silence, selfTest := none, outputs := { s.outputs with tickSince := some s.now, watch := 0 } } :=
    hs.of_phase rfl rfl rfl hconfigured rfl
  obtain ⟨-, h⟩ | ⟨-, h⟩ := enterSilence_cases s <;> rw [h]
  · exact hsilent
  · exact enterRun_sound hsilent rfl

theorem silenceEnd_sound {w : State} (hs : DetectorSound w) : DetectorSound (effect .silenceEnd w) := by
  have hended : DetectorSound { w with silenceOver := true } := hs.of_eq rfl rfl rfl rfl
  obtain ⟨request, hreason⟩ := takeReason_eq { w with silenceOver := true }
  dsimp only [effect]
  split
  · split
    · rw [hreason]; exact hs.of_eq rfl rfl rfl rfl
    · rw [hreason]; exact hs.of_eq rfl rfl rfl rfl
    · exact hended
  · split
    next hsilence => exact enterRun_sound hended (by simp [State.configured, hsilence])
    next => exact hended

/-- The commands whose events write the head, the automaton, the lockdown condition or the phase. -/
def TouchesDetection : Instr → Prop
  | .powerOn _ | .restart | .configReadEnd .. | .lineLoopTest .. | .laneTest _ | .readBackTest _ | .silenceEnd
  | .filteredChange .. | .spike .. | .spikeQuietExpiry _ | .headFault _ | .headRecovery | .healthLevelChange ..
  | .receptionIdle .. | .laneMismatch _ | .clockCheckPeriodEnd _ | .halfPeriodTick _ | .tickWatchExpiry => True
  | _ => False

/-- The head, the automaton, the lockdown condition and the phase stay. -/
def KeepsDetection (w u : State) : Prop :=
  u.head = w.head ∧ u.detector = w.detector ∧ u.lockdown = w.lockdown ∧ u.phase = w.phase

theorem KeepsDetection.of_rfl (w : State) : KeepsDetection w w := ⟨rfl, rfl, rfl, rfl⟩

theorem judgeQuery_keepsDetection {s : State} (kind : Byte) (inRange : Bool) {answer : State → State}
    (hanswer : KeepsDetection s (answer s)) : KeepsDetection s (judgeQuery kind inRange answer s) := by
  obtain h | ⟨-, h⟩ := judgeQuery_cases kind inRange answer s <;> rw [h]
  · exact ⟨rfl, rfl, rfl, rfl⟩
  · exact hanswer

theorem countTelegram_keepsDetection (dt : Nat) (tel : Telegram) (order : TakingOrder) (w : State) :
    KeepsDetection w (effect (.countTelegram dt tel order) w) := by
  dsimp only [effect]
  split
  next r _ =>
    obtain h | ⟨-, -, h⟩ := judgeTelegram_cases r tel order w <;> rw [h]
    · exact .of_rfl w
    · obtain ⟨_, _, _, _, _, h⟩ := acceptTelegram_eq r (judgeSequence r tel.sequence) tel order w
      rw [h]
      exact ⟨rfl, rfl, rfl, rfl⟩
  next => exact .of_rfl w

theorem lineWin_keepsDetection (fault : Bool) (w : State) : KeepsDetection w (effect (.lineWin fault) w) := by
  obtain ⟨_, _, h⟩ := compareCopies_eq fault { w with line := { w.line with
    transmitter := .driving w.now, driven := frameOf (bodyAtWin w), quietSince := none
    receiver := { w.line.receiver with state := .skipping, badFirst := false } } }
  dsimp only [effect]
  rw [h]
  exact ⟨rfl, rfl, rfl, rfl⟩

theorem takeReason_keepsDetection (s : State) : KeepsDetection s (takeReason s) :=
  ⟨takeReason_head s, takeReason_detector s, takeReason_lockdown s, takeReason_phase s⟩

theorem sectionQuery_keepsDetection (dt : Nat) (parameter : Byte) (w : State) :
    KeepsDetection w (effect (.sectionQuery dt parameter) w) := by
  refine judgeQuery_keepsDetection _ _ ?_
  obtain ⟨_, h⟩ := answerSection_eq parameter w
  rw [h]
  exact ⟨rfl, rfl, rfl, rfl⟩

theorem collision_keepsDetection (n : Nat) (w : State) : KeepsDetection w (effect (.collision n) w) := by
  dsimp only [effect]
  split
  · obtain ⟨_, _, _, h⟩ := dropFrame_eq (countCollision (releaseLine w))
    rw [h]
    exact ⟨rfl, rfl, rfl, rfl⟩
  · exact ⟨rfl, rfl, rfl, rfl⟩

theorem heartbeatExpiry_keepsDetection (w : State) : KeepsDetection w (effect .heartbeatExpiry w) := by
  dsimp only [effect]
  split
  · exact takeReason_keepsDetection { w with builder := { w.builder with heartbeatSince := none } }
  · exact ⟨rfl, rfl, rfl, rfl⟩

theorem peerLost_keepsDetection (n : Nat) (w : State) : KeepsDetection w (effect (.peerLost n) w) := by
  obtain ⟨_, h⟩ := peerLost_eq n w
  rw [h]
  exact ⟨rfl, rfl, rfl, rfl⟩

theorem negativeBalance_keepsDetection (i : Fin 4) (w : State) : KeepsDetection w (effect (.negativeBalance i) w) := by
  obtain ⟨_, h⟩ := declareAt_eq .negativeBalance i (w.modifySlot i fun sl => { sl with negativeSince := none })
  dsimp only [effect]
  rw [h]
  exact ⟨rfl, rfl, rfl, rfl⟩

theorem takeOperatorSample_keepsDetection (levels : OperatorLevels) (w : State) :
    KeepsDetection w (takeOperatorSample levels w) := by
  obtain ⟨_, _, _, _, h⟩ := takeOperatorSample_eq levels w
  rw [h]
  exact ⟨rfl, rfl, rfl, rfl⟩

theorem alarmPatternStep_keepsDetection (w : State) : KeepsDetection w (effect .alarmPatternStep w) := by
  dsimp only [effect]
  split <;> exact ⟨rfl, rfl, rfl, rfl⟩

theorem attemptCompletion_keepsDetection (w : State) : KeepsDetection w (effect .attemptCompletion w) := by
  dsimp only [effect]
  split <;> simp [KeepsDetection]

theorem effect_keepsDetection {c : Instr} (hc : ¬TouchesDetection c) (w : State) : KeepsDetection w (effect c w) := by
  cases c with
  | powerOn | restart | configReadEnd | lineLoopTest | laneTest | readBackTest | silenceEnd | filteredChange | spike
  | spikeQuietExpiry | headFault | headRecovery | healthLevelChange | receptionIdle | laneMismatch | clockCheckPeriodEnd
  | halfPeriodTick | tickWatchExpiry => exact absurd trivial hc
  | countTelegram => exact countTelegram_keepsDetection ..
  | sectionQuery => exact sectionQuery_keepsDetection ..
  | peersQuery | logQuery | clearDiag =>
    dsimp only [effect]
    exact judgeQuery_keepsDetection _ _ ⟨rfl, rfl, rfl, rfl⟩
  | lineWin => exact lineWin_keepsDetection ..
  | collision => exact collision_keepsDetection ..
  | attemptCompletion => exact attemptCompletion_keepsDetection w
  | heartbeatExpiry => exact heartbeatExpiry_keepsDetection w
  | lockdownTelegramTimer =>
    exact takeReason_keepsDetection { w with builder := { w.builder with lockdownSince := none } }
  | peerLost => exact peerLost_keepsDetection ..
  | negativeBalance => exact negativeBalance_keepsDetection ..
  | debouncedLevelChange | confirmSweep | confirmDirect => exact takeOperatorSample_keepsDetection ..
  | alarmPatternStep => exact alarmPatternStep_keepsDetection w
  | _ => exact ⟨rfl, rfl, rfl, rfl⟩

theorem readBackTest_sound {w : State} (hs : DetectorSound w) (readings : List Bool) (hconfigured : w.configured = true) :
    DetectorSound (effect (.readBackTest readings) w) := by
  dsimp only [effect]
  split
  · exact enterSilence_sound hs hconfigured
  · exact enterLockdown_sound hs _

theorem spike_sound {w : State} (hs : DetectorSound w) (dt : Nat) (c : Channel) (hconfigured : w.configured = true) :
    DetectorSound (effect (.spike dt c) w) := by
  have hspiked := takeSpike_sound hs hconfigured c
  dsimp only [effect]
  split
  · exact judge_declareAll_sound hspiked _
  · exact hspiked

theorem spikeQuietExpiry_sound {w : State} (hs : DetectorSound w) (c : Channel) :
    DetectorSound (effect (.spikeQuietExpiry c) w) := by
  cases c <;> exact hs.of_same ⟨rfl, rfl, rfl, rfl, rfl, rfl, rfl, rfl, rfl⟩

theorem headFault_sound {w : State} (hs : DetectorSound w) (c : Channel) (hconfigured : w.configured = true) :
    DetectorSound (effect (.headFault c) w) := by
  dsimp only [effect]
  split
  · exact hs
  · exact judge_declareAll_sound (failHead_sound hconfigured) _

theorem receptionIdle_sound {w : State} (hs : DetectorSound w) (dt : Nat) (burst : List LineChar) :
    DetectorSound (effect (.receptionIdle dt burst) w) := by
  dsimp only [effect]
  split
  · exact hs.of_eq rfl rfl rfl rfl
  · exact takeVerdict_sound (by exact hs.of_eq rfl rfl rfl rfl) _

theorem clockCheckPeriodEnd_sound {w : State} (hs : DetectorSound w) (measured : Nat) :
    DetectorSound (effect (.clockCheckPeriodEnd measured) w) := by
  dsimp only [effect]
  split
  · exact enterLockdown_sound (by exact hs.of_eq rfl rfl rfl rfl) _
  · exact hs.of_eq rfl rfl rfl rfl

theorem halfPeriodTick_sound {w : State} (hs : DetectorSound w) (read : Vector PairLevels 4) :
    DetectorSound (effect (.halfPeriodTick read) w) := by
  have hcounts : DetectorSound (judgeCounts (compareAll read
      { w with outputs := { w.outputs with tickSince := halfPeriodDue w, watch := 0 } })) :=
    judgeCounts_sound (by exact hs.of_eq (by simp) (by simp) (by simp) (by simp))
  exact hcounts.of_eq (setLevels_head _) (setLevels_detector _) (setLevels_lockdown _) (setLevels_phase _)

theorem configured_of_readBackTestDue {s : State} {x : Tick} (h : readBackTestDue s = some x) : s.configured = true := by
  unfold readBackTestDue at h
  split at h
  next hrunning => simp [State.configured, hrunning.2.1]
  next => cases h

theorem configured_of_headFaultDue {s : State} {c : Channel} {x : Tick} (h : headFaultDue s c = some x) :
    s.configured = true := by
  unfold headFaultDue at h
  split at h
  · assumption
  · cases h

/-- The event of every command keeps the detector sound. -/
theorem effect_detectorSound {c : Instr} {s w : State} {x : Tick} (harises : Arises c s x) (hs : DetectorSound w)
    (hphase : w.phase = s.phase) (hhead : w.head = s.head) : DetectorSound (effect c w) := by
  have hconfigured : w.configured = s.configured := configured_eq hphase
  by_cases hc : TouchesDetection c
  case neg =>
    obtain ⟨hhead, hdetector, hlockdown, hphase⟩ := effect_keepsDetection hc w
    exact hs.of_eq hhead hdetector hlockdown hphase
  cases c with
  | powerOn | restart => exact harises.elim
  | configReadEnd =>
    obtain ⟨-, hread, -⟩ := harises
    dsimp only [effect]
    split
    · exact passImage_sound hs (hphase.trans hread) _ _
    · exact failImage_sound hs (hphase.trans hread)
  | lineLoopTest | laneTest =>
    dsimp only [effect]
    split
    · exact hs.of_eq rfl rfl rfl rfl
    · exact enterLockdown_sound hs _
  | readBackTest => exact readBackTest_sound hs _ (hconfigured.trans (configured_of_readBackTestDue harises))
  | silenceEnd => exact silenceEnd_sound hs
  | filteredChange => exact filteredChange_sound hs (hconfigured.trans harises.1) _ _
  | spike => exact spike_sound hs _ _ (hconfigured.trans harises)
  | spikeQuietExpiry => exact spikeQuietExpiry_sound hs _
  | headFault => exact headFault_sound hs _ (hconfigured.trans (configured_of_headFaultDue harises))
  | headRecovery =>
    refine headRecovery_sound (x := x) hs ?_
    rw [← harises]
    simp [headRecoveryDue, hconfigured, hhead]
  | healthLevelChange => exact healthLevel_sound hs (hconfigured.trans harises) _ _ _ _
  | receptionIdle => exact receptionIdle_sound hs _ _
  | laneMismatch => exact enterLockdown_sound (by exact hs.of_eq rfl rfl rfl rfl) _
  | clockCheckPeriodEnd => exact clockCheckPeriodEnd_sound hs _
  | halfPeriodTick => exact halfPeriodTick_sound hs _
  | tickWatchExpiry => exact judgeCounts_sound (by exact hs.of_eq rfl rfl rfl rfl)
  | _ => exact hc.elim

theorem Idles.detectorSound {s u : State} (h : Idles s u) (hs : DetectorSound s) : DetectorSound u := by
  cases h with
  | raises | ticks => exact hs.of_eq rfl rfl rfl rfl
  | samples pending freeUses runA runB first runs sampled hsampled =>
    subst hsampled
    refine hs.of_same ⟨?_, ?_, ?_, ?_, ?_, ?_, ?_, ?_, ?_⟩ <;> simp [State.configured]

theorem State.unhand_eq (c : Instr) (s : State) : ∃ handed, s.unhand c = { s with handed := handed } := by
  unfold State.unhand
  split <;> exact ⟨_, rfl⟩

theorem atStart_detectorSound {t : State} (h : AtStart t) : DetectorSound t := by
  obtain ⟨hphase, -, -, hlockdown⟩ := h.phase
  obtain ⟨hstate, -, -, -, -, hrecover⟩ := h.head
  have hfollows : t.follows = false := by simp [State.follows, hstate]
  exact ⟨fun hf => by simp [hfollows] at hf, fun hf => by simp [hfollows] at hf, fun _ => h.detector.1,
    fun hr => absurd hrecover hr, fun _ => hstate⟩

end Sys2Proof.Machine

namespace Sys2Proof.Proofs
open Sys2Proof.Machine

/-- Settles O56: of the commands those of the head, the image and lockdown touch what the automaton stands for, and each
leaves it standing for the levels, or IDLE where it does not follow them. -/
theorem detectorStaysSound : Obligations.DetectorStaysSound := by
  intro s t hs h
  refine step_keeps h (fun _ hs => hs.of_eq rfl rfl rfl rfl)
    (fun _ _ _ _ _ _ _ _ => atStart_detectorSound (atStart_of_reset ..)) ?reach ?event (fun _ => Idles.detectorSound) hs
  case reach =>
    intro c x rest hs
    obtain ⟨handed, h⟩ := State.unhand_eq c { s with pending := rest }
    rw [h]
    exact hs.of_eq rfl rfl rfl rfl
  case event =>
    intro c x rest harises hs
    refine (effect_detectorSound harises hs ?_ ?_).finish _ <;>
      obtain ⟨handed, h⟩ := State.unhand_eq c { s with pending := rest } <;> rw [h] <;> rfl

end Sys2Proof.Proofs
end

section
/-! PROOFS. What an event does to one slot: the values that the rules of a slot read, the way of an accepted telegram through
a slot, and one rule for what the event of any command does to the slot of a number. -/

namespace Sys2Proof.Machine

/-! ### What the rules of a slot read -/

/-- The state but for what no rule of a slot reads: the values of time, phase, configuration, lockdown, head, automaton,
totals and Peer Table. -/
def State.scene (s : State) : State :=
  { State.reset with
    now := s.now, phase := s.phase, config := s.config, lockdown := s.lockdown
    head := { Head.start with state := s.head.state }, detector := { Detector.start with state := s.detector.state }
    txy := s.txy, tyx := s.tyx, peers := s.peers }

theorem judge_scene (s : State) (changed : Bool) (sl : Slot) : judge s changed sl = judge s.scene changed sl := rfl
theorem totalsOf_scene (s : State) (n : Nat) : s.totalsOf n = s.scene.totalsOf n := rfl
theorem usedContributions_scene (s : State) (sl : Slot) : usedContributions s sl = usedContributions s.scene sl := rfl
theorem outOfRange_scene (s : State) (sl : Slot) : outOfRange s sl = outOfRange s.scene sl := rfl
theorem takeTotals_scene (s : State) (evaluating : Bool) (sl : Slot) :
    takeTotals s evaluating sl = takeTotals s.scene evaluating sl := rfl
theorem takeItem_scene (before after : PeerRecord) (s : State) (i : Nat) (found sl : Slot) (item : Item) :
    item.take before after s i found sl = item.take before after s.scene i found sl := by cases item <;> rfl
theorem readView_scene (order : TakingOrder) (first : Bool) (after : PeerRecord) (judged : Bool) (s : State) (i : Nat)
    (sl : Slot) : readView order first after judged s i sl = readView order first after judged s.scene i sl := rfl
theorem rangeAfter_scene (s : State) (before sl : Slot) : rangeAfter s before sl = rangeAfter s.scene before sl := rfl
theorem clearingConditions_scene (s : State) (sl : Slot) : s.clearingConditions sl = s.scene.clearingConditions sl := rfl

theorem trusted_of_scene {s t : State} (h : t.scene = s.scene) (sl : Slot) : InputsTrusted t sl ↔ InputsTrusted s sl := by
  rw [← clearingConditions_iff, ← clearingConditions_iff, clearingConditions_scene, h, ← clearingConditions_scene]

theorem totalsOf_of_scene {s t : State} (h : t.scene = s.scene) (n : Nat) : t.totalsOf n = s.totalsOf n := by
  rw [totalsOf_scene, h, ← totalsOf_scene]

@[simp] theorem finish_scene (b u : State) : (finish b u).scene = u.scene := by simp [State.scene]

@[simp] theorem notice_scene (b u : State) : (notice b u).scene = u.scene := by
  obtain ⟨_, _, _, _, h⟩ := notice_eq b u
  rw [h]; rfl

/-! ### The way of an accepted telegram through a slot (R100, R107, R124) -/

/-- The items of a telegram taken on the slot of a number, in the order taken there. -/
def takeSlotItems (order : TakingOrder) (before after : PeerRecord) (items : List Item) (s : State) (i : Nat) (sl : Slot) :
    Slot :=
  (arrange (order.causes[i]?.getD 0) items).foldl (Item.take before after s i sl) sl

/-- One reader of a slot's view, with COUNT_RANGE where an application brings it about. -/
def readSlot (order : TakingOrder) (first : Bool) (after : PeerRecord) (judged : Bool) (s : State) (i : Nat) (sl : Slot) :
    Slot :=
  rangeAfter s sl (readView order first after judged s i sl)

theorem zipWith_mapIdx {α β : Type} (f : α → α → β) (g : Nat → α → α) (xs : List α) :
    xs.zipWith f (xs.mapIdx g) = xs.mapIdx fun i x => f x (g i x) := by
  apply List.ext_getElem <;> simp

theorem readRound_slots (order : TakingOrder) (first : Bool) (after : PeerRecord) (judged : Bool) (s : State) :
    (readRound order first after judged s).slots = s.slots.mapIdx (readSlot order first after judged s) := by
  have hscene : (notice s (readViews order first after judged s)).scene = s.scene := notice_scene ..
  unfold readRound
  dsimp only
  rw [notice_slots]
  simp only [rangesAfter, notice_slots, readViews, zipWith_mapIdx]
  congr 1
  funext i sl
  rw [readSlot, rangeAfter_scene, rangeAfter_scene s]
  exact congrArg (fun u => rangeAfter u sl _) hscene

theorem readRound_scene (order : TakingOrder) (first : Bool) (after : PeerRecord) (judged : Bool) (s : State) :
    (readRound order first after judged s).scene = s.scene := by
  obtain ⟨_, _, _, _, _, h⟩ := readRound_eq order first after judged s
  rw [h]; rfl

theorem mapIdx_mapIdx {α β γ : Type} (f : Nat → α → β) (g : Nat → β → γ) (xs : List α) :
    (xs.mapIdx f).mapIdx g = xs.mapIdx fun i x => g i (f i x) := by
  apply List.ext_getElem <;> simp

theorem readSlot_of_scene {s t : State} (h : t.scene = s.scene) (order : TakingOrder) (first : Bool) (after : PeerRecord)
    (judged : Bool) : readSlot order first after judged t = readSlot order first after judged s := by
  funext i sl
  rw [readSlot, readSlot, rangeAfter_scene, readView_scene, h, ← rangeAfter_scene, ← readView_scene]

theorem handViews_slots (order : TakingOrder) (before after : PeerRecord) (s : State) :
    (handViews order before after s).slots = s.slots.mapIdx fun i sl =>
      readSlot order false after (totalsChange before after) s i
        (readSlot order true after (totalsChange before after) s i sl) := by
  rw [handViews, readRound_slots, readRound_slots, mapIdx_mapIdx, readSlot_of_scene (readRound_scene ..)]

/-- The state with the accepted record in the Peer Table, and the restarted originator's identities forgotten (R100, R139). -/
def withRecord (r : PeerRecord) (j : Judgement) (t : Telegram) (s : State) : State :=
  if j = .restart then forgetIdentities r.station (s.modifyPeer r.station fun _ => r.accept s.now s.own s.slots j t)
  else s.modifyPeer r.station fun _ => r.accept s.now s.own s.slots j t

/-- A slot of a restarted originator's demand forgets its last identity (R139). -/
def forgetIdentity (originator : Nat) (sl : Slot) : Slot :=
  if sl.reset.lastIdentity.map (·.originator) = some originator then
    { sl with reset := { sl.reset with lastIdentity := none } }
  else sl

/-- The way of an accepted telegram through the slot of a number, with `s` the state that holds the accepted record. -/
def telegramSlot (order : TakingOrder) (r after : PeerRecord) (items : List Item) (s : State) (i : Nat) (sl : Slot) : Slot :=
  readSlot order false after (totalsChange r after) s i
    (readSlot order true after (totalsChange r after) s i (takeSlotItems order r after items s i sl))

theorem takeItems_slots (order : TakingOrder) (before after : PeerRecord) (items : List Item) (s : State) :
    (takeItems order before after items s).slots = s.slots.mapIdx (takeSlotItems order before after items s) := rfl

theorem acceptTelegram_slots (r : PeerRecord) (j : Judgement) (t : Telegram) (order : TakingOrder) (s : State) :
    (acceptTelegram r j t order s).slots = (withRecord r j t s).slots.mapIdx
      (telegramSlot order r (r.accept s.now s.own s.slots j t) (itemsOf r j t) (withRecord r j t s)) := by
  unfold acceptTelegram
  extract_lets accepted recorded known
  have hscene : (notice s (takeItems order r accepted (itemsOf r j t) known)).scene = known.scene := notice_scene ..
  rw [handViews_slots, readSlot_of_scene hscene, readSlot_of_scene hscene, notice_slots, takeItems_slots, mapIdx_mapIdx]
  rfl

theorem withRecord_slots (r : PeerRecord) (j : Judgement) (t : Telegram) (s : State) :
    (withRecord r j t s).slots = s.slots.map (if j = .restart then forgetIdentity r.station else id) := by
  unfold withRecord
  split
  · rfl
  · simp [State.modifyPeer]

theorem withRecord_scene (r : PeerRecord) (j : Judgement) (t : Telegram) (s : State) :
    (withRecord r j t s).scene =
      (s.modifyPeer r.station fun _ => r.accept s.now s.own s.slots j t).scene := by
  unfold withRecord
  split <;> rfl

theorem acceptTelegram_scene (r : PeerRecord) (j : Judgement) (t : Telegram) (order : TakingOrder) (s : State) :
    (acceptTelegram r j t order s).scene = (withRecord r j t s).scene := by
  obtain ⟨_, _, _, _, _, h⟩ := acceptTelegram_eq r j t order s
  rw [h, withRecord_scene]; rfl

/-! ### The Peer Table -/

theorem find?_map_station {f : PeerRecord → PeerRecord} (hf : ∀ r, (f r).station = r.station) (rs : List PeerRecord)
    (n : Nat) : (rs.map f).find? (fun r => r.station == n) = (rs.find? (fun r => r.station == n)).map f := by
  rw [List.find?_map]
  congr 2
  funext r
  simp [hf]

theorem peer?_station {s : State} {n : Nat} {r : PeerRecord} (h : s.peer? n = some r) : r.station = n := by
  have := List.find?_some h
  simpa using this

theorem modifyPeer_peer? (s : State) (station : Nat) {f : PeerRecord → PeerRecord}
    (hf : ∀ r, r.station = station → (f r).station = r.station) (n : Nat) :
    (s.modifyPeer station f).peer? n = if n = station then (s.peer? n).map f else s.peer? n := by
  have hstations : ∀ r : PeerRecord, (if r.station == station then f r else r).station = r.station := by
    intro r
    split
    next h => exact hf r (by simpa using h)
    next => rfl
  unfold State.peer? State.modifyPeer
  dsimp only
  rw [find?_map_station hstations]
  cases hfind : s.peers.find? (fun r => r.station == n) with
  | none => simp
  | some r =>
    have hr : r.station = n := peer?_station hfind
    by_cases hn : n = station <;> simp [hr, hn]

/-- The record of the sender is the accepted one after a telegram; the others stay (R100). -/
theorem withRecord_peer? {r : PeerRecord} {s : State} (hr : s.peer? r.station = some r) (j : Judgement) (t : Telegram)
    (n : Nat) : (withRecord r j t s).peer? n =
      if n = r.station then some (r.accept s.now s.own s.slots j t) else s.peer? n := by
  refine (congrArg (fun u : State => u.peer? n) (withRecord_scene r j t s)).trans ?_
  refine (modifyPeer_peer? s r.station (f := fun _ => r.accept s.now s.own s.slots j t) (fun _ h => h.symm) n).trans ?_
  split
  next hn => rw [hn, hr]; rfl
  next => rfl

end Sys2Proof.Machine
end

section
/-! PROOFS. One rule for what the event of any command but the verdict on the image does to the slot of a number. -/

namespace Sys2Proof.Machine

/-! ### What an event does to a slot -/

/-- What the event of a command, from `w` to `u`, does to the slot `sl` of number `i`. -/
inductive SlotEvent (c : Instr) (w u : State) (i : Nat) (sl : Slot) : Slot → Prop where
  | untouched : (∀ n, u.totalsOf n = w.totalsOf n) → (InputsTrusted u sl ↔ InputsTrusted w sl) → SlotEvent c w u i sl sl
  | judged : (∀ n, u.totalsOf n = w.totalsOf n) → SlotEvent c w u i sl (judge u false sl)
  | disturbed (cause : Cause) (time : Word32) (station : Nat) : (∀ n, u.totalsOf n = w.totalsOf n) → u.lockdown = false →
      SlotEvent c w u i sl (disturb cause time station sl)
  | counted : u.txy ≠ w.txy ∨ u.tyx ≠ w.tyx → u.lockdown = false →
      SlotEvent c w u i sl (abandonPassage (takeTotals u sl.state.evaluating sl))
  | holdStops : u.scene = w.scene → u.lockdown = true → SlotEvent c w u i sl { sl with negativeSince := none }
  | holdRunsOut (time : Word32) (station : Nat) : u.scene = w.scene → u.lockdown = false →
      SlotEvent c w u i sl (disturb .negativeBalance time station { sl with negativeSince := none })
  | settles (k : Fin 4) : c = .settledTimeExpiry k → u.scene = w.scene →
      SlotEvent c w u i sl { sl with settledSince := none }
  | clears : u.scene = w.scene → sl.state = .clearing → SlotEvent c w u i sl (enterClear u sl)
  | expires : u.scene = w.scene → sl.state = .agreeing → SlotEvent c w u i sl (expireDemand u.now sl)
  | lingers : u.scene = w.scene → sl.reset.lingerSince ≠ none →
      SlotEvent c w u i sl { sl with reset := { sl.reset with demand := none, lingerSince := none } }
  | cools : u.scene = w.scene → SlotEvent c w u i sl { sl with reset := { sl.reset with coolDownSince := none } }
  | issues (kind : ResetKind) (number : Nat) (members : List Nat) : u.scene = w.scene → sl.state = .disturbed →
      SlotEvent c w u i sl (sl.takeDemand u.now
        { identity := { originator := u.own, number := number }, kind := kind, baseTxy := u.txy, baseTyx := u.tyx,
          windowStart := u.stationTime } members)
  | refuses : u.scene = w.scene → SlotEvent c w u i sl { sl with reset := { sl.reset with outcome := .refused } }
  | telegram (dt : Nat) (tel : Telegram) (order : TakingOrder) (r : PeerRecord) (j : Judgement) :
      c = .countTelegram dt tel order → w.peer? r.station = some r → r.station = tel.sender.toNat →
      wellFormedTelegram tel = true → j = judgeSequence r tel.sequence →
      u.scene = (withRecord r j tel w).scene →
      SlotEvent c w u i sl (telegramSlot order r (r.accept w.now w.own w.slots j tel) (itemsOf r j tel)
        (withRecord r j tel w) i ((if j = .restart then forgetIdentity r.station else id) sl))

/-- What the event of a command, from `w` to `u`, does to the slots. -/
structure SlotsEvent (c : Instr) (w u : State) : Prop where
  now : u.now = w.now
  locks : w.lockdown = true → u.lockdown = true
  length : u.slots.length = w.slots.length
  slot : ∀ i sl sl', w.slots[i]? = some sl → u.slots[i]? = some sl' → SlotEvent c w u i sl sl'

/-! ### Events that leave the slots or change them alike -/

theorem scene_now {s t : State} (h : t.scene = s.scene) : t.now = s.now := congrArg (·.now) h
theorem scene_lockdown {s t : State} (h : t.scene = s.scene) : t.lockdown = s.lockdown := congrArg (·.lockdown) h

theorem SlotsEvent.of_map {c : Instr} {w u : State} {f : Slot → Slot} (hnow : u.now = w.now)
    (hlocks : w.lockdown = true → u.lockdown = true) (hslots : u.slots = w.slots.map f)
    (h : ∀ i sl, w.slots[i]? = some sl → SlotEvent c w u i sl (f sl)) : SlotsEvent c w u where
  now := hnow
  locks := hlocks
  length := by simp [hslots]
  slot i sl sl' hsl hsl' := by
    obtain rfl : f sl = sl' := by simpa [hslots, hsl] using hsl'
    exact h i sl hsl

theorem SlotsEvent.of_mapIdx {c : Instr} {w u : State} {f : Nat → Slot → Slot} (hnow : u.now = w.now)
    (hlocks : w.lockdown = true → u.lockdown = true) (hslots : u.slots = w.slots.mapIdx f)
    (h : ∀ i sl, w.slots[i]? = some sl → SlotEvent c w u i sl (f i sl)) : SlotsEvent c w u where
  now := hnow
  locks := hlocks
  length := by simp [hslots]
  slot i sl sl' hsl hsl' := by
    obtain rfl : f i sl = sl' := by simpa [hslots, hsl] using hsl'
    exact h i sl hsl

/-- An event that changes nothing a rule of a slot reads leaves every slot. -/
theorem SlotsEvent.of_scene {c : Instr} {w u : State} (hscene : u.scene = w.scene) (hslots : u.slots = w.slots) :
    SlotsEvent c w u :=
  .of_map (f := id) (scene_now hscene) (fun h => (scene_lockdown hscene).trans h) (by simp [hslots]) fun _ sl _ =>
    .untouched (totalsOf_of_scene hscene) (trusted_of_scene hscene sl)

/-- An event that changes one slot by its number, and nothing a rule of a slot reads. -/
theorem SlotsEvent.of_modify {c : Instr} {w u : State} {k : Fin 4} {f : Slot → Slot} (hscene : u.scene = w.scene)
    (hslots : u.slots = w.slots.modify k.val f)
    (h : ∀ i sl, w.slots[i]? = some sl → i = k.val → SlotEvent c w u i sl (f sl)) : SlotsEvent c w u where
  now := scene_now hscene
  locks hlocked := (scene_lockdown hscene).trans hlocked
  length := by simp [hslots]
  slot i sl sl' hsl hsl' := by
    rw [hslots, List.getElem?_modify, hsl] at hsl'
    by_cases hi : k.val = i
    · obtain rfl : f sl = sl' := by simpa [hi] using hsl'
      exact h i sl hsl hi.symm
    · obtain rfl : sl = sl' := by simpa [hi] using hsl'
      exact .untouched (totalsOf_of_scene hscene) (trusted_of_scene hscene _)

/-- No judgement moves a DISTURBED slot (R112). -/
theorem judge_of_disturbed (s : State) (changed : Bool) {sl : Slot} (h : sl.state = .disturbed) :
    judge s changed sl = sl := by
  simp [judge, judgeClearing, h]

theorem judge_disturb (s : State) (changed : Bool) (cause : Cause) (time : Word32) (station : Nat) (sl : Slot) :
    judge s changed (disturb cause time station sl) = disturb cause time station sl :=
  judge_of_disturbed s changed (disturb_state ..)

/-- Every slot is judged after something other than a total has changed. -/
theorem SlotsEvent.of_judgeAll {c : Instr} {w v : State} (hnow : v.now = w.now)
    (hlocks : w.lockdown = true → v.lockdown = true) (htotals : ∀ n, v.totalsOf n = w.totalsOf n)
    (hslots : v.slots = w.slots) : SlotsEvent c w (judgeAll v) :=
  .of_map (f := judge v false) hnow hlocks (by simp [judgeAll, judgeSlots, hslots]) fun _ _ _ =>
    .judged (u := judgeAll v) htotals

/-- A cause reaches every slot, and all are judged. -/
theorem SlotsEvent.of_declared {c : Instr} {w v : State} {cause : Cause} (hnow : v.now = w.now)
    (hlockdown : v.lockdown = w.lockdown) (htotals : ∀ n, v.totalsOf n = w.totalsOf n) (hslots : v.slots = w.slots) :
    SlotsEvent c w (judgeAll (declareAll cause v)) := by
  cases hlocked : v.lockdown
  · refine .of_map (f := disturb cause v.stationTime v.own) ?_ ?_ ?_ fun i sl _ => ?_
    · simpa [judgeAll] using hnow
    · simp [judgeAll, judgeSlots, hlockdown]
    · simp [judgeAll, judgeSlots, declareAll, declareOn, hlocked, judge_disturb, hslots]
    · refine .disturbed cause _ _ (fun n => ?_) (by simpa [judgeAll, judgeSlots] using hlocked)
      rw [← htotals n]
      simp [declareAll, declareOn, hlocked]
      rfl
  · rw [show declareAll cause v = v from if_pos hlocked]
    exact .of_judgeAll hnow (fun h => hlockdown.trans h) htotals hslots

/-- Entry to lockdown fails the clearing conditions of every slot (R161). -/
theorem SlotsEvent.of_lockdown {c : Instr} {w v : State} {cause : LockdownCause} (hscene : v.scene = w.scene)
    (hslots : v.slots = w.slots) : SlotsEvent c w (enterLockdown cause v) := by
  cases hlocked : v.lockdown
  · obtain ⟨silenceOver, builder, line, heq⟩ := enterLockdown_eq (cause := cause) hlocked
    refine .of_map (f := Slot.unclear) ?_ ?_ ?_ fun i sl _ => ?_
    · rw [enterLockdown_now]; exact scene_now hscene
    · simp
    · rw [heq, ← hslots]
    · have hjudge : judge (enterLockdown cause v) false sl = sl.unclear := by
        rw [judge, clearingConditions_lockdown (enterLockdown_lockdown ..), judgeClearing_fails]
      rw [← hjudge]
      refine .judged fun n => ?_
      rw [← totalsOf_of_scene hscene, heq]
      rfl
  · rw [enterLockdown_of_lockdown hlocked]
    exact .of_scene hscene hslots

/-! ### The commands -/

theorem passage_slotsEvent {c : Instr} {w v : State} (ending : Ending) (hnow : v.now = w.now)
    (hlockdown : v.lockdown = false) (hunlocked : w.lockdown = false) (htotals : ∀ n, v.totalsOf n = w.totalsOf n)
    (htxy : v.txy = w.txy) (htyx : v.tyx = w.tyx) (hslots : v.slots = w.slots) :
    SlotsEvent c w (endPassage ending v) := by
  have hlocks : w.lockdown = true → v.lockdown = true := by simp [hunlocked]
  cases ending with
  | goesOn | drawnBack => exact .of_judgeAll hnow hlocks htotals hslots
  | completes direction skew rocked =>
    dsimp only [endPassage]
    split
    · exact .of_declared hnow (by exact hlockdown.trans hunlocked.symm) (by exact htotals) (by exact hslots)
    · have hne : ∀ a : Word16, a + 1 ≠ a := by intro a; bv_omega
      cases direction with
      | xy =>
        refine .of_map (by exact hnow) (by exact hlocks) (by simp only [count, logPassage, hslots]; rfl) fun i sl _ => ?_
        exact .counted (.inl (by exact htxy ▸ hne v.txy)) hlockdown
      | yx =>
        refine .of_map (by exact hnow) (by exact hlocks) (by simp only [count, logPassage, hslots]; rfl) fun i sl _ => ?_
        exact .counted (.inr (by exact htyx ▸ hne v.tyx)) hlockdown
  | unresolved rocked =>
    exact .of_declared hnow (by exact hlockdown.trans hunlocked.symm) (by exact htotals) (by exact hslots)

theorem filteredChange_slotsEvent (dt : Nat) (a b : Bool) (w : State) :
    SlotsEvent (.filteredChange dt a b) w (effect (.filteredChange dt a b) w) := by
  dsimp only [effect, followPassage]
  split
  next hfollows =>
    obtain ⟨-, hunlocked⟩ := State.follows_iff.mp hfollows
    exact passage_slotsEvent _ rfl hunlocked hunlocked (fun _ => rfl) rfl rfl rfl
  next => exact .of_scene rfl rfl

theorem takeVerdict_slotsEvent {c : Instr} {w v : State} (verdict : Verdict) (hscene : v.scene = w.scene)
    (hslots : v.slots = w.slots) : SlotsEvent c w (takeVerdict verdict v) := by
  obtain ⟨_, h⟩ | ⟨_, _, h⟩ | ⟨_, h⟩ := takeVerdict_cases verdict v <;> rw [h]
  · exact .of_scene hscene hslots
  · exact .of_scene hscene hslots
  · exact .of_lockdown hscene hslots

theorem judgeQuery_slotsEvent {c : Instr} {w : State} (kind : Byte) (inRange : Bool) {answer : State → State}
    (h : SlotsEvent c w (answer w)) : SlotsEvent c w (judgeQuery kind inRange answer w) := by
  obtain h' | ⟨-, h'⟩ := judgeQuery_cases kind inRange answer w <;> rw [h']
  · exact .of_scene rfl rfl
  · exact h

/-- The counters of a record are no part of what a rule of a slot reads. -/
theorem clearCounters_peer? (s : State) (n : Nat) :
    (clearCounters s).peer? n = (s.peer? n).map fun r => { r with gaps := 0 } :=
  find?_map_station (f := fun r => { r with gaps := 0 }) (fun _ => rfl) s.peers n

theorem clearDiag_slotsEvent {c : Instr} (w : State) :
    SlotsEvent c w (judgeQuery 5 true (fun w => placeAnswer 5 [] (clearCounters w)) w) := by
  refine judgeQuery_slotsEvent _ _ (.of_map (f := id) rfl id (by simp) fun i sl _ => .untouched (fun n => ?_) ?_)
  · have h := clearCounters_peer? w n
    change (clearCounters w).totalsOf n = _
    unfold State.totalsOf
    rw [h]
    cases w.peer? n <;> rfl
  · have hshows : ∀ number n, ShowsSound (placeAnswer 5 [] (clearCounters w)) number n ↔ ShowsSound w number n := by
      intro number n
      have h : (placeAnswer 5 [] (clearCounters w)).peer? n = _ := clearCounters_peer? w n
      unfold ShowsSound
      rw [h]
      cases w.peer? n <;> simp
    constructor <;> rintro ⟨h1, h2, h3, h4, h5, h6⟩ <;> refine ⟨h1, h2, h3, h4, h5, fun b hb hn => ?_⟩
    · exact (hshows _ _).mp (h6 b hb hn)
    · exact (hshows _ _).mpr (h6 b hb hn)

theorem silenceEnd_slotsEvent (w : State) : SlotsEvent .silenceEnd w (effect .silenceEnd w) := by
  obtain ⟨_, hreason⟩ := takeReason_eq { w with silenceOver := true }
  dsimp only [effect]
  split
  · split
    · rw [hreason]; exact .of_scene rfl rfl
    · rw [hreason]; exact .of_scene rfl rfl
    · exact .of_scene rfl rfl
  · split
    · obtain ⟨_, h⟩ := enterRun_eq { w with silenceOver := true }
      rw [h]
      exact .of_judgeAll rfl id (fun _ => rfl) rfl
    · exact .of_scene rfl rfl

/-- Two states neither of which is in RUN trust no slot's inputs. -/
theorem trusted_of_not_run {s t : State} (hs : s.phase ≠ .run) (ht : t.phase ≠ .run) (sl : Slot) :
    InputsTrusted t sl ↔ InputsTrusted s sl :=
  ⟨fun h => absurd h.phase ht, fun h => absurd h.phase hs⟩

theorem enterSilence_slotsEvent {c : Instr} {w : State} (hphase : w.phase ≠ .run) : SlotsEvent c w (enterSilence w) := by
  obtain ⟨-, h⟩ | ⟨-, h⟩ := enterSilence_cases w <;> rw [h]
  · exact .of_map (f := id) rfl id (by simp) fun _ sl _ => .untouched (fun _ => rfl) (trusted_of_not_run hphase (by simp) sl)
  · obtain ⟨_, h⟩ := enterRun_eq { w with
      phase := .silence, selfTest := none, outputs := { w.outputs with tickSince := some w.now, watch := 0 } }
    rw [h]
    exact .of_judgeAll rfl id (fun _ => rfl) rfl

/-- A cause reaches every slot, and nothing that a rule of a slot reads has changed. -/
theorem SlotsEvent.of_declareAll {c : Instr} {w v : State} {cause : Cause} (hscene : v.scene = w.scene)
    (hslots : v.slots = w.slots) : SlotsEvent c w (declareAll cause v) := by
  cases hlocked : v.lockdown
  · have heq : declareAll cause v =
        { v with slots := v.slots.map fun sl => if true then disturb cause v.stationTime v.own sl else sl } :=
      if_neg (by simp [hlocked])
    rw [heq]
    refine .of_map (f := disturb cause v.stationTime v.own) (scene_now hscene)
      (fun h => (scene_lockdown hscene).trans h) (by simp [hslots]) fun i sl _ => ?_
    exact .disturbed _ _ _ (fun n => (totalsOf_of_scene hscene n).symm ▸ rfl) hlocked
  · rw [show declareAll cause v = v from if_pos hlocked]
    exact .of_scene hscene hslots

theorem dropFrame_slotsEvent {c : Instr} {w v : State} (hscene : v.scene = w.scene) (hslots : v.slots = w.slots) :
    SlotsEvent c w (dropFrame v) := by
  have htold : ∃ line builder, (if v.line.service = some .telegram then telegramDropped (leaveService (countDrop v))
      else leaveService (countDrop v)) = { v with line := line, builder := builder } := by
    split
    · obtain ⟨_, _, h⟩ := telegramDropped_eq (leaveService (countDrop v))
      exact ⟨_, _, h⟩
    · exact ⟨_, _, rfl⟩
  obtain ⟨line, builder, htold⟩ := htold
  unfold dropFrame
  dsimp only
  rw [htold]
  split
  · exact .of_declareAll hscene hslots
  · exact .of_scene hscene hslots

/-! ### The ages of a peer -/

theorem uses_iff {sl : Slot} {own n : Nat} : sl.uses own n = true ↔ n ≠ own ∧ ∃ b ∈ sl.boundary, b.station = n := by
  simp [Slot.uses, Slot.bounds]

/-- A change of a peer's record that leaves its totals leaves the totals of every point. -/
theorem totalsOf_modifyPeer {w : State} {n : Nat} {f : PeerRecord → PeerRecord} (hstation : ∀ r, (f r).station = r.station)
    (htotals : ∀ r, (f r).txy = r.txy ∧ (f r).tyx = r.tyx) (k : Nat) :
    (w.modifyPeer n f).totalsOf k = w.totalsOf k := by
  have hpeer : (w.modifyPeer n f).peer? k = _ := modifyPeer_peer? w n (fun r _ => hstation r) k
  unfold State.totalsOf
  rw [hpeer]
  have hown : (w.modifyPeer n f).own = w.own := rfl
  rw [hown]
  split
  · rfl
  · by_cases hk : k = n <;> cases w.peer? k <;> simp [hk, htotals]

/-- A slot that does not use the peer trusts its inputs whatever the peer's record holds. -/
theorem trusted_modifyPeer {w : State} {n : Nat} {f : PeerRecord → PeerRecord} (hstation : ∀ r, (f r).station = r.station)
    {sl : Slot} (huses : sl.uses w.own n = false) :
    InputsTrusted (w.modifyPeer n f) sl ↔ InputsTrusted w sl := by
  have hpeer : ∀ b ∈ sl.boundary, b.station ≠ w.own → (w.modifyPeer n f).peer? b.station = w.peer? b.station := by
    intro b hb hown
    rw [modifyPeer_peer? w n fun r _ => hstation r, if_neg]
    rintro rfl
    have : sl.uses w.own b.station = true := uses_iff.mpr ⟨hown, b, hb, rfl⟩
    simp [huses] at this
  constructor <;> rintro ⟨h1, h2, h3, h4, h5, h6⟩ <;> refine ⟨h1, h2, h3, h4, h5, fun b hb hown => ?_⟩ <;>
    have hshown := h6 b hb hown <;> unfold ShowsSound at hshown ⊢
  · rwa [hpeer b hb hown] at hshown
  · rwa [hpeer b hb hown]

theorem peerStale_slotsEvent (n : Nat) (w : State) : SlotsEvent (.peerStale n) w (effect (.peerStale n) w) := by
  have htotals := totalsOf_modifyPeer (w := w) (n := n) (f := fun r => { r with state := .stale }) (fun _ => rfl)
    fun _ => ⟨rfl, rfl⟩
  refine .of_map rfl id rfl fun i sl _ => ?_
  split
  · exact .judged htotals
  next huses =>
    exact .untouched htotals ((trusted_of_scene (s := w.modifyPeer n fun r => { r with state := .stale }) (t := effect (.peerStale n) w) rfl sl).trans
      (trusted_modifyPeer (f := fun r => { r with state := .stale }) (fun _ => rfl) (Bool.eq_false_iff.mpr huses)))

/-- A cause on an AGREEING slot ends its agreement set, whoever has left it before (R145). -/
theorem disturb_leave {sl : Slot} (h : sl.state = .agreeing) (cause : Cause) (time : Word32) (station n : Nat) :
    disturb cause time station (sl.leave n) = disturb cause time station sl := by
  simp [disturb, Slot.leave, h, SlotReset.abandonForCause]

theorem uses_of_boundary {sl sl' : Slot} (h : sl'.boundary = sl.boundary) (own n : Nat) : sl'.uses own n = sl.uses own n := by
  simp [Slot.uses, Slot.bounds, h]

@[simp] theorem disturb_boundary (cause : Cause) (time : Word32) (station : Nat) (sl : Slot) :
    (disturb cause time station sl).boundary = sl.boundary := by
  unfold disturb
  split <;> rfl

@[simp] theorem disturb_uses (cause : Cause) (time : Word32) (station : Nat) (sl : Slot) (own n : Nat) :
    (disturb cause time station sl).uses own n = sl.uses own n := uses_of_boundary (disturb_boundary ..) own n

/-- What becomes of a slot when a peer is LOST (R94, R141). -/
def loseSlot (s : State) (n : Nat) (sl : Slot) : Slot :=
  if sl.uses s.own n then (if s.lockdown then judge s false sl else disturb .peerLost s.stationTime n sl) else sl

theorem judgeUsing_slots (n : Nat) (s : State) :
    (judgeUsing n s).slots = s.slots.map fun sl => if sl.uses s.own n then judge s false sl else sl := rfl

theorem leaveSets_slots (n : Nat) (s : State) : (leaveSets n s).slots = s.slots.map fun sl =>
    if s.lockdown = false ∧ sl.uses s.own n = true ∧ sl.state = .agreeing then sl.leave n else sl := rfl

theorem declareUsing_slots {s : State} (h : s.lockdown = false) (cause : Cause) (n : Nat) :
    (declareUsing cause n s).slots =
      s.slots.map fun sl => if sl.uses s.own n then disturb cause s.stationTime n sl else sl := by
  simp [declareUsing, declareOn, h]

theorem declareUsing_of_lockdown {s : State} (h : s.lockdown = true) (cause : Cause) (n : Nat) :
    declareUsing cause n s = s := if_pos h

theorem declareUsing_own (cause : Cause) (n : Nat) (s : State) : (declareUsing cause n s).own = s.own := by
  obtain ⟨_, h⟩ := declareOn_eq cause n (fun sl => sl.uses s.own n) s
  rw [declareUsing, h]
  rfl

@[simp] theorem leave_uses (k : Nat) (sl : Slot) (own n : Nat) : (sl.leave k).uses own n = sl.uses own n := rfl

theorem peerLost_slots (n : Nat) (w : State) :
    (effect (.peerLost n) w).slots = w.slots.map (loseSlot (w.modifyPeer n PeerRecord.lose) n) := by
  have hleft : (leaveSets n (w.modifyPeer n PeerRecord.lose)).own = w.own := rfl
  have hown : (w.modifyPeer n PeerRecord.lose).own = w.own := rfl
  dsimp only [effect]
  rw [judgeUsing_slots, declareUsing_own, hleft]
  cases hlocked : w.lockdown
  · rw [declareUsing_slots (by exact hlocked), leaveSets_slots, List.map_map, List.map_map]
    refine List.map_congr_left fun sl _ => ?_
    simp only [Function.comp_apply, hleft, hown, loseSlot]
    cases huses : sl.uses w.own n <;> by_cases hstate : sl.state = .agreeing <;>
      simp [hlocked, huses, hstate, judge_disturb, disturb_leave] <;> rfl
  · rw [declareUsing_of_lockdown (by exact hlocked), leaveSets_slots, List.map_map]
    refine List.map_congr_left fun sl _ => ?_
    simp only [Function.comp_apply, hown, loseSlot]
    simp [hlocked]
    rfl

/-- A LOST peer disturbs the slots using it, or in lockdown fails their clearing conditions; the others see no change. -/
theorem peerLost_slotsEvent (n : Nat) (w : State) : SlotsEvent (.peerLost n) w (effect (.peerLost n) w) := by
  obtain ⟨_, heq⟩ := peerLost_eq n w
  have hscene : (effect (.peerLost n) w).scene = (w.modifyPeer n PeerRecord.lose).scene := by rw [heq]; rfl
  have htotals : ∀ k, (effect (.peerLost n) w).totalsOf k = w.totalsOf k := fun k =>
    (totalsOf_of_scene hscene k).trans (totalsOf_modifyPeer (f := PeerRecord.lose) (fun _ => rfl) (fun _ => ⟨rfl, rfl⟩) k)
  refine .of_map (scene_now hscene :) (fun h => (scene_lockdown hscene :).trans h) (peerLost_slots n w) fun i sl _ => ?_
  unfold loseSlot
  split
  next =>
    split
    · rw [judge_scene, ← hscene, ← judge_scene]
      exact .judged htotals
    next hlocked => exact .disturbed _ _ _ htotals ((scene_lockdown hscene).trans (Bool.eq_false_iff.mpr hlocked))
  next huses =>
    exact .untouched htotals ((trusted_of_scene hscene sl).trans
      (trusted_modifyPeer (f := PeerRecord.lose) (fun _ => rfl) (Bool.eq_false_iff.mpr huses)))

/-! ### The head -/

theorem takeSpike_scene {c : Channel} {w : State} (h : reachesLimit c w = false) : (takeSpike c w).scene = w.scene := by
  simp [State.scene, takeSpike, h, Head.recover]

theorem spike_slotsEvent (dt : Nat) (c : Channel) (w : State) : SlotsEvent (.spike dt c) w (effect (.spike dt c) w) := by
  dsimp only [effect]
  split
  · exact .of_declared rfl rfl (fun _ => rfl) rfl
  next h => exact .of_scene (takeSpike_scene (Bool.eq_false_iff.mpr h)) rfl

theorem failHead_totalsOf (w : State) (n : Nat) : (failHead w).totalsOf n = w.totalsOf n := by
  unfold failHead
  dsimp only
  split <;> rfl

theorem headFault_slotsEvent (c : Channel) (w : State) : SlotsEvent (.headFault c) w (effect (.headFault c) w) := by
  dsimp only [effect]
  split
  · exact .of_scene rfl rfl
  · exact .of_declared (by simp) (by simp) (failHead_totalsOf w) (by simp)

/-! ### The outputs -/

/-- No rule of a slot reads the outputs. -/
theorem SlotsEvent.outputs {c : Instr} {w u : State} (h : SlotsEvent c w u) (outputs : Outputs) :
    SlotsEvent c w { u with outputs := outputs } where
  now := h.now
  locks := h.locks
  length := h.length
  slot i sl sl' hsl hsl' := by
    cases h.slot i sl sl' hsl hsl' with
    | untouched htotals htrusted => exact .untouched htotals ((trusted_of_scene (s := u) (t := { u with outputs := outputs }) rfl sl).trans htrusted)
    | judged htotals => exact .judged htotals
    | disturbed cause time station htotals hlocked => exact .disturbed cause time station htotals hlocked
    | counted hcount hlocked => exact .counted hcount hlocked
    | holdStops hscene hlocked => exact .holdStops hscene hlocked
    | holdRunsOut time station hscene hlocked => exact .holdRunsOut time station hscene hlocked
    | settles k hc hscene => exact .settles k hc hscene
    | clears hscene hstate => exact .clears hscene hstate
    | expires hscene hstate => exact .expires hscene hstate
    | lingers hscene hlinger => exact .lingers hscene hlinger
    | cools hscene => exact .cools hscene
    | issues kind number members hscene hstate => exact .issues kind number members hscene hstate
    | refuses hscene => exact .refuses hscene
    | telegram dt tel order r j hc hr hsender hwell hj hscene => exact .telegram dt tel order r j hc hr hsender hwell hj hscene

theorem judgeCounts_slotsEvent {c : Instr} {w v : State} (hscene : v.scene = w.scene) (hslots : v.slots = w.slots) :
    SlotsEvent c w (judgeCounts v) := by
  obtain h | h := judgeCounts_cases v <;> rw [h]
  · exact .of_scene hscene hslots
  · exact .of_lockdown hscene hslots

/-! ### A slot's timers -/

theorem slotDue_some {s : State} {i : Fin 4} {since : Slot → Option Tick} {limit : Nat} {x : Tick}
    (h : slotDue s i since limit = some x) : ∃ sl, s.slots[i.val]? = some sl ∧ since sl ≠ none := by
  unfold slotDue at h
  split at h
  next sl hsl =>
    refine ⟨sl, hsl, fun hnone => ?_⟩
    simp [hnone, after] at h
  next => cases h

theorem negativeBalance_slotsEvent (i : Fin 4) (w : State) :
    SlotsEvent (.negativeBalance i) w (effect (.negativeBalance i) w) := by
  dsimp only [effect, declareAt]
  split
  next hlocked => exact .of_modify rfl rfl fun _ _ _ _ => .holdStops rfl hlocked
  next hlocked =>
    refine .of_modify (k := i)
      (f := fun sl => disturb .negativeBalance w.stationTime w.own { sl with negativeSince := none }) rfl ?_ fun _ _ _ _ =>
        .holdRunsOut _ _ rfl (Bool.eq_false_iff.mpr hlocked)
    simp only [State.modifySlot, List.modify_modify_eq]
    rfl

theorem confirmExpiry_slotsEvent {i : Fin 4} {s w : State} {x : Tick} (h : confirmDue s i = some x)
    (hslots : w.slots = s.slots) : SlotsEvent (.confirmExpiry i) w (effect (.confirmExpiry i) w) := by
  obtain ⟨sl, hsl, hrunning⟩ := slotDue_some h
  have hclearing : sl.state = .clearing := by
    refine Classical.byContradiction fun hother => ?_
    simp [hother] at hrunning
  refine .of_modify (k := i) (f := enterClear w) rfl rfl fun j sl' hsl' hj => ?_
  obtain rfl : sl = sl' := by simpa [hslots, hj, hsl] using hsl'
  exact .clears rfl hclearing

theorem windowExpiry_slotsEvent {i : Fin 4} {s w : State} {x : Tick} (h : windowDue s i = some x)
    (hslots : w.slots = s.slots) : SlotsEvent (.windowExpiry i) w (effect (.windowExpiry i) w) := by
  obtain ⟨sl, hsl, hrunning⟩ := slotDue_some h
  have hagreeing : sl.state = .agreeing := by
    refine Classical.byContradiction fun hother => ?_
    simp [hother] at hrunning
  refine .of_modify (k := i) (f := expireDemand w.now) rfl rfl fun j sl' hsl' hj => ?_
  obtain rfl : sl = sl' := by simpa [hslots, hj, hsl] using hsl'
  exact .expires rfl hagreeing

theorem lingerEnd_slotsEvent {i : Fin 4} {s w : State} {x : Tick} (h : lingerDue s i = some x)
    (hslots : w.slots = s.slots) : SlotsEvent (.lingerEnd i) w (effect (.lingerEnd i) w) := by
  obtain ⟨sl, hsl, hrunning⟩ := slotDue_some h
  refine .of_modify (k := i) rfl rfl fun j sl' hsl' hj => ?_
  obtain rfl : sl = sl' := by simpa [hslots, hj, hsl] using hsl'
  exact .lingers rfl hrunning

/-! ### The operator lines -/

theorem disturbed_of_accepted {s : State} {sl : Slot} {kind : ResetKind} (h : refusedConfirmation s sl kind = false) :
    sl.state = .disturbed := by
  refine Classical.byContradiction fun hother => ?_
  simp [refusedConfirmation, hother] at h

theorem EdgeJudged.slotsEvent {c : Instr} {w v u : State} (h : EdgeJudged v u) (hscene : v.scene = w.scene)
    (hslots : v.slots = w.slots) : SlotsEvent c w u := by
  cases h with
  | nothing => exact .of_scene hscene hslots
  | deselects => exact .of_scene hscene hslots
  | refuses i alarm _ =>
    refine .of_modify (k := i) (f := fun sl => { sl with reset := { sl.reset with outcome := .refused } }) hscene ?_
      fun _ _ _ _ => .refuses hscene
    rw [← hslots]
    rfl
  | issues i kind sl hsl haccepted =>
    refine .of_modify (k := i) (f := (·.takeDemand v.now (issuedDemand v kind) [v.own])) hscene ?_ fun j sl' hsl' hj => ?_
    · rw [← hslots]
      rfl
    · obtain rfl : sl = sl' := by
        rw [← hslots, hj] at hsl'
        exact Option.some.inj (hsl.symm.trans hsl')
      exact .issues kind v.operator.demandNumber [v.own] hscene (disturbed_of_accepted haccepted)

theorem operatorSample_slotsEvent {c : Instr} (levels : OperatorLevels) (w : State) :
    SlotsEvent c w (takeOperatorSample levels w) :=
  (takeOperatorSample_judged levels w).slotsEvent rfl rfl

/-! ### An accepted telegram -/

theorem mapIdx_of_map {α β γ : Type} (f : α → β) (g : Nat → β → γ) (xs : List α) :
    (xs.map f).mapIdx g = xs.mapIdx fun i x => g i (f x) := by
  apply List.ext_getElem <;> simp

theorem countTelegram_slotsEvent (dt : Nat) (tel : Telegram) (order : TakingOrder) (w : State) :
    SlotsEvent (.countTelegram dt tel order) w (effect (.countTelegram dt tel order) w) := by
  dsimp only [effect]
  split
  next r hr =>
    have hsender : r.station = tel.sender.toNat := peer?_station hr
    obtain h | ⟨hwell, -, h⟩ := judgeTelegram_cases r tel order w <;> rw [h]
    · exact .of_scene rfl rfl
    · have hscene := acceptTelegram_scene r (judgeSequence r tel.sequence) tel order w
      have hrecord := withRecord_scene r (judgeSequence r tel.sequence) tel w
      refine .of_mapIdx (scene_now (hscene.trans hrecord) :) (fun hl => (scene_lockdown (hscene.trans hrecord) :).trans hl)
        ((acceptTelegram_slots ..).trans (by rw [withRecord_slots, mapIdx_of_map])) fun i sl _ => ?_
      exact .telegram dt tel order r (judgeSequence r tel.sequence) rfl (hsender ▸ hr) hsender hwell rfl hscene
  next => exact .of_scene rfl rfl

/-! ### Every command -/

theorem readBackTest_slotsEvent {readings : List Bool} {w : State} (hphase : w.phase ≠ .run) :
    SlotsEvent (.readBackTest readings) w (effect (.readBackTest readings) w) := by
  dsimp only [effect]
  split
  · exact enterSilence_slotsEvent hphase
  · exact .of_lockdown rfl rfl

theorem receptionIdle_slotsEvent (dt : Nat) (burst : List LineChar) (w : State) :
    SlotsEvent (.receptionIdle dt burst) w (effect (.receptionIdle dt burst) w) := by
  dsimp only [effect]
  split
  · exact .of_scene rfl rfl
  · exact takeVerdict_slotsEvent _ rfl rfl

theorem collision_slotsEvent (n : Nat) (w : State) : SlotsEvent (.collision n) w (effect (.collision n) w) := by
  dsimp only [effect]
  split
  · exact dropFrame_slotsEvent rfl rfl
  · exact .of_scene rfl rfl

theorem heartbeatExpiry_slotsEvent (w : State) : SlotsEvent .heartbeatExpiry w (effect .heartbeatExpiry w) := by
  obtain ⟨_, h⟩ := takeReason_eq { w with builder := { w.builder with heartbeatSince := none } }
  dsimp only [effect]
  split
  · rw [h]; exact .of_scene rfl rfl
  · exact .of_scene rfl rfl

theorem sectionQuery_slotsEvent (dt : Nat) (parameter : Byte) (w : State) :
    SlotsEvent (.sectionQuery dt parameter) w (effect (.sectionQuery dt parameter) w) := by
  obtain ⟨_, h⟩ := answerSection_eq parameter w
  exact judgeQuery_slotsEvent _ _ (by rw [h]; exact .of_scene rfl rfl)

theorem lineWin_slotsEvent (fault : Bool) (w : State) : SlotsEvent (.lineWin fault) w (effect (.lineWin fault) w) := by
  obtain ⟨_, _, h⟩ := compareCopies_eq fault { w with line := { w.line with
    transmitter := .driving w.now, driven := frameOf (bodyAtWin w), quietSince := none
    receiver := { w.line.receiver with state := .skipping, badFirst := false } } }
  rw [show effect (.lineWin fault) w = _ from h]
  exact .of_scene rfl rfl

theorem attemptCompletion_slotsEvent (w : State) : SlotsEvent .attemptCompletion w (effect .attemptCompletion w) := by
  dsimp only [effect]
  split
  · exact .of_scene (by simp [State.scene]) (by simp)
  · exact .of_scene (by simp [State.scene]) (by simp)

theorem spikeQuietExpiry_slotsEvent (c : Channel) (w : State) :
    SlotsEvent (.spikeQuietExpiry c) w (effect (.spikeQuietExpiry c) w) := by
  cases c <;> exact .of_scene rfl rfl

theorem healthLevelChange_slotsEvent (dt : Nat) (c : Channel) (high : Bool) (w : State) :
    SlotsEvent (.healthLevelChange dt c high) w (effect (.healthLevelChange dt c high) w) := by
  cases c <;> exact .of_scene rfl rfl

theorem halfPeriodTick_slotsEvent (read : Vector PairLevels 4) (w : State) :
    SlotsEvent (.halfPeriodTick read) w (effect (.halfPeriodTick read) w) := by
  have h := judgeCounts_slotsEvent (c := .halfPeriodTick read) (w := w)
    (v := compareAll read { w with outputs := { w.outputs with tickSince := halfPeriodDue w, watch := 0 } }) rfl rfl
  exact h.outputs _

theorem takeReason_slotsEvent {c : Instr} {w v : State} (hscene : v.scene = w.scene) (hslots : v.slots = w.slots) :
    SlotsEvent c w (takeReason v) := by
  obtain ⟨_, h⟩ := takeReason_eq v
  rw [h]
  exact .of_scene hscene hslots

theorem alarmPatternStep_slotsEvent (w : State) : SlotsEvent .alarmPatternStep w (effect .alarmPatternStep w) := by
  dsimp only [effect]
  split <;> exact .of_scene rfl rfl

theorem selfTest_slotsEvent {c : Instr} {w passed : State} (passes : Prop) [Decidable passes]
    (hscene : passed.scene = w.scene) (hslots : passed.slots = w.slots) :
    SlotsEvent c w (if passes then passed else enterLockdown .selfTestFault w) := by
  split
  · exact .of_scene hscene hslots
  · exact .of_lockdown rfl rfl

theorem clockCheckPeriodEnd_slotsEvent (measured : Nat) (w : State) :
    SlotsEvent (.clockCheckPeriodEnd measured) w (effect (.clockCheckPeriodEnd measured) w) := by
  dsimp only [effect]
  split
  · exact .of_lockdown rfl rfl
  · exact .of_scene rfl rfl

/-- The verdict on the image builds the slots; every other command's event finds them built, or none. -/
def ReadsImage : Instr → Prop
  | .configReadEnd .. => True
  | _ => False

/-- The events of the timers, and those from outside that reach the slots through an operation that more commands share. -/
theorem effect_slotsEvent {c : Instr} {s w : State} {x : Tick} (h : Arises c s x) (hc : ¬ReadsImage c)
    (hslots : w.slots = s.slots) (hphase : w.phase = s.phase) : SlotsEvent c w (effect c w) := by
  cases c with
  | powerOn | restart => exact h.elim
  | configReadEnd => exact absurd trivial hc
  | readBackTest readings =>
    refine readBackTest_slotsEvent ?_
    rw [hphase]
    simp only [Arises, readBackTestDue] at h
    split at h
    next hdue => simp [hdue.2.1]
    next => cases h
  | silenceEnd => exact silenceEnd_slotsEvent w
  | filteredChange dt a b => exact filteredChange_slotsEvent dt a b w
  | spike dt c => exact spike_slotsEvent dt c w
  | headFault c => exact headFault_slotsEvent c w
  | headRecovery => exact .of_judgeAll rfl id (fun _ => rfl) rfl
  | receptionIdle dt burst => exact receptionIdle_slotsEvent dt burst w
  | countTelegram dt tel order => exact countTelegram_slotsEvent dt tel order w
  | sectionQuery dt parameter => exact sectionQuery_slotsEvent dt parameter w
  | peersQuery | logQuery => exact judgeQuery_slotsEvent _ _ (.of_scene rfl rfl)
  | clearDiag => exact clearDiag_slotsEvent w
  | lineWin fault => exact lineWin_slotsEvent fault w
  | collision n => exact collision_slotsEvent n w
  | attemptCompletion => exact attemptCompletion_slotsEvent w
  | heartbeatExpiry => exact heartbeatExpiry_slotsEvent w
  | lockdownTelegramTimer => exact takeReason_slotsEvent rfl rfl
  | peerStale n => exact peerStale_slotsEvent n w
  | peerLost n => exact peerLost_slotsEvent n w
  | negativeBalance i => exact negativeBalance_slotsEvent i w
  | settledTimeExpiry i => exact .of_modify (k := i) rfl rfl fun _ _ _ _ => .settles i rfl rfl
  | confirmExpiry i => exact confirmExpiry_slotsEvent h hslots
  | windowExpiry i => exact windowExpiry_slotsEvent h hslots
  | lingerEnd i => exact lingerEnd_slotsEvent h hslots
  | coolDownEnd i => exact .of_modify (k := i) rfl rfl fun _ _ _ _ => .cools rfl
  | debouncedLevelChange | confirmSweep | confirmDirect => exact operatorSample_slotsEvent _ w
  | lineLoopTest | laneTest => exact selfTest_slotsEvent _ rfl rfl
  | clockCheckPeriodEnd measured => exact clockCheckPeriodEnd_slotsEvent measured w
  | laneMismatch => exact .of_lockdown rfl rfl
  | halfPeriodTick read => exact halfPeriodTick_slotsEvent read w
  | spikeQuietExpiry c => exact spikeQuietExpiry_slotsEvent c w
  | healthLevelChange dt c high => exact healthLevelChange_slotsEvent dt c high w
  | tickWatchExpiry => exact judgeCounts_slotsEvent rfl rfl
  | alarmPatternStep => exact alarmPatternStep_slotsEvent w
  | restartRelease | stationTimeWrap | statusQuery | lineIdle | deferral | spacingEnd | selection | selectionTimeout
  | lampPatternStep | statusLineToggle | refusalPatternStep | queryOfUnknownKind =>
    exact .of_scene rfl rfl

end Sys2Proof.Machine
end

section
/-! PROOFS. The way of an accepted telegram through one slot as a rule: what the causes, the one change of totals, the two
readers of the view and a range that an application brings about each keep, the whole way keeps. -/

namespace Sys2Proof.Machine

/-! ### The orders of the items (R100) -/

theorem arrange_perm {α : Type} (n : Nat) (xs : List α) : (arrange n xs).Perm xs := by
  induction xs generalizing n with
  | nil => exact .refl _
  | cons x xs ih =>
    have hrest := ih (n / (xs.length + 1))
    refine (List.perm_insertIdx x _ ?_).trans (hrest.cons x)
    rw [hrest.length_eq]
    exact Nat.le_of_lt_succ (Nat.mod_lt _ xs.length.succ_pos)

theorem itemsOf_count (r : PeerRecord) (j : Judgement) (t : Telegram) : (itemsOf r j t).count .changes = 1 := by
  unfold itemsOf
  split <;> split <;> split <;> rfl

/-- The changes of a telegram are one of its items: causes stand before and after them. -/
theorem arranged_split {items : List Item} (h : items.count .changes = 1) (n : Nat) : ∃ first last,
    arrange n items = first ++ .changes :: last ∧ Item.changes ∉ first ∧ Item.changes ∉ last := by
  have hcount : (arrange n items).count .changes = 1 := ((arrange_perm n items).count_eq _).trans h
  have hmem : Item.changes ∈ arrange n items := List.count_pos_iff.mp (by omega)
  obtain ⟨first, last, heq⟩ := List.append_of_mem hmem
  rw [heq] at hcount
  simp only [List.count_append, List.count_cons_self] at hcount
  exact ⟨first, last, heq, List.count_eq_zero.mp (by omega), List.count_eq_zero.mp (by omega)⟩

/-! ### What stays of a slot -/

/-- The section and the boundary list of a slot, its bases apart, stand from the build on (R43). -/
structure SameBounds (sl sl' : Slot) : Prop where
  number : sl'.sectionNumber = sl.sectionNumber
  side : sl'.side = sl.side
  direct : sl'.direct = sl.direct
  boundary : sl'.boundary.map (fun b => (b.station, b.side)) = sl.boundary.map (fun b => (b.station, b.side))

namespace SameBounds

theorem refl (sl : Slot) : SameBounds sl sl := ⟨rfl, rfl, rfl, rfl⟩

theorem trans {a b c : Slot} (h : SameBounds a b) (h' : SameBounds b c) : SameBounds a c :=
  ⟨h'.number.trans h.number, h'.side.trans h.side, h'.direct.trans h.direct, h'.boundary.trans h.boundary⟩

theorem stations {a b : Slot} (h : SameBounds a b) : b.boundary.map (·.station) = a.boundary.map (·.station) := by
  have := congrArg (List.map Prod.fst) h.boundary
  simpa [List.map_map, Function.comp_def] using this

theorem uses {a b : Slot} (h : SameBounds a b) (own n : Nat) : b.uses own n = a.uses own n := by
  have hbounds : ∀ sl : Slot, sl.bounds n = (sl.boundary.map (·.station)).any (· == n) := by
    intro sl; simp [Slot.bounds, List.any_map, Function.comp_def]
  simp [Slot.uses, hbounds, h.stations]

end SameBounds

theorem disturb_bounds (cause : Cause) (time : Word32) (station : Nat) (sl : Slot) :
    SameBounds sl (disturb cause time station sl) := by
  unfold disturb
  split <;> exact ⟨rfl, rfl, rfl, rfl⟩

theorem judge_bounds (s : State) (changed : Bool) (sl : Slot) : SameBounds sl (judge s changed sl) := by
  obtain h | ⟨-, -, h⟩ | ⟨-, -, -, h⟩ | ⟨-, -, h⟩ :=
    judgeClearing_cases s.now (s.clearingConditions sl) changed sl <;> rw [judge, h]
  · exact .refl sl
  · exact ⟨rfl, rfl, rfl, rfl⟩
  · exact ⟨rfl, rfl, rfl, rfl⟩
  · exact ⟨rfl, rfl, rfl, rfl⟩

theorem takeTotals_bounds (s : State) (evaluating : Bool) (sl : Slot) : SameBounds sl (takeTotals s evaluating sl) := by
  have hjudged : SameBounds sl (judge s true (recompute s { sl with settledSince := some s.now })) :=
    .trans (b := recompute s { sl with settledSince := some s.now }) ⟨rfl, rfl, rfl, rfl⟩ (judge_bounds ..)
  unfold takeTotals
  dsimp only
  split
  · exact hjudged.trans (disturb_bounds ..)
  · exact hjudged

theorem takeChanges_bounds (before after : PeerRecord) (s : State) (evaluating : Bool) (sl : Slot) :
    SameBounds sl (takeChanges before after s evaluating sl) := by
  unfold takeChanges
  split
  · exact takeTotals_bounds ..
  · exact judge_bounds ..

theorem rebase_bounds (f : Boundary → Option (Word16 × Word16)) (bs : List Boundary) :
    (bs.map fun b => b.rebase (f b)).map (fun b => (b.station, b.side)) = bs.map (fun b => (b.station, b.side)) := by
  rw [List.map_map]
  refine List.map_congr_left fun b _ => ?_
  simp only [Function.comp_apply, Boundary.rebase]
  split <;> rfl

theorem applyDemand_bounds (s : State) (demand : Demand) (sl : Slot) : SameBounds sl (applyDemand s demand sl) := by
  refine .trans (b := { rebased s demand sl with
    negativeSince := if (rebased s demand sl).balance < 0 then some s.now else none }) ⟨rfl, rfl, rfl, ?_⟩ (judge_bounds ..)
  exact rebase_bounds (fun b => resetBase s sl demand b.station) sl.boundary

theorem setAgreement_bounds (s : State) (demand : Demand) (members : List Nat) (sl : Slot) :
    SameBounds sl (setAgreement s demand members sl) := by
  unfold setAgreement
  dsimp only
  split
  · exact .trans (b := { sl with reset := { sl.reset with agreement := some members } }) ⟨rfl, rfl, rfl, rfl⟩
      (applyDemand_bounds ..)
  · exact ⟨rfl, rfl, rfl, rfl⟩

theorem judgeAdoption_bounds (s : State) (sender : Nat) (d : ViewDemand) (sl : Slot) :
    SameBounds sl (judgeAdoption s sender d sl) := by
  unfold judgeAdoption
  split
  · split
    · exact .trans (b := sl.takeDemand s.now (adoptedDemand s d) [s.own, sender]) ⟨rfl, rfl, rfl, rfl⟩
        (setAgreement_bounds ..)
    · exact ⟨rfl, rfl, rfl, rfl⟩
  · exact .refl sl

/-! ### A view is taken -/

/-- What the Reset Controller does with a view: nothing; its sender leaves the set; it joins; or, on a slot that ends its own
demand or has none, the demand of an AGREEING view is judged (R137 to R141). -/
inductive ViewTaken (s : State) (sender : Nat) (view : Option View) (sl : Slot) : Slot → Prop where
  | nothing : ViewTaken s sender view sl sl
  | leaves : sl.state = .agreeing → ViewTaken s sender view sl (sl.leave sender)
  | joins (v : View) (demand : Demand) (members : List Nat) : view = some v → sl.state = .agreeing →
      sl.reset.demand = some demand → v.demand.map (·.identity) = some demand.identity →
      ViewTaken s sender view sl (setAgreement s demand members sl)
  | judged (v : View) (d : ViewDemand) : view = some v → v.state = .agreeing → v.demand = some d → sl.state = .disturbed →
      ViewTaken s sender view sl (judgeAdoption s sender d sl)
  | superseded (v : View) (d : ViewDemand) : view = some v → v.state = .agreeing → v.demand = some d →
      sl.state = .agreeing → ViewTaken s sender view sl (judgeAdoption s sender d (sl.endDemand .superseded))

theorem View.offer_some {v : View} {d : ViewDemand} (h : v.offer = some d) : v.state = .agreeing ∧ v.demand = some d := by
  unfold View.offer at h
  split at h
  next hstate => exact ⟨hstate, h⟩
  next => cases h

theorem takeAgreeing_taken {s : State} {sender : Nat} {view : Option View} {demand : Demand} {sl : Slot}
    (hstate : sl.state = .agreeing) (hdemand : sl.reset.demand = some demand) :
    ViewTaken s sender view sl (takeAgreeing s sender view demand sl) := by
  cases view with
  | none => exact .leaves hstate
  | some v =>
    dsimp only [takeAgreeing]
    split
    next hidentity => exact .joins v demand _ rfl hstate hdemand hidentity
    next =>
      cases hoffer : v.offer with
      | none => exact .leaves hstate
      | some d =>
        dsimp only
        split
        · exact .superseded v d rfl (View.offer_some hoffer).1 (View.offer_some hoffer).2 hstate
        · exact .leaves hstate

theorem takeView_taken (s : State) (sender : Nat) (view : Option View) (sl : Slot) :
    ViewTaken s sender view sl (takeView s sender view sl) := by
  unfold takeView
  split
  next =>
    split
    next _ hstate =>
      cases view with
      | none => exact .nothing
      | some v =>
        dsimp only
        cases hoffer : v.offer with
        | none => exact .nothing
        | some d => exact .judged v d rfl (View.offer_some hoffer).1 (View.offer_some hoffer).2 hstate
    next demand hstate hdemand => exact takeAgreeing_taken hstate hdemand
    next => exact .nothing
    next => exact .nothing
  next => exact .nothing

/-- Outside RUN and in lockdown a view is not taken (R149). -/
theorem takeView_outside {s : State} (h : s.inService = false) (sender : Nat) (view : Option View) (sl : Slot) :
    takeView s sender view sl = sl := by
  simp [takeView, h]

theorem ViewTaken.bounds {s : State} {sender : Nat} {view : Option View} {sl sl' : Slot}
    (h : ViewTaken s sender view sl sl') : SameBounds sl sl' := by
  cases h with
  | nothing => exact .refl sl
  | leaves => exact ⟨rfl, rfl, rfl, rfl⟩
  | joins => exact setAgreement_bounds ..
  | judged => exact judgeAdoption_bounds ..
  | superseded => exact .trans (b := sl.endDemand .superseded) ⟨rfl, rfl, rfl, rfl⟩ (judgeAdoption_bounds ..)

/-! ### The whole way -/

theorem declareSlot_rule {P : Slot → Prop} {s : State} {sl : Slot} (cause : Cause) (station : Nat) (h : P sl)
    (hdisturb : s.lockdown = false → P (disturb cause s.stationTime station sl)) : P (declareSlot s cause station sl) := by
  unfold declareSlot
  split
  · exact h
  next hlocked => exact hdisturb (Bool.eq_false_iff.mpr hlocked)

theorem cause_rule {P : Slot → Prop} {before after : PeerRecord} {s : State} {i : Nat} {found sl : Slot} {item : Item}
    (hitem : item ≠ .changes) (h : P sl)
    (hdisturb : ∀ cause station, s.lockdown = false → P (disturb cause s.stationTime station sl)) :
    P (item.take before after s i found sl) := by
  cases item with
  | peerRestart | countJump | peerHead | boundaryMismatch =>
    dsimp only [Item.take]
    split
    · exact declareSlot_rule _ _ h (hdisturb _ _)
    · exact h
  | changes => exact absurd rfl hitem

theorem causes_rule {P : Slot → Prop} {before after : PeerRecord} {s : State} {i : Nat} {found : Slot}
    (hdisturb : ∀ sl cause station, s.lockdown = false → P sl → P (disturb cause s.stationTime station sl))
    {items : List Item} (hitems : Item.changes ∉ items) {sl : Slot} (h : P sl) :
    P (items.foldl (Item.take before after s i found) sl) := by
  induction items generalizing sl with
  | nil => exact h
  | cons item items ih =>
    rw [List.mem_cons, not_or] at hitems
    exact ih hitems.2 (cause_rule (Ne.symm hitems.1) h fun cause station hl => hdisturb sl cause station hl h)

theorem rangeAfter_rule {P : Slot → Prop} {s : State} {before sl : Slot} (h : P sl)
    (hdisturb : s.lockdown = false → P (disturb .countRange s.stationTime s.own sl)) : P (rangeAfter s before sl) := by
  unfold rangeAfter
  split
  next hrange => exact hdisturb (by simp at hrange; exact hrange.2)
  · exact h

theorem evaluateView_rule {P : Slot → Prop} {s : State} {view : Option View} {sl : Slot} (h : P sl)
    (hdisturb : ∀ cause station, s.lockdown = false → P (disturb cause s.stationTime station sl)) :
    P (evaluateView s view sl) := by
  unfold evaluateView
  split
  · split
    · exact h
    next hopen =>
      have hlocked : s.lockdown = false := by simp at hopen; exact hopen.1
      split
      · exact hdisturb _ _ hlocked
      · split
        · exact hdisturb _ _ hlocked
        · exact h
  · exact h

/-- What an accepted telegram does to a slot that uses the peer keeps `Q` from its changes on, if `P` stands up to them, and
each cause, the taking of the view and a judgement keep `Q`. -/
theorem telegramSlot_takeView_rule {P Q : Slot → Prop} {order : TakingOrder} {r after : PeerRecord} {items : List Item} {s : State}
    {i : Nat} {sl : Slot} (hitems : items.count .changes = 1) (huses : sl.uses s.own after.station = true)
    (hstart : P sl)
    (hbefore : ∀ x cause station, s.lockdown = false → P x → P (disturb cause s.stationTime station x))
    (hchanges : ∀ x, SameBounds sl x → P x → Q (takeChanges r after s sl.state.evaluating x))
    (hcause : ∀ x cause station, s.lockdown = false → Q x → Q (disturb cause s.stationTime station x))
    (hview : ∀ x, SameBounds sl x → Q x → Q (takeView s after.station (after.view? sl.sectionNumber) x))
    (hjudge : ∀ x, totalsChange r after = false → Q x → Q (judge s false x)) :
    Q (telegramSlot order r after items s i sl) := by
  have hread : ∀ first x, SameBounds sl x ∧ Q x →
      SameBounds sl (readSlot order first after (totalsChange r after) s i x) ∧
        Q (readSlot order first after (totalsChange r after) s i x) := by
    rintro first x ⟨hbounds, hQ⟩
    have hused : x.uses s.own after.station = true := (hbounds.uses ..).trans huses
    suffices hviewed : SameBounds sl (readView order first after (totalsChange r after) s i x) ∧
        Q (readView order first after (totalsChange r after) s i x) by
      exact rangeAfter_rule (P := fun x => SameBounds sl x ∧ Q x) hviewed fun hl =>
        ⟨hviewed.1.trans (disturb_bounds ..), hcause _ _ _ hl hviewed.2⟩
    unfold readView
    rw [if_pos hused, hbounds.number]
    split
    · have htaken := takeView_taken s after.station (after.view? sl.sectionNumber) x
      exact ⟨hbounds.trans htaken.bounds, hview x hbounds hQ⟩
    · have hseen := evaluateView_rule (P := fun x => SameBounds sl x ∧ Q x) (s := s) (view := after.view? sl.sectionNumber)
        ⟨hbounds, hQ⟩ fun cause station hl => ⟨hbounds.trans (disturb_bounds ..), hcause _ _ _ hl hQ⟩
      unfold evaluatorTakes
      dsimp only
      split
      · exact hseen
      next hjudged => exact ⟨hseen.1.trans (judge_bounds ..), hjudge _ (Bool.eq_false_iff.mpr hjudged) hseen.2⟩
  obtain ⟨first, last, hsplit, hfirst, hlast⟩ := arranged_split hitems (order.causes[i]?.getD 0)
  have htaken : SameBounds sl (takeSlotItems order r after items s i sl) ∧ Q (takeSlotItems order r after items s i sl) := by
    rw [takeSlotItems, hsplit, List.foldl_append, List.foldl_cons]
    have hP := causes_rule (P := fun x => SameBounds sl x ∧ P x) (before := r) (after := after) (i := i) (found := sl)
      (fun x cause station hl h => ⟨h.1.trans (disturb_bounds ..), hbefore x cause station hl h.2⟩) hfirst ⟨.refl sl, hstart⟩
    refine causes_rule (P := fun x => SameBounds sl x ∧ Q x)
      (fun x cause station hl h => ⟨h.1.trans (disturb_bounds ..), hcause x cause station hl h.2⟩) hlast ?_
    have hchanged := hchanges _ hP.1 hP.2
    rw [Item.take, if_pos ((hP.1.uses ..).trans huses)]
    exact ⟨hP.1.trans (takeChanges_bounds ..), hchanged⟩
  exact (hread false _ (hread true _ htaken)).2

/-- The same, with what the taking of the view may bring. -/
theorem telegramSlot_rule {P Q : Slot → Prop} {order : TakingOrder} {r after : PeerRecord} {items : List Item} {s : State}
    {i : Nat} {sl : Slot} (hitems : items.count .changes = 1) (huses : sl.uses s.own after.station = true)
    (hstart : P sl)
    (hbefore : ∀ x cause station, s.lockdown = false → P x → P (disturb cause s.stationTime station x))
    (hchanges : ∀ x, SameBounds sl x → P x → Q (takeChanges r after s sl.state.evaluating x))
    (hcause : ∀ x cause station, s.lockdown = false → Q x → Q (disturb cause s.stationTime station x))
    (hview : ∀ x, SameBounds sl x → Q x → ∀ x', ViewTaken s after.station (after.view? sl.sectionNumber) x x' → Q x')
    (hjudge : ∀ x, totalsChange r after = false → Q x → Q (judge s false x)) :
    Q (telegramSlot order r after items s i sl) :=
  telegramSlot_takeView_rule hitems huses hstart hbefore hchanges hcause
    (fun x hbounds hx => hview x hbounds hx _ (takeView_taken ..)) hjudge

/-- On a slot that does not use the peer an accepted telegram can declare BOUNDARY_MISMATCH alone (R99). -/
theorem telegramSlot_unused_rule {P : Slot → Prop} {order : TakingOrder} {r after : PeerRecord} {items : List Item}
    {s : State} {i : Nat} {sl : Slot} (huses : sl.uses s.own after.station = false) (hstart : P sl)
    (hdisturb : ∀ x cause station, s.lockdown = false → P x → P (disturb cause s.stationTime station x)) :
    P (telegramSlot order r after items s i sl) := by
  have hread : ∀ first x, x.uses s.own after.station = false →
      readSlot order first after (totalsChange r after) s i x = x := by
    intro first x hx
    have hview : readView order first after (totalsChange r after) s i x = x := if_neg (by simp [hx])
    rw [readSlot, hview, rangeAfter, if_neg (by cases x.state.evaluating <;> simp)]
  have htake : ∀ items : List Item, ∀ x, SameBounds sl x ∧ P x →
      SameBounds sl (items.foldl (Item.take r after s i sl) x) ∧ P (items.foldl (Item.take r after s i sl) x) := by
    intro items
    induction items with
    | nil => exact fun _ h => h
    | cons item items ih =>
      intro x hx
      refine ih _ ?_
      have hunused : x.uses s.own after.station = false := (hx.1.uses ..).trans huses
      by_cases hitem : item = .changes
      · rw [hitem, Item.take, if_neg (by simp [hunused])]
        exact hx
      · exact cause_rule (P := fun x => SameBounds sl x ∧ P x) hitem hx fun cause station hl =>
          ⟨hx.1.trans (disturb_bounds ..), hdisturb x cause station hl hx.2⟩
  have htaken := htake (arrange (order.causes[i]?.getD 0) items) sl ⟨.refl sl, hstart⟩
  have hunused := (htaken.1.uses s.own after.station).trans huses
  rw [telegramSlot, takeSlotItems, hread _ _ hunused, hread _ _ hunused]
  exact htaken.2

end Sys2Proof.Machine
end

section
/-! PROOFS. What the event of any command but the verdict on the image does to the start phase and to the Peer Table, and one
rule for what a step does to the slots. -/

namespace Sys2Proof.Machine

/-! ### The start phase -/

theorem configured_of_selfTest {s : State} (h : s.phase = .selfTest) : s.configured = true := by simp [State.configured, h]

theorem enterRun_configured (s : State) : (enterRun s).configured = true := by
  simp [State.configured, enterRun]

theorem enterSilence_configured (s : State) : (enterSilence s).configured = true := by
  obtain ⟨-, h⟩ | ⟨-, h⟩ := enterSilence_cases s <;> rw [h]
  · rfl
  · exact enterRun_configured _

theorem takeVerdict_phase (v : Verdict) (s : State) : (takeVerdict v s).phase = s.phase := by
  obtain ⟨_, h⟩ | ⟨_, _, h⟩ | ⟨_, h⟩ := takeVerdict_cases v s <;> simp [h]

theorem selfTest_configured {w passed : State} {passes : Prop} [Decidable passes] (h : passed.phase = w.phase) :
    (if passes then passed else enterLockdown .selfTestFault w).configured = w.configured := by
  split
  · exact configured_eq h
  · exact configured_eq (enterLockdown_phase ..)

theorem silenceEnd_configured (w : State) : (effect .silenceEnd w).configured = w.configured := by
  dsimp only [effect]
  split
  · split
    · exact configured_eq (takeReason_phase _)
    · exact configured_eq (takeReason_phase _)
    · rfl
  · split
    next h => rw [enterRun_configured]; simp [State.configured, h]
    next => rfl

theorem followPassage_phase (a b : Bool) (w : State) : (followPassage a b w).phase = w.phase := by
  unfold followPassage
  split
  · simp
  · rfl

/-- Tables once built stand until the next start, and no event but the verdict on the image builds them. -/
theorem effect_configured {c : Instr} {s w : State} {x : Tick} (h : Arises c s x) (hc : ¬ReadsImage c)
    (hphase : w.phase = s.phase) : (effect c w).configured = w.configured := by
  by_cases htouches : TouchesDetection c
  · cases c <;> try exact htouches.elim
    case powerOn | restart => exact h.elim
    case configReadEnd => exact absurd trivial hc
    case lineLoopTest | laneTest => exact selfTest_configured rfl
    case readBackTest =>
      rw [(configured_eq hphase).trans (configured_of_readBackTestDue h)]
      dsimp only [effect]
      split
      · exact enterSilence_configured w
      · exact (configured_eq (enterLockdown_phase ..)).trans ((configured_eq hphase).trans (configured_of_readBackTestDue h))
    case silenceEnd => exact silenceEnd_configured w
    case filteredChange => exact configured_eq (followPassage_phase ..)
    case spike =>
      dsimp only [effect]
      split
      · exact configured_eq (by simp)
      · rfl
    case headFault =>
      dsimp only [effect]
      split
      · rfl
      · exact configured_eq (by simp)
    case receptionIdle =>
      dsimp only [effect]
      split
      · rfl
      · exact configured_eq (takeVerdict_phase ..)
    case clockCheckPeriodEnd =>
      dsimp only [effect]
      split
      · exact configured_eq (enterLockdown_phase ..)
      · rfl
    case laneMismatch => exact configured_eq (enterLockdown_phase ..)
    case halfPeriodTick | tickWatchExpiry => exact configured_eq (by simp [effect])
    case spikeQuietExpiry | headRecovery | healthLevelChange => rfl
  · obtain ⟨-, -, -, hkeeps⟩ := effect_keepsDetection htouches w
    exact configured_eq hkeeps

/-! ### The Peer Table -/

/-- What an event does to a record of the Peer Table; the record found by its station is the one judged. -/
inductive PeerEvent (w : State) (r : PeerRecord) : PeerRecord → Prop where
  | untouched : PeerEvent w r r
  | cleared : PeerEvent w r { r with gaps := 0 }
  | stale (found : PeerRecord) : w.peer? r.station = some found → found.state = .fresh →
      PeerEvent w r { r with state := .stale }
  | lost (found : PeerRecord) : w.peer? r.station = some found → found.state = .stale → PeerEvent w r r.lose
  | accepted (found : PeerRecord) (tel : Telegram) : w.peer? r.station = some found → found.station = r.station →
      PeerEvent w r (found.accept w.now w.own w.slots (judgeSequence found tel.sequence) tel)

theorem PeerEvent.station {w : State} {r r' : PeerRecord} (h : PeerEvent w r r') : r'.station = r.station := by
  cases h with
  | accepted found tel hfound hstation => exact hstation
  | _ => rfl

/-- What an event does to the Peer Table. -/
def PeersEvent (w u : State) : Prop :=
  ∃ f : PeerRecord → PeerRecord, u.peers = w.peers.map f ∧ ∀ r ∈ w.peers, PeerEvent w r (f r)

theorem PeersEvent.of_eq {w u : State} (h : u.peers = w.peers) : PeersEvent w u :=
  ⟨id, by simp [h], fun r _ => .untouched⟩

theorem PeersEvent.of_modify {w u : State} {n : Nat} {f : PeerRecord → PeerRecord} (hu : u.peers = (w.modifyPeer n f).peers)
    (h : ∀ r ∈ w.peers, r.station = n → PeerEvent w r (f r)) : PeersEvent w u := by
  refine ⟨fun r => if r.station == n then f r else r, hu, fun r hr => ?_⟩
  dsimp only
  split
  next hn => exact h r hr (by simpa using hn)
  next => exact .untouched

theorem PeersEvent.stations {w u : State} (h : PeersEvent w u) :
    u.peers.map (·.station) = w.peers.map (·.station) := by
  obtain ⟨f, hpeers, hevent⟩ := h
  rw [hpeers, List.map_map]
  exact List.map_congr_left fun r hr => (hevent r hr).station

theorem enterSilence_peers (s : State) : (enterSilence s).peers = s.peers := by
  obtain ⟨-, h⟩ | ⟨-, h⟩ := enterSilence_cases s <;> simp [h, enterRun]

theorem takeVerdict_peers (v : Verdict) (s : State) : (takeVerdict v s).peers = s.peers := by
  obtain ⟨_, h⟩ | ⟨_, _, h⟩ | ⟨_, h⟩ := takeVerdict_cases v s <;> simp [h]

theorem followPassage_peers (a b : Bool) (w : State) : (followPassage a b w).peers = w.peers := by
  unfold followPassage
  split
  · simp
  · rfl

theorem dropFrame_peers (s : State) : (dropFrame s).peers = s.peers := by
  obtain ⟨_, _, _, h⟩ := dropFrame_eq s
  rw [h]

theorem judgeQuery_peers {kind : Byte} {inRange : Bool} {answer : State → State} {s : State}
    (h : (answer s).peers = s.peers) : (judgeQuery kind inRange answer s).peers = s.peers := by
  obtain h' | ⟨-, h'⟩ := judgeQuery_cases kind inRange answer s <;> rw [h']
  · rfl
  · exact h

theorem peerStaleDue_some {s : State} {n : Nat} {x : Tick} (h : peerStaleDue s n = some x) :
    ∃ r, s.peer? n = some r ∧ r.state = .fresh := by
  unfold peerStaleDue at h
  split at h
  next r hr =>
    split at h
    next hfresh => exact ⟨r, hr, hfresh⟩
    next => cases h
  next => cases h

theorem peerLostDue_some {s : State} {n : Nat} {x : Tick} (h : peerLostDue s n = some x) :
    ∃ r, s.peer? n = some r ∧ r.state = .stale := by
  unfold peerLostDue at h
  split at h
  next r hr =>
    split at h
    next hstale => exact ⟨r, hr, hstale⟩
    next => cases h
  next => cases h

theorem peerStale_peersEvent {n : Nat} {s w : State} {x : Tick} (h : peerStaleDue s n = some x) (hpeers : w.peers = s.peers) :
    PeersEvent w (effect (.peerStale n) w) := by
  obtain ⟨found, hfound, hfresh⟩ := peerStaleDue_some h
  have hfound' : w.peer? n = some found := by rw [State.peer?, hpeers]; exact hfound
  exact .of_modify (f := fun r => { r with state := .stale }) rfl fun r _ hr => .stale found (hr ▸ hfound') hfresh

theorem peerLost_peersEvent {n : Nat} {s w : State} {x : Tick} (h : peerLostDue s n = some x) (hpeers : w.peers = s.peers) :
    PeersEvent w (effect (.peerLost n) w) := by
  obtain ⟨found, hfound, hstale⟩ := peerLostDue_some h
  have hfound' : w.peer? n = some found := by rw [State.peer?, hpeers]; exact hfound
  obtain ⟨_, heq⟩ := peerLost_eq n w
  exact .of_modify (f := PeerRecord.lose) (by rw [heq]) fun r _ hr => .lost found (hr ▸ hfound') hstale

theorem countTelegram_peersEvent (dt : Nat) (tel : Telegram) (order : TakingOrder) (w : State) :
    PeersEvent w (effect (.countTelegram dt tel order) w) := by
  dsimp only [effect]
  split
  next found hfound =>
    have hstation := peer?_station hfound
    obtain h | ⟨-, -, h⟩ := judgeTelegram_cases found tel order w <;> rw [h]
    · exact .of_eq rfl
    · obtain ⟨_, _, _, _, _, heq⟩ := acceptTelegram_eq found (judgeSequence found tel.sequence) tel order w
      refine .of_modify (n := found.station) (by rw [heq]; rfl) fun r _ hr => ?_
      exact .accepted found tel (by rw [hr, hstation]; exact hfound) hr.symm
  next => exact .of_eq rfl

/-- Every event but the verdict on the image keeps the stations of the Peer Table. -/
theorem effect_peersEvent {c : Instr} {s w : State} {x : Tick} (h : Arises c s x) (hc : ¬ReadsImage c)
    (hpeers : w.peers = s.peers) : PeersEvent w (effect c w) := by
  cases c with
  | powerOn | restart => exact h.elim
  | configReadEnd => exact absurd trivial hc
  | peerStale n => exact peerStale_peersEvent h hpeers
  | peerLost n => exact peerLost_peersEvent h hpeers
  | countTelegram dt tel order => exact countTelegram_peersEvent dt tel order w
  | clearDiag =>
    obtain h | ⟨-, h⟩ := judgeQuery_cases 5 true (fun w => placeAnswer 5 [] (clearCounters w)) w
    · exact .of_eq (congrArg (·.peers) h)
    · exact ⟨fun r => { r with gaps := 0 }, congrArg (·.peers) h, fun _ _ => .cleared⟩
  | lineLoopTest | laneTest =>
    dsimp only [effect]
    split
    · exact .of_eq rfl
    · exact .of_eq (enterLockdown_peers ..)
  | readBackTest =>
    dsimp only [effect]
    split
    · exact .of_eq (enterSilence_peers w)
    · exact .of_eq (enterLockdown_peers ..)
  | silenceEnd =>
    dsimp only [effect]
    split
    · split <;> exact .of_eq (by simp)
    · split <;> exact .of_eq (by simp [enterRun])
  | filteredChange => exact .of_eq (followPassage_peers ..)
  | spike | headFault =>
    dsimp only [effect]
    split <;> exact .of_eq (by simp)
  | receptionIdle =>
    dsimp only [effect]
    split
    · exact .of_eq rfl
    · exact .of_eq (takeVerdict_peers ..)
  | sectionQuery dt parameter =>
    obtain ⟨_, h⟩ := answerSection_eq parameter w
    exact .of_eq (judgeQuery_peers (by rw [h]))
  | peersQuery | logQuery => exact .of_eq (judgeQuery_peers rfl)
  | lineWin fault =>
    obtain ⟨_, _, h⟩ := compareCopies_eq fault { w with line := { w.line with
      transmitter := .driving w.now, driven := frameOf (bodyAtWin w), quietSince := none
      receiver := { w.line.receiver with state := .skipping, badFirst := false } } }
    exact .of_eq (congrArg (·.peers) h)
  | collision =>
    dsimp only [effect]
    split
    · exact .of_eq (dropFrame_peers _)
    · exact .of_eq rfl
  | attemptCompletion =>
    dsimp only [effect]
    split <;> exact .of_eq (by simp)
  | heartbeatExpiry =>
    dsimp only [effect]
    split <;> exact .of_eq (by simp)
  | lockdownTelegramTimer => exact .of_eq (by simp [effect])
  | negativeBalance => exact .of_eq (by simp [effect])
  | debouncedLevelChange | confirmSweep | confirmDirect =>
    obtain ⟨_, _, _, _, h⟩ := takeOperatorSample_eq (sampledLevels _ w) w
    exact .of_eq (congrArg (·.peers) h)
  | laneMismatch => exact .of_eq (by simp [effect])
  | clockCheckPeriodEnd =>
    dsimp only [effect]
    split
    · exact .of_eq (enterLockdown_peers ..)
    · exact .of_eq rfl
  | halfPeriodTick | tickWatchExpiry => exact .of_eq (by simp [effect])
  | alarmPatternStep =>
    dsimp only [effect]
    split <;> exact .of_eq rfl
  | _ => exact .of_eq rfl

/-! ### Every step -/

/-- Time alone lies between two states, as far as the slots and what their rules read are concerned. -/
structure Later (s w : State) : Prop where
  scene : w.scene = { s.scene with now := w.now }
  slots : w.slots = s.slots

namespace Later

theorem totalsOf {s w : State} (h : Later s w) (n : Nat) : w.totalsOf n = s.totalsOf n := by
  rw [totalsOf_scene, h.scene]; rfl

theorem ownTotals {s w : State} (h : Later s w) : w.txy = s.txy ∧ w.tyx = s.tyx :=
  ⟨congrArg (·.txy) h.scene, congrArg (·.tyx) h.scene⟩

theorem lockdown {s w : State} (h : Later s w) : w.lockdown = s.lockdown := congrArg (·.lockdown) h.scene
theorem phase {s w : State} (h : Later s w) : w.phase = s.phase := congrArg (·.phase) h.scene
theorem config {s w : State} (h : Later s w) : w.config = s.config := congrArg (·.config) h.scene
theorem peers {s w : State} (h : Later s w) : w.peers = s.peers := congrArg (·.peers) h.scene
theorem own {s w : State} (h : Later s w) : w.own = s.own := by rw [State.own, h.config]; rfl

theorem trusted {s w : State} (h : Later s w) (sl : Slot) : InputsTrusted w sl ↔ InputsTrusted s sl := by
  rw [← clearingConditions_iff, ← clearingConditions_iff, clearingConditions_scene, h.scene]
  rfl

theorem trans {s v w : State} (h : Later s v) (h' : Later v w) : Later s w :=
  ⟨by rw [h'.scene, h.scene], h'.slots.trans h.slots⟩

end Later

theorem reach_later (c : Instr) (rest : List Instr) (x : Tick) (s : State) :
    Later s ((State.unhand c { s with pending := rest }).reach x) := by
  obtain ⟨handed, h⟩ := State.unhand_eq c { s with pending := rest }
  obtain ⟨_, _, _, hreach⟩ := reach_eq (State.unhand c { s with pending := rest }) x
  rw [hreach, h]
  exact ⟨rfl, rfl⟩

theorem idles_later {s t : State} (h : Idles s t) : Later s t := by
  cases h with
  | raises => exact ⟨rfl, rfl⟩
  | ticks =>
    obtain ⟨_, _, _, h⟩ := pass_eq s 1
    rw [tick, h]
    exact ⟨rfl, rfl⟩
  | samples pending freeUses runA runB restartFrom runs sampled heq =>
    obtain ⟨_, _, h⟩ := noteRuns_eq s sampled
    rw [h, heq]
    exact ⟨rfl, rfl⟩

/-- What a step does to the slots: it starts the part afresh; time passes; the image is judged; or the event of the command
at the front of the queue comes, from `w` to `u`. -/
inductive SlotsStep (s t : State) : Prop where
  | starts : t.slots = [] → t.peers = [] → t.txy = 0 → t.tyx = 0 → t.lockdown = false → SlotsStep s t
  | time : Later s t → SlotsStep s t
  | builds (w : State) (im : Image) (first : HeadLevels) : Later s w → s.phase = .configRead →
      t.scene = (passImage im first w).scene → t.slots = (passImage im first w).slots → SlotsStep s t
  | halts (w : State) : Later s w → s.phase = .configRead → t.scene = (failImage w).scene → t.slots = w.slots →
      SlotsStep s t
  | event (c : Instr) (rest : List Instr) (w u : State) : s.pending = c :: rest → Later s w → SlotsEvent c w u →
      PeersEvent w u → u.configured = w.configured →
      ((u.txy = w.txy ∧ u.tyx = w.tyx) ∨ ∃ dt a b, c = .filteredChange dt a b ∧ s.configured = true) →
      t.scene = u.scene → t.slots = u.slots → SlotsStep s t

theorem event_ownTotals {c : Instr} {s : State} {rest : List Instr} {x : Tick} {t : State} (hstarts : ¬Starts c)
    (harises : Arises c { s with pending := rest } x)
    (hexec : exec c { s with pending := rest } = .next t) :
    (t.txy = s.txy ∧ t.tyx = s.tyx) ∨ ∃ dt a b, c = .filteredChange dt a b ∧ s.configured = true := by
  by_cases hfiltered : ∃ dt a b, c = .filteredChange dt a b
  · obtain ⟨dt, a, b, rfl⟩ := hfiltered
    exact .inr ⟨dt, a, b, rfl, (configured_eq rfl).trans harises.1⟩
  · have := exec_ownTotals hstarts (fun dt a b hc => hfiltered ⟨dt, a, b, hc⟩) hexec
    exact .inl (ownTotals_eq_iff.mp this)

theorem step_slotsStep {s t : State} (h : step s = .next t) : SlotsStep s t := by
  unfold step at h
  split at h
  next c rest hpending =>
    by_cases hstarts : Starts c
    · cases exec_started hstarts h with
      | held => exact .time ⟨rfl, rfl⟩
      | fresh => exact .starts rfl rfl rfl rfl rfl
    cases exec_taken hstarts h with
    | still => exact .time ⟨rfl, rfl⟩
    | waits x => exact .time (reach_later c rest x s)
    | event x harises =>
      have hlater := reach_later c rest x s
      by_cases himage : ReadsImage c
      · cases c <;> try exact himage.elim
        case configReadEnd dt memory first =>
          have hphase : s.phase = .configRead := harises.2.1
          cases hverdict : passingImage memory with
          | some im => exact .builds _ im first hlater hphase (by simp [effect, hverdict]) (by simp [effect, hverdict])
          | none => exact .halts _ hlater hphase (by simp [effect, hverdict]) (by simp [effect, hverdict]; rfl)
      · refine .event c rest _ _ hpending hlater (effect_slotsEvent harises himage hlater.slots hlater.phase)
          (effect_peersEvent harises himage hlater.peers) (effect_configured harises himage hlater.phase) ?_
          (finish_scene ..) (finish_slots ..)
        have hown := event_ownTotals hstarts harises h
        rw [finish_txy, finish_tyx] at hown
        rw [hlater.ownTotals.1, hlater.ownTotals.2]
        exact hown
  next => cases h; exact .time (idles_later (idle_idles s))

end Sys2Proof.Machine
end

section
/-! PROOFS. The balances of every slot (7.2), the negative hold, the settled time and the entered flag. -/

namespace Sys2Proof.Machine

/-! ### The figures of a slot (R106, R107) -/

/-- The figures of a slot are those of the totals and bases as they stand. -/
structure Current (s : State) (sl : Slot) : Prop where
  contributions : sl.contributions = usedContributions s sl
  balance : sl.balance = balanceOf sl.contributions
  range : sl.range = outOfRange s sl

/-- The fields of a slot that its figures are made of. -/
def Slot.figures (sl : Slot) : List Boundary × List Contribution × Int × Bool :=
  (sl.boundary, sl.contributions, sl.balance, sl.range)

theorem rawContribution_of_totals {s t : State} {b : Boundary} (h : t.totalsOf b.station = s.totalsOf b.station) :
    rawContribution t b = rawContribution s b := by
  simp [rawContribution, h]

/-- Nothing but the boundary list, the figures and the totals of the boundary points counts. -/
theorem Current.of_figures {s t : State} {sl sl' : Slot} (h : Current s sl) (hfigures : sl'.figures = sl.figures)
    (htotals : ∀ b ∈ sl.boundary, t.totalsOf b.station = s.totalsOf b.station) : Current t sl' := by
  simp only [Slot.figures, Prod.mk.injEq] at hfigures
  obtain ⟨hboundary, hcontributions, hbalance, hrange⟩ := hfigures
  have hraw : ∀ b ∈ sl.boundary, rawContribution t b = rawContribution s b := fun b hb =>
    rawContribution_of_totals (htotals b hb)
  constructor
  · rw [hcontributions, h.contributions, usedContributions, usedContributions, hboundary]
    exact List.map_congr_left fun b hb => by rw [hraw b hb]
  · rw [hbalance, hcontributions, h.balance]
  · rw [hrange, h.range, outOfRange, outOfRange, hboundary, Bool.eq_iff_iff]
    simp only [List.any_eq_true]
    constructor <;> rintro ⟨b, hb, hout⟩ <;> exact ⟨b, hb, by rw [hraw b hb] at *; exact hout⟩

theorem Current.of_totals {s t : State} {sl sl' : Slot} (h : Current s sl) (hfigures : sl'.figures = sl.figures)
    (htotals : ∀ n, t.totalsOf n = s.totalsOf n) : Current t sl' :=
  h.of_figures hfigures fun b _ => htotals b.station

theorem recompute_current (s : State) (sl : Slot) : Current s (recompute s sl) := ⟨rfl, rfl, rfl⟩

theorem judge_eq (s : State) (changed : Bool) (sl : Slot) : ∃ state confirmSince entered,
    judge s changed sl = { sl with state := state, confirmSince := confirmSince, entered := entered } := by
  obtain h | ⟨-, -, h⟩ | ⟨-, -, -, h⟩ | ⟨-, -, h⟩ :=
    judgeClearing_cases s.now (s.clearingConditions sl) changed sl <;> rw [judge, h] <;> exact ⟨_, _, _, rfl⟩

theorem judge_figures (s : State) (changed : Bool) (sl : Slot) : (judge s changed sl).figures = sl.figures := by
  obtain ⟨_, _, _, h⟩ := judge_eq s changed sl
  rw [h]; rfl

theorem disturb_figures (cause : Cause) (time : Word32) (station : Nat) (sl : Slot) :
    (disturb cause time station sl).figures = sl.figures := by
  unfold disturb
  split <;> rfl

theorem takeTotals_figures (s : State) (evaluating : Bool) (sl : Slot) :
    (takeTotals s evaluating sl).figures = (recompute s { sl with settledSince := some s.now }).figures := by
  unfold takeTotals
  dsimp only
  split
  · rw [disturb_figures, judge_figures]
  · rw [judge_figures]

theorem abandonPassage_figures (sl : Slot) : (abandonPassage sl).figures = sl.figures := by
  unfold abandonPassage
  split <;> rfl

theorem applyDemand_figures (s : State) (demand : Demand) (sl : Slot) :
    (applyDemand s demand sl).figures = (rebased s demand sl).figures := judge_figures ..

theorem setAgreement_cases (s : State) (demand : Demand) (members : List Nat) (sl : Slot) :
    (complete sl members = false ∧
      setAgreement s demand members sl = { sl with reset := { sl.reset with agreement := some members } }) ∨
    (complete sl members = true ∧ setAgreement s demand members sl =
      applyDemand s demand { sl with reset := { sl.reset with agreement := some members } }) := by
  cases h : complete sl members
  · exact .inl ⟨rfl, by simp [setAgreement, h]⟩
  · exact .inr ⟨rfl, by simp [setAgreement, h]⟩

/-- What an adoption brings: nothing, a refusal, or the demand with its set, applied if that is complete (R138). -/
theorem judgeAdoption_cases (s : State) (sender : Nat) (d : ViewDemand) (sl : Slot) :
    judgeAdoption s sender d sl = sl ∨
    (sl.admits d.kind = false ∧
      judgeAdoption s sender d sl = { sl with reset := { sl.reset with outcome := .refused } }) ∨
    (s.headReady = true ∧ judgeAdoption s sender d sl = setAgreement s (adoptedDemand s d) [s.own, sender]
      (sl.takeDemand s.now (adoptedDemand s d) [s.own, sender])) := by
  unfold judgeAdoption
  split
  next hadoptable =>
    have hready : s.headReady = true := by simp [adoptable] at hadoptable; exact hadoptable.1.1
    split
    · exact .inr (.inr ⟨hready, rfl⟩)
    next hrefused => exact .inr (.inl ⟨Bool.eq_false_iff.mpr hrefused, rfl⟩)
  · exact .inl rfl

theorem setAgreement_current {s : State} {sl : Slot} (h : Current s sl) (demand : Demand) (members : List Nat) :
    Current s (setAgreement s demand members sl) := by
  obtain ⟨-, heq⟩ | ⟨-, heq⟩ := setAgreement_cases s demand members sl <;> rw [heq]
  · exact h.of_totals rfl fun _ => rfl
  · exact (recompute_current s _).of_totals (applyDemand_figures ..) fun _ => rfl

theorem judgeAdoption_current {s : State} {sl : Slot} (h : Current s sl) (sender : Nat) (d : ViewDemand) :
    Current s (judgeAdoption s sender d sl) := by
  obtain heq | ⟨-, heq⟩ | ⟨-, heq⟩ := judgeAdoption_cases s sender d sl <;> rw [heq]
  · exact h
  · exact h.of_totals rfl fun _ => rfl
  · exact setAgreement_current (h.of_totals (sl' := sl.takeDemand ..) rfl fun _ => rfl) ..

theorem ViewTaken.current {s : State} {sender : Nat} {view : Option View} {sl sl' : Slot}
    (h : ViewTaken s sender view sl sl') (hcurrent : Current s sl) : Current s sl' := by
  cases h with
  | nothing => exact hcurrent
  | leaves => exact hcurrent.of_totals rfl fun _ => rfl
  | joins => exact setAgreement_current hcurrent ..
  | judged => exact judgeAdoption_current hcurrent ..
  | superseded =>
    exact judgeAdoption_current (hcurrent.of_totals (sl' := sl.endDemand .superseded) rfl fun _ => rfl) ..

/-! ### The totals of an accepted telegram -/

theorem withRecord_totalsOf {r : PeerRecord} {w : State} (hr : w.peer? r.station = some r) (j : Judgement) (tel : Telegram)
    {n : Nat} (h : n = w.own ∨ n ≠ r.station ∨ totalsChange r (r.accept w.now w.own w.slots j tel) = false) :
    (withRecord r j tel w).totalsOf n = w.totalsOf n := by
  have hscene := withRecord_scene r j tel w
  have hown : (withRecord r j tel w).own = w.own := by
    have : (withRecord r j tel w).config = w.config := congrArg (·.config) hscene
    rw [State.own, this]; rfl
  have htotals : (withRecord r j tel w).txy = w.txy ∧ (withRecord r j tel w).tyx = w.tyx :=
    ⟨congrArg (·.txy) hscene, congrArg (·.tyx) hscene⟩
  unfold State.totalsOf
  rw [hown, withRecord_peer? hr, htotals.1, htotals.2]
  by_cases hn : n = w.own
  · rw [if_pos hn, if_pos hn]
  · by_cases hsender : n = r.station
    · obtain h | h | h := h
      · exact absurd h hn
      · exact absurd hsender h
      · simp only [totalsChange, Bool.or_eq_false_iff, bne_eq_false_iff_eq] at h
        simp [hsender, hr, ← h.1, ← h.2]
    · simp [hn, hsender]

theorem withRecord_own (r : PeerRecord) (j : Judgement) (tel : Telegram) (w : State) : (withRecord r j tel w).own = w.own := by
  have : (withRecord r j tel w).config = w.config := congrArg (·.config) (withRecord_scene r j tel w)
  rw [State.own, this]; rfl

/-- The last identity is no part of what most rules of a slot read. -/
theorem forgetIdentity_eq (j : Judgement) (originator : Nat) (sl : Slot) : ∃ identity,
    (if j = .restart then forgetIdentity originator else id) sl =
      { sl with reset := { sl.reset with lastIdentity := identity } } := by
  split
  · unfold forgetIdentity
    split <;> exact ⟨_, rfl⟩
  · exact ⟨_, rfl⟩

theorem station_ne_of_unused {sl : Slot} {own n : Nat} (h : sl.uses own n = false) {b : Boundary} (hb : b ∈ sl.boundary) :
    b.station = own ∨ b.station ≠ n := by
  refine Classical.byContradiction fun hother => ?_
  rw [not_or, Classical.not_not] at hother
  have : sl.uses own n = true := uses_iff.mpr ⟨hother.2 ▸ hother.1, b, hb, hother.2⟩
  simp [h] at this

theorem telegramSlot_current {order : TakingOrder} {r : PeerRecord} {w : State} {j : Judgement} {tel : Telegram} {i : Nat}
    {sl : Slot} (hr : w.peer? r.station = some r) (h : Current w sl) :
    Current (withRecord r j tel w) (telegramSlot order r (r.accept w.now w.own w.slots j tel) (itemsOf r j tel)
      (withRecord r j tel w) i ((if j = .restart then forgetIdentity r.station else id) sl)) := by
  obtain ⟨identity, hidentity⟩ := forgetIdentity_eq j r.station sl
  rw [hidentity]
  have hstart : Current w { sl with reset := { sl.reset with lastIdentity := identity } } := h.of_totals rfl fun _ => rfl
  generalize { sl with reset := { sl.reset with lastIdentity := identity } } = x at hstart
  cases huses : x.uses (withRecord r j tel w).own r.station
  · refine telegramSlot_unused_rule (P := Current (withRecord r j tel w)) huses ?_ fun y cause station _ hy =>
      hy.of_totals (disturb_figures ..) fun _ => rfl
    rw [withRecord_own] at huses
    exact hstart.of_figures rfl fun b hb => withRecord_totalsOf hr j tel ((station_ne_of_unused huses hb).imp id .inl)
  · refine telegramSlot_rule (P := Current w) (Q := Current (withRecord r j tel w)) (itemsOf_count ..) huses hstart ?_ ?_ ?_
      ?_ ?_
    · exact fun y cause station _ hy => hy.of_totals (disturb_figures ..) fun _ => rfl
    · intro y _ hy
      unfold takeChanges
      split
      · exact (recompute_current _ _).of_totals (takeTotals_figures ..) fun _ => rfl
      next hsame =>
        exact hy.of_totals (judge_figures ..) fun n => withRecord_totalsOf hr j tel (.inr (.inr (Bool.eq_false_iff.mpr hsame)))
    · exact fun y cause station _ hy => hy.of_totals (disturb_figures ..) fun _ => rfl
    · exact fun y _ hy y' htaken => htaken.current hy
    · exact fun y _ hy => hy.of_totals (judge_figures ..) fun _ => rfl

theorem SlotEvent.current {c : Instr} {w u : State} {i : Nat} {sl sl' : Slot} (h : SlotEvent c w u i sl sl')
    (hcurrent : Current w sl) : Current u sl' := by
  cases h with
  | untouched htotals => exact hcurrent.of_totals rfl htotals
  | judged htotals => exact hcurrent.of_totals (judge_figures ..) htotals
  | disturbed _ _ _ htotals => exact hcurrent.of_totals (disturb_figures ..) htotals
  | counted =>
    exact (recompute_current u _).of_totals ((abandonPassage_figures _).trans (takeTotals_figures ..)) fun _ => rfl
  | holdRunsOut _ _ hscene => exact hcurrent.of_totals (disturb_figures ..) (totalsOf_of_scene hscene)
  | clears => exact recompute_current u _
  | expires hscene =>
    refine hcurrent.of_totals ?_ (totalsOf_of_scene hscene)
    unfold expireDemand
    rfl
  | holdStops hscene | settles _ _ hscene | lingers hscene | cools hscene | issues _ _ _ hscene | refuses hscene =>
    exact hcurrent.of_totals rfl (totalsOf_of_scene hscene)
  | telegram dt tel order r j _ hr _ _ _ hscene =>
    exact (telegramSlot_current hr hcurrent).of_totals rfl (totalsOf_of_scene hscene)

theorem balancesCurrent_iff {s : State} : BalancesCurrent s ↔ (∀ sl ∈ s.slots, Current s sl) ∧
    (s.configured = false → s.txy = 0 ∧ s.tyx = 0 ∧ s.slots = [] ∧ s.peers = []) :=
  ⟨fun h => ⟨fun sl hsl => ⟨h.contributions sl hsl, h.balance sl hsl, h.range sl hsl⟩, h.unconfigured⟩,
    fun h => ⟨fun sl hsl => (h.1 sl hsl).contributions, fun sl hsl => (h.1 sl hsl).balance,
      fun sl hsl => (h.1 sl hsl).range, h.2⟩⟩

/-- A property of every slot that the event brings from the slots before it. -/
theorem SlotsEvent.forall_slots {c : Instr} {w u : State} (h : SlotsEvent c w u) {P Q : Slot → Prop}
    (hslot : ∀ i sl sl', SlotEvent c w u i sl sl' → P sl → Q sl') (hP : ∀ sl ∈ w.slots, P sl) : ∀ sl ∈ u.slots, Q sl := by
  intro sl' hsl'
  obtain ⟨i, hi, hget⟩ := List.mem_iff_getElem.mp hsl'
  have hi' : i < w.slots.length := h.length ▸ hi
  exact hslot i w.slots[i] sl' (h.slot i _ _ (List.getElem?_eq_getElem hi') (by rw [List.getElem?_eq_getElem hi, hget]))
    (hP _ (List.getElem_mem hi'))

theorem buildSlot_current {s : State} (htotals : ∀ n, s.totalsOf n = (0, 0)) (now : Tick) (time : Word32) (own : Nat)
    (im : ImageSlot) : Current s (buildSlot now time own im) := by
  have hraw : ∀ e, rawContribution s (buildBoundary e) = { inward := 0, outward := 0 } := by
    rintro ⟨n, side⟩
    cases side <;> simp [rawContribution, buildBoundary, htotals, inTotal, outTotal]
  refine ⟨?_, ?_, ?_⟩
  · simp [buildSlot, usedContributions, hraw, Contribution.clamp, Function.comp_def]
  · simp [buildSlot, balanceOf, inwardSum, outwardSum, Function.comp_def]
  · simp [buildSlot, outOfRange, hraw, Contribution.outOfRange]

theorem buildPeer_totals (s : State) (count : Nat) (stations : List Nat) (n : Nat)
    (hpeers : s.peers = stations.map (buildPeer count)) (hown : s.txy = 0 ∧ s.tyx = 0) : s.totalsOf n = (0, 0) := by
  unfold State.totalsOf
  split
  · rw [hown.1, hown.2]
  · split
    next r hr =>
      have hmem := List.mem_of_find?_eq_some hr
      rw [hpeers, List.mem_map] at hmem
      obtain ⟨m, -, rfl⟩ := hmem
      rfl
    next => rfl

theorem step_balancesCurrent {s t : State} (hs : BalancesCurrent s) (h : step s = .next t) : BalancesCurrent t := by
  rw [balancesCurrent_iff] at hs ⊢
  obtain ⟨hslots, hempty⟩ := hs
  cases step_slotsStep h with
  | starts hnone hpeers htxy htyx =>
    exact ⟨by simp [hnone], fun _ => ⟨htxy, htyx, hnone, hpeers⟩⟩
  | time hlater =>
    refine ⟨fun sl hsl => ?_, fun hconfigured => ?_⟩
    · rw [hlater.slots] at hsl
      exact (hslots sl hsl).of_totals rfl hlater.totalsOf
    · rw [hlater.slots, hlater.peers, hlater.ownTotals.1, hlater.ownTotals.2]
      exact hempty ((configured_eq hlater.phase).symm.trans hconfigured)
  | builds w im first hlater hphase hscene hbuilt =>
    obtain ⟨htxy, htyx, -, -⟩ := hempty (by simp [State.configured, hphase])
    have htotals : ∀ n, t.totalsOf n = (0, 0) := fun n =>
      buildPeer_totals t im.slots.length im.peers n (congrArg (·.peers) hscene)
        ⟨(congrArg (·.txy) hscene).trans (hlater.ownTotals.1.trans htxy),
          (congrArg (·.tyx) hscene).trans (hlater.ownTotals.2.trans htyx)⟩
    refine ⟨fun sl hsl => ?_, fun hconfigured => ?_⟩
    · rw [hbuilt] at hsl
      obtain ⟨e, -, rfl⟩ := List.mem_map.mp hsl
      exact buildSlot_current htotals ..
    · have : t.phase = .selfTest := congrArg (·.phase) hscene
      simp [State.configured, this] at hconfigured
  | halts w hlater hphase hscene hkept =>
    obtain ⟨htxy, htyx, hnone, hpeers⟩ := hempty (by simp [State.configured, hphase])
    have hslots' : t.slots = [] := hkept.trans (hlater.slots.trans hnone)
    refine ⟨by simp [hslots'], fun _ => ⟨?_, ?_, hslots', ?_⟩⟩
    · exact (congrArg (·.txy) hscene).trans (hlater.ownTotals.1.trans htxy)
    · exact (congrArg (·.tyx) hscene).trans (hlater.ownTotals.2.trans htyx)
    · exact (congrArg (·.peers) hscene).trans (hlater.peers.trans hpeers)
  | event c rest w u hpending hlater hevent hpeersEvent hconfigured hown hscene hkept =>
    refine ⟨fun sl hsl => ?_, fun hunbuilt => ?_⟩
    · rw [hkept] at hsl
      refine (hevent.forall_slots (P := Current w) (Q := Current u) (fun i sl sl' h => h.current) ?_ sl hsl).of_totals rfl
        (totalsOf_of_scene hscene)
      intro sl hsl
      rw [hlater.slots] at hsl
      exact (hslots sl hsl).of_totals rfl hlater.totalsOf
    · have hphase : t.configured = u.configured := configured_eq (congrArg (·.phase) hscene)
      have hs : s.configured = false := by
        rw [← configured_eq hlater.phase, ← hconfigured, ← hphase]; exact hunbuilt
      obtain ⟨htxy, htyx, hnone, hpeers⟩ := hempty hs
      obtain ⟨f, hf, -⟩ := hpeersEvent
      obtain hown | ⟨_, _, _, -, hbuilt⟩ := hown
      · refine ⟨?_, ?_, ?_, ?_⟩
        · exact (congrArg (·.txy) hscene).trans (hown.1.trans (hlater.ownTotals.1.trans htxy))
        · exact (congrArg (·.tyx) hscene).trans (hown.2.trans (hlater.ownTotals.2.trans htyx))
        · refine List.eq_nil_of_length_eq_zero ?_
          rw [hkept, hevent.length, hlater.slots, hnone]
          rfl
        · refine (congrArg (·.peers) hscene).trans (hf.trans ?_)
          rw [hlater.peers, hpeers]
          rfl
      · simp [hs] at hbuilt

/-! ### The negative hold and the entered flag (R109, R117) -/

/-- The negative hold and the entered flag of one slot, in lockdown or not. -/
structure HoldSound (locked : Bool) (sl : Slot) : Prop where
  running : sl.negativeSince ≠ none → sl.state.evaluating = true ∧ sl.balance < 0
  negative : locked = false → sl.state.evaluating = true → sl.balance < 0 → sl.negativeSince ≠ none
  entered : sl.entered = true → sl.state = .sweep
  swept : sl.state = .sweep → 1 ≤ inwardSum sl.contributions → sl.entered = true

theorem holdsSound_iff {s : State} : HoldsSound s ↔ ∀ sl ∈ s.slots, HoldSound s.lockdown sl :=
  ⟨fun h sl hsl => ⟨h.running sl hsl, fun hlocked => h.negative hlocked sl hsl, h.entered sl hsl, h.swept sl hsl⟩,
    fun h => ⟨fun sl hsl => (h sl hsl).running, fun hlocked sl hsl => (h sl hsl).negative hlocked,
      fun sl hsl => (h sl hsl).entered, fun sl hsl => (h sl hsl).swept⟩⟩

namespace HoldSound

/-- In lockdown a hold that is not running is allowed, and so entry to it keeps the conditions. -/
theorem locks {locked locked' : Bool} {sl : Slot} (h : HoldSound locked sl) (hlocks : locked = true → locked' = true) :
    HoldSound locked' sl where
  running := h.running
  negative hopen := h.negative (by cases locked <;> simp_all)
  entered := h.entered
  swept := h.swept

/-- The disturbance record, the reset state, the confirm timer and the settled time are no part of it. -/
theorem of_fields {locked : Bool} {sl sl' : Slot} (h : HoldSound locked sl) (hstate : sl'.state = sl.state)
    (hbalance : sl'.balance = sl.balance) (hcontributions : sl'.contributions = sl.contributions)
    (hentered : sl'.entered = sl.entered) (hnegative : sl'.negativeSince = sl.negativeSince) : HoldSound locked sl' where
  running := by rw [hnegative, hstate, hbalance]; exact h.running
  negative := by rw [hnegative, hstate, hbalance]; exact h.negative
  entered := by rw [hentered, hstate]; exact h.entered
  swept := by rw [hentered, hstate, hcontributions]; exact h.swept

/-- Outside the evaluating states neither runs. -/
theorem of_idle {locked : Bool} {sl : Slot} (hstate : sl.state.evaluating = false) (hnegative : sl.negativeSince = none)
    (hentered : sl.entered = false) : HoldSound locked sl where
  running h := absurd hnegative h
  negative _ h := by simp [hstate] at h
  entered h := by simp [hentered] at h
  swept h := by simp [h, SlotState.evaluating] at hstate

theorem hold_none {locked : Bool} {sl : Slot} (h : HoldSound locked sl) (hstate : sl.state.evaluating = false) :
    sl.negativeSince = none := by
  refine Classical.byContradiction fun hruns => ?_
  have := (h.running hruns).1
  simp [hstate] at this

theorem entered_false {locked : Bool} {sl : Slot} (h : HoldSound locked sl) (hstate : sl.state ≠ .sweep) :
    sl.entered = false := Bool.eq_false_iff.mpr fun hentered => hstate (h.entered hentered)

/-- A slot goes from one state that is not evaluating to another. -/
theorem of_state {locked : Bool} {sl sl' : Slot} (h : HoldSound locked sl) (hstate : sl.state.evaluating = false)
    (hstate' : sl'.state.evaluating = false) (hentered : sl'.entered = sl.entered)
    (hnegative : sl'.negativeSince = sl.negativeSince) : HoldSound locked sl' :=
  of_idle hstate' (hnegative.trans (h.hold_none hstate))
    (hentered.trans (h.entered_false fun hsweep => by simp [hsweep, SlotState.evaluating] at hstate))

/-- A slot moves among the evaluating states, the entered flag clear. -/
theorem of_evaluating {locked : Bool} {sl sl' : Slot} (h : HoldSound locked sl) (hstate : sl.state.evaluating = true)
    (hstate' : sl'.state.evaluating = true) (hsweep : sl'.state ≠ .sweep) (hentered : sl'.entered = false)
    (hbalance : sl'.balance = sl.balance) (hnegative : sl'.negativeSince = sl.negativeSince) : HoldSound locked sl' where
  running hruns := ⟨hstate', hbalance ▸ (h.running (hnegative ▸ hruns)).2⟩
  negative hopen _ hb := hnegative ▸ h.negative hopen hstate (hbalance ▸ hb)
  entered hset := by simp [hentered] at hset
  swept hswept := absurd hswept hsweep

theorem judge {locked : Bool} {sl : Slot} (h : HoldSound locked sl) (s : State) (changed : Bool) :
    HoldSound locked (Machine.judge s changed sl) := by
  unfold Machine.judge
  obtain heq | ⟨-, hawaits, heq⟩ | ⟨-, -, hstate, heq⟩ | ⟨hstate, -, heq⟩ :=
    judgeClearing_cases s.now (s.clearingConditions sl) changed sl <;> rw [heq]
  · exact h
  · have hstate : sl.state.evaluating = true := by
      obtain hstate | ⟨hstate, -⟩ := hawaits <;> simp [hstate, SlotState.evaluating]
    exact h.of_evaluating hstate rfl (by simp [Slot.startClearing]) rfl rfl rfl
  · exact h.of_fields rfl rfl rfl rfl rfl
  · have hevaluating : sl.state.evaluating = true := by
      obtain hstate | hstate := hstate <;> simp [hstate, SlotState.evaluating]
    refine h.of_evaluating hevaluating rfl (by simp [Slot.toOccupied]) (h.entered_false fun hsweep => ?_) rfl rfl
    obtain hstate | hstate := hstate <;> simp [hsweep] at hstate

theorem disturb {locked : Bool} {sl : Slot} (h : HoldSound locked sl) (cause : Cause) (time : Word32) (station : Nat) :
    HoldSound locked (Machine.disturb cause time station sl) := by
  unfold Machine.disturb
  split
  · exact h.of_fields rfl rfl rfl rfl rfl
  · exact of_idle rfl rfl rfl

theorem recompute {locked : Bool} {sl : Slot} (h : HoldSound locked sl) (s : State) :
    HoldSound locked (Machine.recompute s sl) where
  running hruns := by
    dsimp only [Machine.recompute, negativeHold] at hruns ⊢
    split at hruns
    · exact absurd rfl hruns
    next hbalance =>
      refine ⟨?_, by omega⟩
      split at hruns
      next hstarts => exact hstarts.1
      next => exact (h.running hruns).1
  negative hopen hstate hbalance := by
    dsimp only [Machine.recompute, negativeHold] at hstate hbalance ⊢
    rw [if_neg (by omega)]
    split
    · simp
    next hruns =>
      rw [hstate] at hruns
      exact h.negative hopen hstate (by simp at hruns; exact hruns)
  entered hset := by
    dsimp only [Machine.recompute] at hset ⊢
    rw [Bool.or_eq_true, Bool.and_eq_true, beq_iff_eq] at hset
    exact hset.elim h.entered (·.1)
  swept hstate hin := by
    dsimp only [Machine.recompute] at hstate hin ⊢
    simp [hstate, hin]

theorem takeTotals {locked : Bool} {sl : Slot} (h : HoldSound locked sl) (s : State) (evaluating : Bool) :
    HoldSound locked (Machine.takeTotals s evaluating sl) := by
  have hjudged := ((h.of_fields (sl' := { sl with settledSince := some s.now }) rfl rfl rfl rfl rfl).recompute s).judge s true
  unfold Machine.takeTotals
  dsimp only
  split
  · exact hjudged.disturb ..
  · exact hjudged

theorem endDemand {locked : Bool} {sl : Slot} (h : HoldSound locked sl) (hstate : sl.state = .agreeing)
    (outcome : ResetOutcome) : HoldSound locked (sl.endDemand outcome) :=
  h.of_state (by simp [hstate, SlotState.evaluating]) rfl rfl rfl

theorem abandonPassage {locked : Bool} {sl : Slot} (h : HoldSound locked sl) : HoldSound locked (Machine.abandonPassage sl) := by
  unfold Machine.abandonPassage
  split
  next hstate => exact h.endDemand hstate _
  next => exact h

theorem applyDemand (locked : Bool) (s : State) (demand : Demand) (sl : Slot) :
    HoldSound locked (Machine.applyDemand s demand sl) := by
  have hstate : (rebased s demand sl).state = .sweep ∨ (rebased s demand sl).state = .occupied := by
    dsimp only [rebased, Machine.recompute]
    cases demand.kind <;> simp
  have hentered : (rebased s demand sl).entered =
      ((rebased s demand sl).state == .sweep && decide (1 ≤ inwardSum (rebased s demand sl).contributions)) := rfl
  refine HoldSound.judge ⟨fun hruns => ⟨?_, ?_⟩, fun _ _ hbalance => ?_, fun hset => ?_, fun hsweep hin => ?_⟩ s false
  · obtain hstate | hstate := hstate <;> simp [hstate, SlotState.evaluating]
  · refine Classical.byContradiction fun hbalance => ?_
    exact hruns (if_neg hbalance)
  · dsimp only at hbalance ⊢
    rw [if_pos hbalance]
    simp
  · rw [hentered] at hset
    simp at hset
    exact hset.1
  · dsimp only at hsweep hin ⊢
    simp [hentered, hsweep, hin]

theorem takeDemand {locked : Bool} {sl : Slot} (h : HoldSound locked sl) (hstate : sl.state = .disturbed) (now : Tick)
    (demand : Demand) (members : List Nat) : HoldSound locked (sl.takeDemand now demand members) :=
  h.of_state (by simp [hstate, SlotState.evaluating]) rfl rfl rfl

theorem setAgreement {locked : Bool} {sl : Slot} (h : HoldSound locked sl) (s : State) (demand : Demand)
    (members : List Nat) : HoldSound locked (Machine.setAgreement s demand members sl) := by
  obtain ⟨-, heq⟩ | ⟨-, heq⟩ := setAgreement_cases s demand members sl <;> rw [heq]
  · exact h.of_fields rfl rfl rfl rfl rfl
  · exact applyDemand ..

theorem judgeAdoption {locked : Bool} {sl : Slot} (h : HoldSound locked sl) (hstate : sl.state = .disturbed) (s : State)
    (sender : Nat) (d : ViewDemand) : HoldSound locked (Machine.judgeAdoption s sender d sl) := by
  obtain heq | ⟨-, heq⟩ | ⟨-, heq⟩ := judgeAdoption_cases s sender d sl <;> rw [heq]
  · exact h
  · exact h.of_fields rfl rfl rfl rfl rfl
  · exact (h.takeDemand hstate ..).setAgreement ..

end HoldSound

theorem ViewTaken.holdSound {locked : Bool} {s : State} {sender : Nat} {view : Option View} {sl sl' : Slot}
    (h : ViewTaken s sender view sl sl') (hsound : HoldSound locked sl) : HoldSound locked sl' := by
  cases h with
  | nothing => exact hsound
  | leaves => exact hsound.of_fields rfl rfl rfl rfl rfl
  | joins => exact hsound.setAgreement ..
  | judged _ _ _ _ _ hstate => exact hsound.judgeAdoption hstate ..
  | superseded _ _ _ _ _ hstate => exact (hsound.endDemand hstate _).judgeAdoption rfl ..

theorem takeChanges_holdSound {locked : Bool} {sl : Slot} (h : HoldSound locked sl) (before after : PeerRecord) (s : State)
    (evaluating : Bool) : HoldSound locked (takeChanges before after s evaluating sl) := by
  unfold takeChanges
  split
  · exact h.takeTotals ..
  · exact h.judge ..

theorem telegramSlot_holdSound {locked : Bool} {order : TakingOrder} {r after : PeerRecord} {items : List Item} {s : State}
    {i : Nat} {sl : Slot} (hitems : items.count .changes = 1) (h : HoldSound locked sl) :
    HoldSound locked (telegramSlot order r after items s i sl) := by
  cases huses : sl.uses s.own after.station
  · exact telegramSlot_unused_rule huses h fun _ _ _ _ hx => hx.disturb ..
  · exact telegramSlot_rule (P := HoldSound locked) hitems huses h (fun _ _ _ _ hx => hx.disturb ..)
      (fun _ _ hx => takeChanges_holdSound hx ..) (fun _ _ _ _ hx => hx.disturb ..)
      (fun _ _ hx _ htaken => htaken.holdSound hx) fun _ _ hx => hx.judge ..

theorem enterClear_holdSound {locked : Bool} {sl : Slot} (h : HoldSound locked sl) (hstate : sl.state = .clearing)
    (s : State) : HoldSound locked (enterClear s sl) := by
  refine HoldSound.recompute (h.of_evaluating (sl' := { sl with
    state := .clear, confirmSince := none, boundary := sl.boundary.map (rebaseToTotals s) }) ?_ rfl ?_ ?_ rfl rfl) s
  · simp [hstate, SlotState.evaluating]
  · simp
  · exact h.entered_false (by simp [hstate])

theorem SlotEvent.holdSound {c : Instr} {w u : State} {i : Nat} {sl sl' : Slot} (h : SlotEvent c w u i sl sl')
    (hlocks : w.lockdown = true → u.lockdown = true) (hsound : HoldSound w.lockdown sl) : HoldSound u.lockdown sl' := by
  have hlocked := hsound.locks hlocks
  cases h with
  | untouched => exact hlocked
  | judged => exact hlocked.judge ..
  | disturbed => exact hlocked.disturb ..
  | counted => exact (hlocked.takeTotals ..).abandonPassage
  | holdStops _ hin =>
    rw [hin]
    exact ⟨fun hruns => absurd rfl hruns, fun hopen => by simp at hopen, hlocked.entered, hlocked.swept⟩
  | holdRunsOut _ _ _ hopen =>
    unfold disturb
    split
    next hstate =>
      exact .of_idle (by simp_all [SlotState.evaluating]) rfl (hlocked.entered_false fun hsweep => by simp_all)
    next => exact .of_idle rfl rfl rfl
  | settles | cools | refuses => exact hlocked.of_fields rfl rfl rfl rfl rfl
  | lingers => exact hlocked.of_fields rfl rfl rfl rfl rfl
  | clears _ hstate => exact enterClear_holdSound hlocked hstate u
  | expires _ hstate =>
    exact (hlocked.endDemand hstate .expired).of_fields rfl rfl rfl rfl rfl
  | issues kind number members _ hstate => exact hlocked.takeDemand hstate ..
  | telegram dt tel order r j =>
    obtain ⟨identity, hidentity⟩ := forgetIdentity_eq j r.station sl
    rw [hidentity]
    exact telegramSlot_holdSound (itemsOf_count ..) (hlocked.of_fields rfl rfl rfl rfl rfl)

theorem step_holdsSound {s t : State} (hs : HoldsSound s) (h : step s = .next t) : HoldsSound t := by
  rw [holdsSound_iff] at hs ⊢
  cases step_slotsStep h with
  | starts hnone => simp [hnone]
  | time hlater => rw [hlater.slots, hlater.lockdown]; exact hs
  | builds w im first hlater hphase hscene hbuilt =>
    intro sl hsl
    rw [hbuilt] at hsl
    obtain ⟨e, -, rfl⟩ := List.mem_map.mp hsl
    exact .of_idle rfl rfl rfl
  | halts w hlater hphase hscene hkept =>
    rw [hkept, hlater.slots, show t.lockdown = w.lockdown from congrArg (·.lockdown) hscene, hlater.lockdown]
    exact hs
  | event c rest w u hpending hlater hevent _ _ _ hscene hkept =>
    rw [hkept, scene_lockdown hscene]
    refine hevent.forall_slots (P := HoldSound w.lockdown) (fun i sl sl' h => h.holdSound hevent.locks) ?_
    rw [hlater.slots, hlater.lockdown]
    exact hs

end Sys2Proof.Machine
end

section
/-! PROOFS. How a step moves the times of a slot (7.3, 7.4, 7.6). -/

namespace Sys2Proof.Machine

/-! ### The hold and the flag on an event (R109, R117) -/

/-- The hold and the flag of a slot, from the state `sl` before the event to a slot on the way through it. -/
structure TimersMoved (now : Tick) (locked : Bool) (sl x : Slot) : Prop where
  sound : HoldSound locked x
  hold : x.negativeSince = none ∨ x.negativeSince = some now ∨ x.negativeSince = sl.negativeSince
  runsOn : sl.negativeSince ≠ none → x.negativeSince ≠ none → x.reset.lingerSince = some now ∨
    x.negativeSince = sl.negativeSince
  stays : sl.state = .sweep → sl.entered = true → x.state = .sweep → x.reset.lingerSince = some now ∨ x.entered = true
  rises : x.entered = true → sl.entered = true ∨ 1 ≤ inwardSum x.contributions

/-- A slot that an event has not moved, or has disturbed alone. -/
structure NotMoved (locked : Bool) (sl x : Slot) : Prop where
  sound : HoldSound locked x
  same : x.state = .disturbed ∨
    (x.state = sl.state ∧ x.negativeSince = sl.negativeSince ∧ x.entered = sl.entered)

theorem NotMoved.refl {locked : Bool} {sl : Slot} (h : HoldSound locked sl) : NotMoved locked sl sl := ⟨h, .inr ⟨rfl, rfl, rfl⟩⟩

theorem NotMoved.disturb {locked : Bool} {sl x : Slot} (h : NotMoved locked sl x) (cause : Cause) (time : Word32)
    (station : Nat) : NotMoved locked sl (disturb cause time station x) :=
  ⟨h.sound.disturb .., .inl (disturb_state ..)⟩

theorem NotMoved.moved {locked : Bool} {sl x : Slot} (h : NotMoved locked sl x) (now : Tick) :
    TimersMoved now locked sl x := by
  obtain ⟨hsound, hstate | ⟨hstate, hnegative, hentered⟩⟩ := h
  · have hnone : x.negativeSince = none := hsound.hold_none (by simp [hstate, SlotState.evaluating])
    have hclear : x.entered = false := hsound.entered_false (by simp [hstate])
    exact ⟨hsound, .inl hnone, fun _ h => absurd hnone h, fun _ _ h => by simp [hstate] at h, fun h => by simp [hclear] at h⟩
  · exact ⟨hsound, .inr (.inr hnegative), fun _ _ => .inr hnegative, fun _ h _ => .inr (hentered.trans h),
      fun h => .inl (hentered ▸ h)⟩

namespace TimersMoved

theorem disturb {now : Tick} {locked : Bool} {sl x : Slot} (h : TimersMoved now locked sl x) (cause : Cause) (time : Word32)
    (station : Nat) : TimersMoved now locked sl (disturb cause time station x) :=
  NotMoved.moved ⟨h.sound.disturb .., .inl (disturb_state ..)⟩ now

/-- The settled time, the confirm timer and the reset state but for the linger are no part of it. -/
theorem of_fields {now : Tick} {locked : Bool} {sl x y : Slot} (h : TimersMoved now locked sl x) (hsound : HoldSound locked y)
    (hnegative : y.negativeSince = x.negativeSince) (hlinger : y.reset.lingerSince = x.reset.lingerSince)
    (hstays : y.state = .sweep → x.state = .sweep ∧ y.entered = x.entered) (hrises : y.entered = true → x.entered = true)
    (hcontributions : y.contributions = x.contributions) : TimersMoved now locked sl y where
  sound := hsound
  hold := by rw [hnegative]; exact h.hold
  runsOn := by rw [hnegative, hlinger]; exact h.runsOn
  stays hsweep hset hstate := by
    obtain ⟨hstate, hentered⟩ := hstays hstate
    rw [hlinger, hentered]
    exact h.stays hsweep hset hstate
  rises hset := by
    rw [hcontributions]
    exact h.rises (hrises hset)

theorem judge {now : Tick} {locked : Bool} {sl x : Slot} (h : TimersMoved now locked sl x) (s : State) (changed : Bool) :
    TimersMoved now locked sl (judge s changed x) := by
  have hsound := h.sound.judge s changed
  unfold Machine.judge at hsound ⊢
  obtain heq | ⟨-, -, heq⟩ | ⟨-, -, hstate, heq⟩ | ⟨-, -, heq⟩ :=
    judgeClearing_cases s.now (s.clearingConditions x) changed x <;> rw [heq] at hsound ⊢
  · exact h
  · exact h.of_fields hsound rfl rfl (fun h => by simp [Slot.startClearing] at h) (fun h => by simp [Slot.startClearing] at h)
      rfl
  · exact h.of_fields hsound rfl rfl (fun h => ⟨h, rfl⟩) id rfl
  · exact h.of_fields hsound rfl rfl (fun h => by simp [Slot.toOccupied] at h) id rfl

/-- An application starts the linger, and the hold with it. -/
theorem applyDemand {now : Tick} {locked : Bool} {sl : Slot} {s : State} (hnow : s.now = now) (demand : Demand) (x : Slot) :
    TimersMoved now locked sl (applyDemand s demand x) := by
  have hsound := HoldSound.applyDemand locked s demand x
  obtain ⟨state, confirmSince, entered, heq⟩ := judge_eq s false { rebased s demand x with
    negativeSince := if (rebased s demand x).balance < 0 then some s.now else none }
  have heq' : Machine.applyDemand s demand x = _ := heq
  have hlinger : (Machine.applyDemand s demand x).reset.lingerSince = some now := by rw [heq', ← hnow]; rfl
  refine ⟨hsound, ?_, fun _ _ => .inl hlinger, fun _ _ _ => .inl hlinger, fun hset => .inr ?_⟩
  · rw [heq', ← hnow]
    dsimp only
    split
    · exact .inr (.inl rfl)
    · exact .inl rfl
  · have hkept : entered = true → (rebased s demand x).entered = true := by
      intro hset
      have hentered := congrArg Slot.entered heq
      unfold Machine.judge at hentered
      obtain h | ⟨-, -, h⟩ | ⟨-, -, -, h⟩ | ⟨-, -, h⟩ :=
        judgeClearing_cases s.now (s.clearingConditions { rebased s demand x with
          negativeSince := if (rebased s demand x).balance < 0 then some s.now else none }) false { rebased s demand x with
          negativeSince := if (rebased s demand x).balance < 0 then some s.now else none } <;> rw [h] at hentered <;>
        simp_all [Slot.startClearing, Slot.toOccupied]
    have hrisen := hkept (by rw [heq'] at hset; exact hset)
    rw [heq']
    simp only [rebased, recompute, Bool.false_or, Bool.and_eq_true, decide_eq_true_eq] at hrisen ⊢
    exact hrisen.2

theorem setAgreement {now : Tick} {locked : Bool} {sl x : Slot} (h : TimersMoved now locked sl x) {s : State}
    (hnow : s.now = now) (demand : Demand) (members : List Nat) :
    TimersMoved now locked sl (setAgreement s demand members x) := by
  have hsound := h.sound.setAgreement s demand members
  obtain ⟨-, heq⟩ | ⟨-, heq⟩ := setAgreement_cases s demand members x <;> rw [heq] at hsound ⊢
  · exact h.of_fields hsound rfl rfl (fun h => ⟨h, rfl⟩) id rfl
  · exact applyDemand hnow ..

theorem judgeAdoption {now : Tick} {locked : Bool} {sl x : Slot} (h : TimersMoved now locked sl x)
    (hstate : x.state = .disturbed) {s : State} (hnow : s.now = now) (sender : Nat) (d : ViewDemand) :
    TimersMoved now locked sl (judgeAdoption s sender d x) := by
  have hsound := h.sound.judgeAdoption hstate s sender d
  obtain heq | ⟨-, heq⟩ | ⟨-, heq⟩ := judgeAdoption_cases s sender d x <;> rw [heq] at hsound ⊢
  · exact h
  · exact h.of_fields hsound rfl rfl (fun h => ⟨h, rfl⟩) id rfl
  · refine setAgreement (h.of_fields (h.sound.takeDemand hstate ..) rfl rfl ?_ id rfl) hnow ..
    exact fun h => by simp [Slot.takeDemand] at h

theorem view {now : Tick} {locked : Bool} {sl x x' : Slot} (h : TimersMoved now locked sl x) {s : State}
    (hnow : s.now = now) {sender : Nat} {view : Option View} (htaken : ViewTaken s sender view x x') :
    TimersMoved now locked sl x' := by
  cases htaken with
  | nothing => exact h
  | leaves => exact h.of_fields (h.sound.of_fields rfl rfl rfl rfl rfl) rfl rfl (fun h => ⟨h, rfl⟩) id rfl
  | joins => exact h.setAgreement hnow ..
  | judged _ _ _ _ _ hstate => exact h.judgeAdoption hstate hnow ..
  | superseded _ _ _ _ _ hstate =>
    refine judgeAdoption (h.of_fields (h.sound.endDemand hstate .superseded) rfl rfl ?_ id rfl) rfl hnow ..
    exact fun h => by simp [Slot.endDemand] at h

end TimersMoved

/-- A recomputation stops the hold, starts one that does not run, in an evaluating state, or leaves it (R109). -/
theorem recompute_hold {locked : Bool} {x : Slot} (h : HoldSound locked x) (s : State) :
    (recompute s x).negativeSince = none ∨
    ((recompute s x).negativeSince = some s.now ∧ x.negativeSince = none ∧ x.state.evaluating = true) ∨
    (recompute s x).negativeSince = x.negativeSince := by
  dsimp only [recompute, negativeHold]
  split
  · exact .inl rfl
  · split
    next hstarts =>
      refine .inr (.inl ⟨rfl, ?_, hstarts.1⟩)
      refine Classical.byContradiction fun hruns => ?_
      have := (h.running hruns).2
      omega
    · exact .inr (.inr rfl)

theorem recompute_entered {s : State} {x : Slot} (h : (recompute s x).entered = true) :
    x.entered = true ∨ 1 ≤ inwardSum (recompute s x).contributions := by
  dsimp only [recompute] at h ⊢
  rw [Bool.or_eq_true, Bool.and_eq_true, decide_eq_true_eq] at h
  exact h.imp id (·.2)

theorem NotMoved.recompute {locked : Bool} {sl x : Slot} (h : NotMoved locked sl x) (s : State) :
    TimersMoved s.now locked sl (recompute s x) := by
  have hmoved := h.moved s.now
  have hhold := recompute_hold h.sound s
  refine ⟨h.sound.recompute s, ?_, ?_, ?_, ?_⟩
  · obtain hnone | ⟨hstarts, -⟩ | hkept := hhold
    · exact .inl hnone
    · exact .inr (.inl hstarts)
    · exact hmoved.hold.imp hkept.trans (Or.imp hkept.trans hkept.trans)
  · intro hruns hruns'
    obtain hnone | ⟨-, hnone, hevaluating⟩ | hkept := hhold
    · exact absurd hnone hruns'
    · obtain hstate | ⟨-, hnegative, -⟩ := h.same
      · simp [hstate, SlotState.evaluating] at hevaluating
      · exact absurd (hnegative ▸ hnone) hruns
    · exact (hmoved.runsOn hruns (hkept ▸ hruns')).imp id hkept.trans
  · intro hsweep hset hstate
    obtain hlinger | hentered := hmoved.stays hsweep hset hstate
    · exact .inl hlinger
    · exact .inr (by dsimp only [Machine.recompute]; rw [hentered, Bool.true_or])
  · intro hset
    obtain hset | hin := recompute_entered hset
    · obtain hstate | ⟨-, -, hentered⟩ := h.same
      · exact absurd hset (by simp [h.sound.entered_false (by simp [hstate])])
      · exact .inl (hentered ▸ hset)
    · exact .inr hin

theorem NotMoved.takeTotals {locked : Bool} {sl x : Slot} (h : NotMoved locked sl x) (s : State) (evaluating : Bool) :
    TimersMoved s.now locked sl (takeTotals s evaluating x) := by
  have hsettled : NotMoved locked sl { x with settledSince := some s.now } := ⟨h.sound.of_fields rfl rfl rfl rfl rfl, h.same⟩
  have hjudged := (hsettled.recompute s).judge s true
  unfold Machine.takeTotals
  dsimp only
  split
  · exact hjudged.disturb ..
  · exact hjudged

theorem NotMoved.takeChanges {locked : Bool} {sl x : Slot} (h : NotMoved locked sl x) (before after : PeerRecord) (s : State)
    (evaluating : Bool) : TimersMoved s.now locked sl (takeChanges before after s evaluating x) := by
  unfold Machine.takeChanges
  split
  · exact h.takeTotals ..
  · exact (h.moved s.now).judge ..

theorem telegramSlot_moved {locked : Bool} {order : TakingOrder} {r after : PeerRecord} {items : List Item} {s : State}
    {i : Nat} {sl x : Slot} (hitems : items.count .changes = 1) (h : NotMoved locked sl x) :
    TimersMoved s.now locked sl (telegramSlot order r after items s i x) := by
  cases huses : x.uses s.own after.station
  · exact telegramSlot_unused_rule huses (h.moved s.now) fun _ _ _ _ hx => hx.disturb ..
  · exact telegramSlot_rule (P := NotMoved locked sl) hitems huses h (fun _ _ _ _ hx => hx.disturb ..)
      (fun _ _ hx => hx.takeChanges ..) (fun _ _ _ _ hx => hx.disturb ..)
      (fun _ _ hx _ htaken => hx.view rfl htaken) fun _ _ hx => hx.judge ..

theorem SlotEvent.moved {c : Instr} {w u : State} {i : Nat} {sl sl' : Slot} (h : SlotEvent c w u i sl sl')
    (hlocks : w.lockdown = true → u.lockdown = true) (hsound : HoldSound w.lockdown sl) :
    TimersMoved u.now u.lockdown sl sl' := by
  have hsound' := h.holdSound hlocks hsound
  have hstart : NotMoved u.lockdown sl sl := .refl (hsound.locks hlocks)
  have hmoved := hstart.moved u.now
  have hsame : ∀ x : Slot, HoldSound u.lockdown x → x.state = sl.state → x.negativeSince = sl.negativeSince →
      x.entered = sl.entered → TimersMoved u.now u.lockdown sl x := fun x hx hstate hnegative hentered =>
    NotMoved.moved ⟨hx, .inr ⟨hstate, hnegative, hentered⟩⟩ u.now
  have hdisturbed : ∀ x : Slot, HoldSound u.lockdown x → x.state = .disturbed → TimersMoved u.now u.lockdown sl x :=
    fun x hx hstate => NotMoved.moved ⟨hx, .inl hstate⟩ u.now
  cases h with
  | untouched => exact hmoved
  | judged => exact hmoved.judge ..
  | disturbed => exact hmoved.disturb ..
  | counted =>
    have htaken := hstart.takeTotals u sl.state.evaluating
    unfold abandonPassage at hsound' ⊢
    split
    next hagreeing =>
      rw [if_pos hagreeing] at hsound'
      exact htaken.of_fields hsound' rfl rfl (fun h => by simp [Slot.endDemand] at h) id rfl
    next => exact htaken
  | holdStops =>
    exact ⟨hsound', .inl rfl, fun _ h => absurd rfl h, fun _ h _ => .inr h, fun h => .inl h⟩
  | holdRunsOut => exact hdisturbed _ hsound' (disturb_state ..)
  | settles | cools | refuses => exact hsame _ hsound' rfl rfl rfl
  | lingers => exact hsame _ hsound' rfl rfl rfl
  | clears _ hstate =>
    have hhold := recompute_hold (x := { sl with
      state := .clear, confirmSince := none, boundary := sl.boundary.map (rebaseToTotals u) })
      ((hsound.locks hlocks).of_evaluating (by simp [hstate, SlotState.evaluating]) rfl (by simp)
        (hsound.entered_false (by simp [hstate])) rfl rfl) u
    refine ⟨hsound', ?_, ?_, fun hsweep => by simp [hstate] at hsweep, fun hset => ?_⟩
    · exact hhold.imp id (Or.imp (·.1) id)
    · intro hruns hruns'
      obtain h | ⟨-, h, -⟩ | h := hhold
      · exact absurd h hruns'
      · exact absurd h hruns
      · exact .inr h
    · have := hsound'.entered hset
      simp [enterClear, recompute] at this
  | expires => exact hdisturbed _ hsound' (by unfold expireDemand; rfl)
  | issues kind number members _ hstate =>
    exact hmoved.of_fields hsound' rfl rfl (fun h => by simp [Slot.takeDemand] at h) id rfl
  | telegram dt tel order r j _ _ _ _ _ hscene =>
    obtain ⟨identity, hidentity⟩ := forgetIdentity_eq j r.station sl
    rw [hidentity, scene_now hscene]
    refine telegramSlot_moved (itemsOf_count ..) ⟨?_, .inr ⟨rfl, rfl, rfl⟩⟩
    exact (hsound.locks hlocks).of_fields rfl rfl rfl rfl rfl

/-! ### The settled time on an event (R110) -/

theorem judge_settledSince (s : State) (changed : Bool) (sl : Slot) : (judge s changed sl).settledSince = sl.settledSince := by
  obtain ⟨_, _, _, h⟩ := judge_eq s changed sl
  rw [h]

theorem disturb_settledSince (cause : Cause) (time : Word32) (station : Nat) (sl : Slot) :
    (disturb cause time station sl).settledSince = sl.settledSince := by
  unfold disturb
  split <;> rfl

theorem takeTotals_settledSince (s : State) (evaluating : Bool) (sl : Slot) :
    (takeTotals s evaluating sl).settledSince = some s.now := by
  unfold takeTotals
  dsimp only
  split
  · rw [disturb_settledSince, judge_settledSince]; rfl
  · rw [judge_settledSince]; rfl

theorem setAgreement_settledSince (s : State) (demand : Demand) (members : List Nat) (sl : Slot) :
    (setAgreement s demand members sl).settledSince = sl.settledSince := by
  obtain ⟨-, h⟩ | ⟨-, h⟩ := setAgreement_cases s demand members sl <;> rw [h]
  exact judge_settledSince ..

theorem judgeAdoption_settledSince (s : State) (sender : Nat) (d : ViewDemand) (sl : Slot) :
    (judgeAdoption s sender d sl).settledSince = sl.settledSince := by
  obtain h | ⟨-, h⟩ | ⟨-, h⟩ := judgeAdoption_cases s sender d sl <;> rw [h]
  exact setAgreement_settledSince ..

theorem ViewTaken.settledSince {s : State} {sender : Nat} {view : Option View} {sl sl' : Slot}
    (h : ViewTaken s sender view sl sl') : sl'.settledSince = sl.settledSince := by
  cases h with
  | nothing | leaves => rfl
  | joins => exact setAgreement_settledSince ..
  | judged => exact judgeAdoption_settledSince ..
  | superseded => exact judgeAdoption_settledSince ..

/-- The settled time of a slot that uses the peer starts again just when the telegram changes a held total. -/
theorem telegramSlot_settledSince {order : TakingOrder} {r after : PeerRecord} {items : List Item} {s : State}
    {i : Nat} {sl : Slot} (hitems : items.count .changes = 1) :
    (telegramSlot order r after items s i sl).settledSince =
      if sl.uses s.own after.station = true ∧ totalsChange r after = true then some s.now else sl.settledSince := by
  have hdisturb : ∀ settled : Option Tick, ∀ (x : Slot) (cause : Cause) (station : Nat), s.lockdown = false →
      x.settledSince = settled → (disturb cause s.stationTime station x).settledSince = settled :=
    fun _ x cause station _ hx => (disturb_settledSince ..).trans hx
  cases huses : sl.uses s.own after.station
  · rw [if_neg (by simp)]
    exact telegramSlot_unused_rule (P := fun x => x.settledSince = sl.settledSince) huses rfl (hdisturb _)
  · refine telegramSlot_rule (P := fun x => x.settledSince = sl.settledSince) (Q := fun x => x.settledSince = _) hitems huses
      rfl (hdisturb _) ?_ (hdisturb _) (fun _ _ hx _ htaken => htaken.settledSince.trans hx)
      fun _ _ hx => (judge_settledSince ..).trans hx
    intro x _ hx
    unfold takeChanges
    cases totalsChange r after
    · exact (judge_settledSince ..).trans hx
    · exact takeTotals_settledSince ..

/-! ### Which totals an accepted telegram changes -/

theorem sender_totalsOf {r : PeerRecord} {w : State} (hr : w.peer? r.station = some r) (hown : r.station ≠ w.own)
    (j : Judgement) (tel : Telegram) : w.totalsOf r.station = (r.txy, r.tyx) ∧
      (withRecord r j tel w).totalsOf r.station =
        ((r.accept w.now w.own w.slots j tel).txy, (r.accept w.now w.own w.slots j tel).tyx) := by
  constructor
  · rw [State.totalsOf, if_neg hown, hr]
  · rw [State.totalsOf, withRecord_own, if_neg hown, withRecord_peer? hr, if_pos rfl]

theorem totalsChange_iff {r : PeerRecord} {w : State} (hr : w.peer? r.station = some r) (hown : r.station ≠ w.own)
    (j : Judgement) (tel : Telegram) : totalsChange r (r.accept w.now w.own w.slots j tel) = true ↔
      (withRecord r j tel w).totalsOf r.station ≠ w.totalsOf r.station := by
  obtain ⟨hbefore, hafter⟩ := sender_totalsOf hr hown j tel
  rw [hbefore, hafter]
  simp only [totalsChange, Bool.or_eq_true, bne_iff_ne, ne_eq, Prod.mk.injEq]
  grind

/-- A used total changes by a telegram just where the slot uses its sender and a held total changes. -/
theorem usedTotalChanges_iff {r : PeerRecord} {w u : State} (hr : w.peer? r.station = some r) {j : Judgement} {tel : Telegram}
    (hscene : u.scene = (withRecord r j tel w).scene) (sl : Slot) : UsedTotalChanges w u sl ↔
      sl.uses w.own r.station = true ∧ totalsChange r (r.accept w.now w.own w.slots j tel) = true := by
  constructor
  · rintro ⟨b, hb, hchanged⟩
    rw [totalsOf_of_scene hscene] at hchanged
    have hsender : ¬(b.station = w.own ∨ b.station ≠ r.station ∨
        totalsChange r (r.accept w.now w.own w.slots j tel) = false) := fun h =>
      hchanged (withRecord_totalsOf hr j tel h)
    simp only [not_or, ne_eq, Classical.not_not, Bool.not_eq_false] at hsender
    exact ⟨uses_iff.mpr ⟨hsender.2.1 ▸ hsender.1, b, hb, hsender.2.1⟩, hsender.2.2⟩
  · rintro ⟨huses, hchanged⟩
    obtain ⟨hown, b, hb, hstation⟩ := uses_iff.mp huses
    refine ⟨b, hb, ?_⟩
    rw [totalsOf_of_scene hscene, hstation]
    exact (totalsChange_iff hr hown j tel).mp hchanged

theorem not_usedTotalChanges {s t : State} {sl : Slot} (h : ∀ n, t.totalsOf n = s.totalsOf n) : ¬UsedTotalChanges s t sl :=
  fun ⟨b, _, hchanged⟩ => hchanged (h b.station)

theorem TotalsStay.not_used {s t : State} {sl : Slot} (h : TotalsStay s t sl) : ¬UsedTotalChanges s t sl :=
  fun ⟨b, hb, hchanged⟩ => hchanged (h.2.2 b hb)

/-- Where a used total may have changed on an event. -/
theorem SlotEvent.settledSince {c : Instr} {w u : State} {i : Nat} {sl sl' : Slot} (h : SlotEvent c w u i sl sl') :
    (UsedTotalChanges w u sl → sl'.settledSince = some u.now) ∧
    (TotalsStay w u sl → sl'.settledSince = sl.settledSince ∨
      (sl'.settledSince = none ∧ ∃ k, c = .settledTimeExpiry k)) := by
  have hkept : ∀ x : Slot, (∀ n, u.totalsOf n = w.totalsOf n) → x.settledSince = sl.settledSince →
      (UsedTotalChanges w u sl → x.settledSince = some u.now) ∧
      (TotalsStay w u sl → x.settledSince = sl.settledSince ∨ (x.settledSince = none ∧ ∃ k, c = .settledTimeExpiry k)) :=
    fun x htotals hx => ⟨fun hchanged => absurd hchanged (not_usedTotalChanges htotals), fun _ => .inl hx⟩
  cases h with
  | untouched htotals => exact hkept _ htotals rfl
  | judged htotals => exact hkept _ htotals (judge_settledSince ..)
  | disturbed _ _ _ htotals => exact hkept _ htotals (disturb_settledSince ..)
  | counted hcount =>
    have hsettled : (abandonPassage (takeTotals u sl.state.evaluating sl)).settledSince = some u.now := by
      unfold abandonPassage
      split
      · exact takeTotals_settledSince ..
      · exact takeTotals_settledSince ..
    refine ⟨fun _ => hsettled, fun hstay => ?_⟩
    exact (hcount.elim (· hstay.1) (· hstay.2.1)).elim
  | settles k hc hscene =>
    exact ⟨fun hchanged => absurd hchanged (not_usedTotalChanges (totalsOf_of_scene hscene)), fun _ => .inr ⟨rfl, k, hc⟩⟩
  | holdRunsOut _ _ hscene => exact hkept _ (totalsOf_of_scene hscene) (disturb_settledSince ..)
  | expires hscene => exact hkept _ (totalsOf_of_scene hscene) (by unfold expireDemand; rfl)
  | holdStops hscene | clears hscene | lingers hscene | cools hscene | issues _ _ _ hscene | refuses hscene =>
    exact hkept _ (totalsOf_of_scene hscene) rfl
  | telegram dt tel order r j _ hr _ _ _ hscene =>
    obtain ⟨identity, hidentity⟩ := forgetIdentity_eq j r.station sl
    have hiff := usedTotalChanges_iff hr hscene sl
    rw [hidentity, telegramSlot_settledSince (itemsOf_count ..), withRecord_own]
    refine ⟨fun hchanged => ?_, fun hstay => .inl ?_⟩
    · exact (if_pos (by exact hiff.mp hchanged)).trans (congrArg some (scene_now hscene).symm)
    · exact if_neg fun h => hstay.not_used (hiff.mpr h)

/-! ### Every step -/

theorem Later.usedTotalChanges {s w t : State} (h : Later s w) (sl : Slot) :
    UsedTotalChanges s t sl ↔ UsedTotalChanges w t sl := by
  simp only [UsedTotalChanges, h.totalsOf]

theorem Later.totalsStay {s w t : State} (h : Later s w) (sl : Slot) : TotalsStay s t sl ↔ TotalsStay w t sl := by
  simp only [TotalsStay, h.totalsOf, h.ownTotals.1, h.ownTotals.2]

theorem usedTotalChanges_of_scene {s u t : State} (h : t.scene = u.scene) (sl : Slot) :
    UsedTotalChanges s t sl ↔ UsedTotalChanges s u sl := by
  simp only [UsedTotalChanges, totalsOf_of_scene h]

theorem totalsStay_of_scene {s u t : State} (h : t.scene = u.scene) (sl : Slot) : TotalsStay s t sl ↔ TotalsStay s u sl := by
  have hown : t.txy = u.txy ∧ t.tyx = u.tyx := ⟨congrArg (·.txy) h, congrArg (·.tyx) h⟩
  simp only [TotalsStay, totalsOf_of_scene h, hown.1, hown.2]

theorem SlotTimersStep.refl {s t : State} (sl : Slot) (hlater : Later s t) : SlotTimersStep s t sl sl where
  hold := .inr (.inr rfl)
  holdRunsOn _ _ _ := rfl
  settledStarts hchanged := absurd hchanged (not_usedTotalChanges hlater.totalsOf)
  settledRunsOn _ := .inl rfl
  enteredStays _ hset _ _ := hset
  enteredRises := .inl

theorem step_slotTimers {s t : State} {i : Nat} {sl sl' : Slot} (hs : HoldsSound s) (hphase : s.phase ≠ .configRead)
    (h : step s = .next t) (hsl : s.slots[i]? = some sl) (hsl' : t.slots[i]? = some sl') : SlotTimersStep s t sl sl' := by
  cases step_slotsStep h with
  | starts hnone => simp [hnone] at hsl'
  | time hlater =>
    obtain rfl : sl = sl' := Option.some.inj (hsl.symm.trans (hlater.slots ▸ hsl'))
    exact .refl sl hlater
  | builds _ _ _ _ hread => exact absurd hread hphase
  | halts _ _ hread => exact absurd hread hphase
  | event c rest w u hpending hlater hevent _ _ _ hscene hkept =>
    have hevent' := hevent.slot i sl sl' (by rw [hlater.slots, hsl]) (by rw [← hkept, hsl'])
    have hsound : HoldSound w.lockdown sl := by
      rw [hlater.lockdown]
      exact holdsSound_iff.mp hs sl (List.mem_of_getElem? hsl)
    have hmoved := hevent'.moved hevent.locks hsound
    obtain ⟨hstarts, hruns⟩ := hevent'.settledSince
    have hnow : t.now = u.now := scene_now hscene
    refine ⟨hnow ▸ hmoved.hold, fun hneg hneg' hlinger => ?_, fun hchanged => ?_, fun hstay => ?_,
      fun hsweep hset hsweep' hlinger => ?_, hmoved.rises⟩
    · exact (hmoved.runsOn hneg hneg').resolve_left (hnow ▸ hlinger)
    · exact hnow ▸ hstarts ((hlater.usedTotalChanges sl).mp ((usedTotalChanges_of_scene hscene sl).mp hchanged))
    · obtain h | ⟨h, k, hk⟩ := hruns ((hlater.totalsStay sl).mp ((totalsStay_of_scene hscene sl).mp hstay))
      · exact .inl h
      · exact .inr ⟨h, k, rest, hk ▸ hpending⟩
    · exact (hmoved.stays hsweep hset hsweep').resolve_left (hnow ▸ hlinger)

end Sys2Proof.Machine

namespace Sys2Proof.Proofs
open Sys2Proof.Machine

/-- Settles O53: the event of a command changes one slot by one of the ways of `SlotEvent`, each of which recomputes the slot
or leaves the totals it uses, and moves its times by rule. -/
theorem balancesStayCurrent : Obligations.BalancesStayCurrent :=
  ⟨fun _ _ => step_balancesCurrent, fun _ _ => step_holdsSound, fun _ _ _ _ _ => step_slotTimers⟩

end Sys2Proof.Proofs
end

section
/-! PROOFS. The clearing conditions (7.5, 7.6): how a judgement, a change of totals, a view and every event move a slot into
CLEARING and CLEAR and keep it there. -/

namespace Sys2Proof.Machine

/-! ### A judgement -/

/-- The balance, the boundary list and the section are what the clearing conditions read of a slot. -/
theorem trusted_of_fields (s : State) {sl sl' : Slot} (hbalance : sl'.balance = sl.balance)
    (hboundary : sl'.boundary = sl.boundary) (hsection : sl'.sectionNumber = sl.sectionNumber) :
    InputsTrusted s sl' ↔ InputsTrusted s sl := by
  constructor <;> rintro ⟨h1, h2, h3, h4, h5, h6⟩ <;> refine ⟨?_, h2, h3, h4, h5, ?_⟩
  · exact hbalance ▸ h1
  · rw [← hboundary, ← hsection]; exact h6
  · exact hbalance ▸ h1
  · rw [hboundary, hsection]; exact h6

theorem trusted_of_reset (s : State) (sl : Slot) (reset : SlotReset) :
    InputsTrusted s { sl with reset := reset } ↔ InputsTrusted s sl := trusted_of_fields s rfl rfl rfl

theorem judge_trusted (s : State) (changed : Bool) (sl : Slot) : InputsTrusted s (judge s changed sl) ↔ InputsTrusted s sl := by
  obtain ⟨_, _, _, h⟩ := judge_eq s changed sl
  rw [h]
  exact trusted_of_fields s rfl rfl rfl

/-- What a judgement of the clearing conditions leaves: a slot awaits them with all of them holding only where it has just
left CLEAR on a change of a total, and a slot in CLEARING or CLEAR meets them (R113, R114, R116, R117). -/
structure Judged (s : State) (changed : Bool) (sl x : Slot) : Prop where
  awaits : x.awaits → InputsTrusted s x → changed = true ∧ sl.state = .clear
  clearing : x.state = .clearing → InputsTrusted s x ∧
    ((sl.state = .clearing ∧ x.confirmSince = if changed then some s.now else sl.confirmSince) ∨
      (sl.awaits ∧ x.confirmSince = some s.now ∧ x.entered = false))
  clear : x.state = .clear → InputsTrusted s x ∧ changed = false ∧ sl.state = .clear
  agreeing : x.state = .agreeing → sl.state = .agreeing

theorem Slot.awaits.not_clearing {sl : Slot} (h : sl.awaits) : sl.state ≠ .clearing := by
  obtain h | ⟨h, -⟩ := h <;> simp [h]

theorem judge_judged (s : State) (changed : Bool) (sl : Slot) : Judged s changed sl (judge s changed sl) := by
  have htrusted := judge_trusted s changed sl
  have hholds := clearingConditions_iff (s := s) (sl := sl)
  cases hcond : s.clearingConditions sl
  · have hnot : ¬InputsTrusted s sl := fun h => by simp [hholds.mpr h] at hcond
    have hjudge : judge s changed sl = sl.unclear := by rw [judge, hcond, judgeClearing_fails]
    refine ⟨fun _ h => absurd (htrusted.mp h) hnot, fun h => ?_, fun h => ?_, fun h => ?_⟩ <;> rw [hjudge] at h <;>
      cases hstate : sl.state <;> simp_all [Slot.unclear]
  · have hyes : InputsTrusted s sl := hholds.mp hcond
    have hboth := htrusted.mpr hyes
    unfold judge at hboth ⊢
    rw [hcond] at hboth ⊢
    cases hstate : sl.state <;> cases changed <;> cases hentered : sl.entered <;>
      simp_all [judgeClearing, Slot.startClearing, Slot.toOccupied] <;>
      constructor <;> simp_all [Slot.awaits]

/-! ### On the way through an event -/

/-- A slot on the way through an event that found it as `sl`: `changed` says that a used total has changed, `offered` that the
view taken shows the section AGREEING. -/
structure ClearingMoved (s : State) (changed : Bool) (offered : Prop) (sl x : Slot) : Prop where
  trusted : x.state = .clearing ∨ x.state = .clear → InputsTrusted s x
  zero : (sl.state = .clear → ∀ c ∈ sl.contributions, c.inward = 0 ∧ c.outward = 0) → x.state = .clear →
    ∀ c ∈ x.contributions, c.inward = 0 ∧ c.outward = 0
  awaits : x.awaits → InputsTrusted s x → sl.state = .clear
  starts : sl.state ≠ .clearing → x.state = .clearing → x.confirmSince = some s.now ∧ x.entered = false
  runs : sl.state = .clearing → x.state = .clearing → x.confirmSince = if changed then some s.now else sl.confirmSince
  agreeing : x.state = .agreeing → sl.state = .agreeing ∨ offered

/-- Outside the states that the clearing conditions concern nothing is claimed but where AGREEING comes from. -/
theorem ClearingMoved.of_outside {s : State} {changed : Bool} {offered : Prop} {sl x : Slot}
    (hstate : x.state = .disturbed ∨ x.state = .agreeing) (hagreeing : x.state = .agreeing → sl.state = .agreeing ∨ offered) :
    ClearingMoved s changed offered sl x := by
  refine ⟨fun h => ?_, fun _ h => ?_, fun h => ?_, fun _ h => ?_, fun _ h => ?_, hagreeing⟩
  · obtain hstate | hstate := hstate <;> simp [hstate] at h
  · obtain hstate | hstate := hstate <;> simp [hstate] at h
  · obtain hstate | hstate := hstate <;> simp [Slot.awaits, hstate] at h
  · obtain hstate | hstate := hstate <;> simp [hstate] at h
  · obtain hstate | hstate := hstate <;> simp [hstate] at h

theorem ClearingMoved.of_disturbed {s : State} {changed : Bool} {offered : Prop} {sl x : Slot}
    (hstate : x.state = .disturbed) : ClearingMoved s changed offered sl x :=
  .of_outside (.inl hstate) fun h => by simp [hstate] at h

/-- The first judgement of an event, on the slot as it was found but for its figures and times. -/
theorem Judged.moved {s : State} {changed : Bool} {offered : Prop} {sl y x : Slot} (h : Judged s changed y x)
    (hstate : y.state = sl.state) (hconfirm : y.confirmSince = sl.confirmSince)
    (hcontributions : changed = false → x.contributions = sl.contributions) : ClearingMoved s changed offered sl x where
  trusted hx := hx.elim (fun hx => (h.clearing hx).1) (fun hx => (h.clear hx).1)
  zero hzero hx := by
    obtain ⟨-, hchanged, hclear⟩ := h.clear hx
    rw [hcontributions hchanged]
    exact hzero (hstate ▸ hclear)
  awaits hawaits htrusted := hstate ▸ (h.awaits hawaits htrusted).2
  starts hsl hx := by
    obtain ⟨-, ⟨hy, -⟩ | ⟨-, hstarts⟩⟩ := h.clearing hx
    · exact absurd (hstate ▸ hy) hsl
    · exact hstarts
  runs hsl hx := by
    obtain ⟨-, ⟨-, hconfirm'⟩ | ⟨hy, -⟩⟩ := h.clearing hx
    · rw [hconfirm', hconfirm]
    · exact absurd (hstate.trans hsl) hy.not_clearing
  agreeing hx := .inl (hstate ▸ h.agreeing hx)

namespace ClearingMoved

/-- Later judgements of the same event find nothing new to move but what a cause or an application has moved. -/
theorem judge {s : State} {changed : Bool} {offered : Prop} {sl x : Slot} (h : ClearingMoved s changed offered sl x) :
    ClearingMoved s changed offered sl (judge s false x) := by
  have hjudged := judge_judged s false x
  obtain ⟨_, _, _, heq⟩ := judge_eq s false x
  have hcontributions : (Machine.judge s false x).contributions = x.contributions := by rw [heq]
  refine ⟨fun hx => hx.elim (fun hx => (hjudged.clearing hx).1) (fun hx => (hjudged.clear hx).1), fun hzero hx => ?_,
    fun hawaits htrusted => ?_, fun hsl hx => ?_, fun hsl hx => ?_, fun hx => h.agreeing (hjudged.agreeing hx)⟩
  · rw [hcontributions]
    exact h.zero hzero (hjudged.clear hx).2.2
  · simpa using (hjudged.awaits hawaits htrusted).1
  · obtain ⟨htrusted, ⟨hclearing, hconfirm⟩ | ⟨-, hstarts⟩⟩ := hjudged.clearing hx
    · have hstarts := h.starts hsl hclearing
      have hkept : Machine.judge s false x = x := by
        have hholds : s.clearingConditions x = true := clearingConditions_iff.mpr ((judge_trusted s false x).mp htrusted)
        simp [Machine.judge, judgeClearing, hclearing, hholds]
      rw [hkept]
      exact hstarts
    · exact hstarts
  · obtain ⟨htrusted, ⟨hclearing, hconfirm⟩ | ⟨hother, -⟩⟩ := hjudged.clearing hx
    · rw [hconfirm]
      exact h.runs hsl hclearing
    · have := h.awaits hother ((judge_trusted s false x).mp htrusted)
      simp [hsl] at this

/-- An application is judged; it does not lead to CLEARING where the view taken shows the section AGREEING. -/
theorem applyDemand {s : State} {changed : Bool} {offered : Prop} {sl : Slot} (demand : Demand) (x : Slot)
    (hsl : sl.state = .clearing → ¬InputsTrusted s (applyDemand s demand x)) :
    ClearingMoved s changed offered sl (applyDemand s demand x) := by
  have hbased : (rebased s demand x).state = .sweep ∨ (rebased s demand x).state = .occupied := by
    dsimp only [rebased, recompute]
    cases demand.kind <;> simp
  have hjudged : Judged s false { rebased s demand x with
      negativeSince := if (rebased s demand x).balance < 0 then some s.now else none } (Machine.applyDemand s demand x) :=
    judge_judged ..
  refine ⟨fun hx => hx.elim (fun hx => (hjudged.clearing hx).1) (fun hx => (hjudged.clear hx).1), fun _ hx => ?_,
    fun hawaits htrusted => ?_, fun _ hx => ?_, fun hclearing hx => ?_, fun hx => ?_⟩
  · obtain ⟨-, -, hclear⟩ := hjudged.clear hx
    obtain h | h := hbased <;> simp [h] at hclear
  · simpa using (hjudged.awaits hawaits htrusted).1
  · obtain ⟨-, ⟨hclearing, -⟩ | ⟨-, hstarts⟩⟩ := hjudged.clearing hx
    · obtain h | h := hbased <;> simp [h] at hclearing
    · exact hstarts
  · exact absurd (hjudged.clearing hx).1 (hsl hclearing)
  · have hagreeing := hjudged.agreeing hx
    obtain h | h := hbased <;> simp [h] at hagreeing

theorem setAgreement {s : State} {changed : Bool} {offered : Prop} {sl x : Slot} (hstate : x.state = .agreeing)
    (hagreeing : sl.state = .agreeing ∨ offered) (demand : Demand) (members : List Nat)
    (hoffered : offered → ¬InputsTrusted s (setAgreement s demand members x)) :
    ClearingMoved s changed offered sl (setAgreement s demand members x) := by
  obtain ⟨-, heq⟩ | ⟨-, heq⟩ := setAgreement_cases s demand members x <;> rw [heq] at hoffered ⊢
  · exact .of_outside (.inr hstate) fun _ => hagreeing
  · exact applyDemand demand _ fun hclearing => hagreeing.elim (fun h => by simp [hclearing] at h) hoffered

theorem judgeAdoption {s : State} {changed : Bool} {offered : Prop} {sl x : Slot} (hstate : x.state = .disturbed)
    (hagreeing : offered) (sender : Nat) (d : ViewDemand)
    (hoffered : offered → ¬InputsTrusted s (judgeAdoption s sender d x)) :
    ClearingMoved s changed offered sl (judgeAdoption s sender d x) := by
  obtain heq | ⟨-, heq⟩ | ⟨-, heq⟩ := judgeAdoption_cases s sender d x <;> rw [heq] at hoffered ⊢
  · exact .of_disturbed hstate
  · exact .of_disturbed hstate
  · exact setAgreement rfl (.inr hagreeing) _ _ hoffered

theorem view {s : State} {changed : Bool} {sl x x' : Slot} {sender : Nat} {view : Option View}
    (h : ClearingMoved s changed (∃ v, view = some v ∧ v.state = .agreeing) sl x) (htaken : ViewTaken s sender view x x')
    (hoffered : (∃ v, view = some v ∧ v.state = .agreeing) → ¬InputsTrusted s x') :
    ClearingMoved s changed (∃ v, view = some v ∧ v.state = .agreeing) sl x' := by
  cases htaken with
  | nothing => exact h
  | leaves hstate => exact .of_outside (.inr hstate) fun _ => h.agreeing hstate
  | joins v demand members _ hstate => exact setAgreement hstate (h.agreeing hstate) _ _ hoffered
  | judged v d hview hv _ hstate => exact judgeAdoption hstate ⟨v, hview, hv⟩ _ _ hoffered
  | superseded v d hview hv _ hstate => exact judgeAdoption rfl ⟨v, hview, hv⟩ _ _ hoffered

end ClearingMoved

theorem takeTotals_moved (s : State) (evaluating : Bool) (offered : Prop) (sl : Slot) :
    ClearingMoved s true offered sl (takeTotals s evaluating sl) := by
  have hjudged : ClearingMoved s true offered sl (judge s true (recompute s { sl with settledSince := some s.now })) :=
    (judge_judged ..).moved rfl rfl (by simp)
  unfold takeTotals
  dsimp only
  split
  · exact .of_disturbed (disturb_state ..)
  · exact hjudged

/-! ### An accepted telegram -/

/-- A peer that shows the section AGREEING does not show it sound. -/
theorem not_trusted_of_agreeing {r : PeerRecord} {w : State} (hr : w.peer? r.station = some r) {j : Judgement}
    {tel : Telegram} {x : Slot} (huses : x.uses w.own r.station = true) {v : View}
    (hview : (r.accept w.now w.own w.slots j tel).view? x.sectionNumber = some v) (hstate : v.state = .agreeing) :
    ¬InputsTrusted (withRecord r j tel w) x := by
  intro htrusted
  obtain ⟨hown, b, hb, hstation⟩ := uses_iff.mp huses
  obtain ⟨r', v', hr', -, -, hv', -, hsound⟩ := htrusted.peers b hb (by rw [withRecord_own, hstation]; exact hown)
  rw [withRecord_peer? hr, if_pos hstation] at hr'
  obtain rfl := Option.some.inj hr'
  obtain rfl : v = v' := Option.some.inj (hview.symm.trans hv')
  exact hsound hstate

theorem telegramSlot_clearing {order : TakingOrder} {r : PeerRecord} {w : State} {j : Judgement} {tel : Telegram} {i : Nat}
    {sl : Slot} (hr : w.peer? r.station = some r) (huses : sl.uses w.own r.station = true) :
    ∃ offered, ClearingMoved (withRecord r j tel w) (totalsChange r (r.accept w.now w.own w.slots j tel)) offered sl
      (telegramSlot order r (r.accept w.now w.own w.slots j tel) (itemsOf r j tel) (withRecord r j tel w) i sl) := by
  refine ⟨∃ v, (r.accept w.now w.own w.slots j tel).view? sl.sectionNumber = some v ∧ v.state = .agreeing, ?_⟩
  refine telegramSlot_rule (P := fun x => x.state = .disturbed ∨ x = sl) (Q := fun x => SameBounds sl x ∧
      ClearingMoved (withRecord r j tel w) (totalsChange r (r.accept w.now w.own w.slots j tel)) _ sl x) (itemsOf_count ..)
    (by rw [withRecord_own]; exact huses) (.inr rfl) (fun _ _ _ _ _ => .inl (disturb_state ..)) ?_ ?_ ?_ ?_ |>.2
  · intro x hbounds hx
    refine ⟨hbounds.trans (takeChanges_bounds ..), ?_⟩
    unfold takeChanges
    obtain hstate | rfl := hx
    · split
      · unfold takeTotals
        dsimp only
        rw [judge_of_disturbed _ _ (by exact hstate)]
        split
        · exact .of_disturbed (disturb_state ..)
        · exact .of_disturbed hstate
      · rw [judge_of_disturbed _ _ hstate]
        exact .of_disturbed hstate
    · split
      next hchanged => rw [hchanged]; exact takeTotals_moved ..
      next hkept =>
        rw [Bool.eq_false_iff.mpr hkept]
        refine (judge_judged ..).moved rfl rfl fun _ => ?_
        obtain ⟨_, _, _, heq⟩ := judge_eq (withRecord r j tel w) false x
        rw [heq]
  · exact fun x cause station _ hx => ⟨hx.1.trans (disturb_bounds ..), .of_disturbed (disturb_state ..)⟩
  · rintro x hbounds ⟨-, hx⟩ x' htaken
    have hbounds' := hbounds.trans htaken.bounds
    refine ⟨hbounds', hx.view htaken ?_⟩
    rintro ⟨v, hview, hstate⟩
    refine not_trusted_of_agreeing hr ((hbounds'.uses ..).trans huses) ?_ hstate
    rw [hbounds'.number]
    exact hview
  · exact fun x _ hx => ⟨hx.1.trans (judge_bounds ..), hx.2.judge⟩

/-- A telegram leaves the inputs of a slot that does not use its sender. -/
theorem withRecord_trusted {r : PeerRecord} {w : State} (hr : w.peer? r.station = some r) (j : Judgement) (tel : Telegram) {sl : Slot}
    (huses : sl.uses w.own r.station = false) : InputsTrusted (withRecord r j tel w) sl ↔ InputsTrusted w sl := by
  by_cases hstation : ∃ b ∈ sl.boundary, b.station ≠ w.own ∧ b.station = r.station
  · obtain ⟨b, hb, hown, hsender⟩ := hstation
    have : sl.uses w.own r.station = true := uses_iff.mpr ⟨hsender ▸ hown, b, hb, hsender⟩
    simp [huses] at this
  · have hpeer : ∀ b ∈ sl.boundary, b.station ≠ w.own →
        (withRecord r j tel w).peer? b.station = w.peer? b.station := by
      intro b hb hown
      have hother : b.station ≠ r.station := fun h => hstation ⟨b, hb, hown, h⟩
      rw [withRecord_peer? hr, if_neg hother]
    have hscene := withRecord_scene r j tel w
    have hphase : (withRecord r j tel w).phase = w.phase := congrArg (·.phase) hscene
    have hlockdown : (withRecord r j tel w).lockdown = w.lockdown := congrArg (·.lockdown) hscene
    have hhead : (withRecord r j tel w).head.state = w.head.state := congrArg (·.head.state) hscene
    have hdetector : (withRecord r j tel w).detector.state = w.detector.state := congrArg (·.detector.state) hscene
    have hown := withRecord_own r j tel w
    constructor <;> rintro ⟨h1, h2, h3, h4, h5, h6⟩
    · refine ⟨h1, hphase ▸ h2, hlockdown ▸ h3, hhead ▸ h4, hdetector ▸ h5, fun b hb hn => ?_⟩
      have hshown := h6 b hb (by rw [hown]; exact hn)
      unfold ShowsSound at hshown ⊢
      rwa [hpeer b hb hn] at hshown
    · refine ⟨h1, hphase.trans h2, hlockdown.trans h3, hhead.trans h4, hdetector.trans h5, fun b hb hn => ?_⟩
      rw [hown] at hn
      have hshown := h6 b hb hn
      unfold ShowsSound at hshown ⊢
      rwa [hpeer b hb hn]

/-! ### Every event -/

/-- What an event from `w` to `u` does to a slot as far as the clearing conditions are concerned. -/
structure ClearingEvent (w u : State) (sl x : Slot) : Prop where
  trusted : (sl.state = .clearing ∨ sl.state = .clear → InputsTrusted w sl) → x.state = .clearing ∨ x.state = .clear →
    InputsTrusted u x
  zero : (sl.state = .clear → ∀ c ∈ sl.contributions, c.inward = 0 ∧ c.outward = 0) → x.state = .clear →
    ∀ c ∈ x.contributions, c.inward = 0 ∧ c.outward = 0
  enters : x.awaits → InputsTrusted u x → sl.state = .clear ∨ (sl.awaits ∧ InputsTrusted w sl)
  starts : sl.state ≠ .clearing → x.state = .clearing → x.confirmSince = some u.now ∧ x.entered = false
  restarts : sl.state = .clearing → x.state = .clearing → UsedTotalChanges w u sl → x.confirmSince = some u.now
  runsOn : sl.state = .clearing → x.state = .clearing → TotalsStay w u sl → x.confirmSince = sl.confirmSince

/-- A slot that has not moved among the states, its inputs and figures as they were. -/
theorem ClearingEvent.of_same {w u : State} {sl x : Slot} (htotals : ∀ n, u.totalsOf n = w.totalsOf n)
    (htrusted : InputsTrusted u x ↔ InputsTrusted w sl) (hstate : x.state = sl.state) (hentered : x.entered = sl.entered)
    (hconfirm : x.confirmSince = sl.confirmSince) (hcontributions : x.contributions = sl.contributions) :
    ClearingEvent w u sl x where
  trusted h hx := htrusted.mpr (h (by rwa [hstate] at hx))
  zero h hx := by rw [hcontributions]; exact h (hstate ▸ hx)
  enters hawaits hx := by
    refine .inr ⟨?_, htrusted.mp hx⟩
    unfold Slot.awaits at hawaits ⊢
    rwa [hstate, hentered] at hawaits
  starts hsl hx := absurd (hstate ▸ hx) hsl
  restarts _ _ hchanged := absurd hchanged (not_usedTotalChanges htotals)
  runsOn _ _ _ := hconfirm

/-- A slot that ends outside the states that the clearing conditions concern. -/
theorem ClearingEvent.of_outside {w u : State} {sl x : Slot} (hstate : x.state = .disturbed ∨ x.state = .agreeing) :
    ClearingEvent w u sl x := by
  refine ⟨fun _ h => ?_, fun _ h => ?_, fun h => ?_, fun _ h => ?_, fun _ h => ?_, fun _ h => ?_⟩
  · obtain hstate | hstate := hstate <;> simp [hstate] at h
  · obtain hstate | hstate := hstate <;> simp [hstate] at h
  · obtain hstate | hstate := hstate <;> simp [Slot.awaits, hstate] at h
  · obtain hstate | hstate := hstate <;> simp [hstate] at h
  · obtain hstate | hstate := hstate <;> simp [hstate] at h
  · obtain hstate | hstate := hstate <;> simp [hstate] at h

theorem ClearingMoved.event {w u s : State} {changed : Bool} {offered : Prop} {sl x : Slot}
    (h : ClearingMoved s changed offered sl x) (hscene : u.scene = s.scene)
    (hchanged : UsedTotalChanges w u sl → changed = true) (hstay : TotalsStay w u sl → changed = false) :
    ClearingEvent w u sl x where
  trusted _ hx := (trusted_of_scene hscene x).mpr (h.trusted hx)
  zero := h.zero
  enters hawaits hx := .inl (h.awaits hawaits ((trusted_of_scene hscene x).mp hx))
  starts hsl hx := scene_now hscene ▸ h.starts hsl hx
  restarts hsl hx hused := by rw [h.runs hsl hx, hchanged hused, scene_now hscene]; rfl
  runsOn hsl hx hsame := by rw [h.runs hsl hx, hstay hsame]; rfl

/-- At the entry to CLEAR every contribution is zero (R115). -/
theorem enterClear_contributions (s : State) (sl : Slot) : ∀ c ∈ (enterClear s sl).contributions, c.inward = 0 ∧ c.outward = 0 := by
  intro c hc
  simp only [enterClear, recompute, usedContributions, List.map_map, List.mem_map, Function.comp_apply] at hc
  obtain ⟨b, -, rfl⟩ := hc
  simp [rebaseToTotals, Boundary.rebase, rawContribution, Contribution.clamp]

theorem inwardSum_of_zero {cs : List Contribution} (h : ∀ c ∈ cs, c.inward = 0 ∧ c.outward = 0) :
    inwardSum cs = 0 ∧ outwardSum cs = 0 := by
  induction cs with
  | nil => exact ⟨rfl, rfl⟩
  | cons c cs ih =>
    obtain ⟨hin, hout⟩ := ih fun d hd => h d (List.mem_cons_of_mem c hd)
    obtain ⟨hcin, hcout⟩ := h c List.mem_cons_self
    simp_all [inwardSum, outwardSum]

theorem enterClear_balance (s : State) (sl : Slot) : (enterClear s sl).balance = 0 := by
  obtain ⟨hin, hout⟩ := inwardSum_of_zero (enterClear_contributions s sl)
  change balanceOf (enterClear s sl).contributions = 0
  simp [balanceOf, hin, hout]

theorem enterClear_bounds (s : State) (sl : Slot) : SameBounds sl (enterClear s sl) :=
  ⟨rfl, rfl, rfl, rebase_bounds (fun b => some (s.totalsOf b.station)) sl.boundary⟩

theorem trusted_of_bounds {s : State} {sl x : Slot} (h : InputsTrusted s sl) (hbounds : SameBounds sl x)
    (hbalance : x.balance = 0) : InputsTrusted s x := by
  refine ⟨hbalance, h.phase, h.lockdown, h.head, h.detector, fun b hb hown => ?_⟩
  have hmem : b.station ∈ sl.boundary.map (·.station) := by
    rw [← hbounds.stations]
    exact List.mem_map_of_mem hb
  obtain ⟨b', hb', hstation⟩ := List.mem_map.mp hmem
  rw [hbounds.number, ← hstation]
  exact h.peers b' hb' (by rw [hstation]; exact hown)

theorem SlotEvent.clearing {c : Instr} {w u : State} {i : Nat} {sl sl' : Slot} (h : SlotEvent c w u i sl sl') :
    ClearingEvent w u sl sl' := by
  cases h with
  | untouched htotals htrusted => exact .of_same htotals htrusted rfl rfl rfl rfl
  | judged htotals =>
    have hmoved : ClearingMoved u false False sl (judge u false sl) := by
      refine (judge_judged ..).moved rfl rfl fun _ => ?_
      obtain ⟨_, _, _, heq⟩ := judge_eq u false sl
      rw [heq]
    exact hmoved.event rfl (fun hchanged => absurd hchanged (not_usedTotalChanges htotals)) fun _ => rfl
  | disturbed | holdRunsOut => exact .of_outside (.inl (disturb_state ..))
  | counted hcount =>
    have htaken := takeTotals_moved u sl.state.evaluating False sl
    unfold abandonPassage
    split
    · exact .of_outside (.inl rfl)
    · exact htaken.event rfl (fun _ => rfl) fun hstay => (hcount.elim (· hstay.1) (· hstay.2.1)).elim
  | holdStops hscene | settles _ _ hscene | lingers hscene | cools hscene | refuses hscene =>
    exact .of_same (totalsOf_of_scene hscene) ((trusted_of_scene hscene _).trans (trusted_of_fields w rfl rfl rfl)) rfl rfl rfl
      rfl
  | clears hscene hstate =>
    refine ⟨fun hsl _ => ?_, fun _ _ => enterClear_contributions u sl, fun hawaits => ?_, fun _ hx => ?_, fun _ hx => ?_,
      fun _ hx => ?_⟩
    · exact trusted_of_bounds ((trusted_of_scene hscene sl).mpr (hsl (.inl hstate))) (enterClear_bounds u sl)
        (enterClear_balance u sl)
    · simp [Slot.awaits, enterClear, recompute] at hawaits
    · simp [enterClear, recompute] at hx
    · simp [enterClear, recompute] at hx
    · simp [enterClear, recompute] at hx
  | expires => exact .of_outside (.inl (by unfold expireDemand; rfl))
  | issues => exact .of_outside (.inr rfl)
  | telegram dt tel order r j _ hr _ _ _ hscene =>
    obtain ⟨identity, hidentity⟩ := forgetIdentity_eq j r.station sl
    rw [hidentity]
    cases huses : sl.uses w.own r.station
    · refine telegramSlot_unused_rule (P := fun x => ClearingEvent w u sl x) ?_ ?_ fun _ _ _ _ _ =>
        .of_outside (.inl (disturb_state ..))
      · rw [withRecord_own]; exact huses
      · have htotals : ∀ b ∈ sl.boundary, u.totalsOf b.station = w.totalsOf b.station := fun b hb =>
          (totalsOf_of_scene hscene _).trans (withRecord_totalsOf hr j tel ((station_ne_of_unused huses hb).imp id .inl))
        have htrusted : InputsTrusted u sl ↔ InputsTrusted w sl :=
          (trusted_of_scene hscene sl).trans (withRecord_trusted hr j tel huses)
        have hsame := ClearingEvent.of_same (w := w) (u := w) (sl := sl) (x := sl) (fun _ => rfl) Iff.rfl rfl rfl rfl rfl
        refine ⟨fun h hx => ?_, hsame.zero, fun hawaits hx => ?_, fun hsl hx => absurd hx hsl,
          fun _ _ ⟨b, hb, hchanged⟩ => absurd (htotals b hb) hchanged, fun _ _ _ => rfl⟩
        · exact (trusted_of_reset u sl _).mpr (htrusted.mpr (h hx))
        · exact .inr ⟨hawaits, htrusted.mp ((trusted_of_reset u sl _).mp hx)⟩
    · obtain ⟨offered, hmoved⟩ := telegramSlot_clearing (order := order) (j := j) (tel := tel) (i := i)
        (sl := { sl with reset := { sl.reset with lastIdentity := identity } }) hr huses
      have hiff := usedTotalChanges_iff hr hscene sl
      have hevent := hmoved.event (w := w) (u := u) hscene (fun hchanged => (hiff.mp hchanged).2) fun hstay =>
        Bool.eq_false_iff.mpr fun hchanged => hstay.not_used (hiff.mpr ⟨huses, hchanged⟩)
      refine ⟨fun h hx => hevent.trusted (fun hx => ?_) hx, hevent.zero, fun hawaits hx => ?_, hevent.starts, hevent.restarts,
        hevent.runsOn⟩
      · exact (trusted_of_reset w sl _).mpr (h hx)
      · exact (hevent.enters hawaits hx).imp id fun h => ⟨h.1, (trusted_of_reset w sl _).mp h.2⟩

/-! ### Every step -/

theorem clearingSound_iff {s : State} : ClearingSound s ↔ ∀ sl ∈ s.slots,
    (sl.state = .clearing ∨ sl.state = .clear → InputsTrusted s sl) ∧
    (sl.state = .clear → ∀ c ∈ sl.contributions, c.inward = 0 ∧ c.outward = 0) :=
  ⟨fun h sl hsl => ⟨h.trusted sl hsl, h.zero sl hsl⟩, fun h => ⟨fun sl hsl => (h sl hsl).1, fun sl hsl => (h sl hsl).2⟩⟩

theorem step_clearingSound {s t : State} (hs : ClearingSound s) (h : step s = .next t) : ClearingSound t := by
  rw [clearingSound_iff] at hs ⊢
  cases step_slotsStep h with
  | starts hnone => simp [hnone]
  | time hlater =>
    rw [hlater.slots]
    exact fun sl hsl => ⟨fun hstate => (hlater.trusted sl).mpr ((hs sl hsl).1 hstate), (hs sl hsl).2⟩
  | builds w im first hlater hphase hscene hbuilt =>
    intro sl hsl
    rw [hbuilt] at hsl
    obtain ⟨e, -, rfl⟩ := List.mem_map.mp hsl
    simp [buildSlot]
  | halts w hlater hphase hscene hkept =>
    intro sl hsl
    rw [hkept, hlater.slots] at hsl
    refine ⟨fun hstate => ?_, (hs sl hsl).2⟩
    have := ((hs sl hsl).1 hstate).phase
    simp [hphase] at this
  | event c rest w u hpending hlater hevent _ _ _ hscene hkept =>
    intro sl hsl
    rw [hkept] at hsl
    have hbefore : ∀ sl ∈ w.slots, (sl.state = .clearing ∨ sl.state = .clear → InputsTrusted w sl) ∧
        (sl.state = .clear → ∀ c ∈ sl.contributions, c.inward = 0 ∧ c.outward = 0) := by
      intro sl hsl
      rw [hlater.slots] at hsl
      exact ⟨fun hstate => (hlater.trusted sl).mpr ((hs sl hsl).1 hstate), (hs sl hsl).2⟩
    have hafter := hevent.forall_slots (Q := fun sl => (sl.state = .clearing ∨ sl.state = .clear → InputsTrusted u sl) ∧
        (sl.state = .clear → ∀ c ∈ sl.contributions, c.inward = 0 ∧ c.outward = 0))
      (fun _ _ _ h hP => ⟨h.clearing.trusted hP.1, h.clearing.zero hP.2⟩) hbefore sl hsl
    exact ⟨fun hstate => (trusted_of_scene hscene sl).mpr (hafter.1 hstate), hafter.2⟩

theorem ClearingEvent.step {s w u t : State} {sl x : Slot} (h : ClearingEvent w u sl x) (hlater : Later s w)
    (hscene : t.scene = u.scene) : ClearingStep s t sl x where
  enters hawaits hx := (h.enters hawaits ((trusted_of_scene hscene x).mp hx)).imp id fun h => ⟨h.1, (hlater.trusted sl).mp h.2⟩
  starts hsl hx := scene_now hscene ▸ h.starts hsl hx
  restarts hsl hx hchanged := scene_now hscene ▸
    h.restarts hsl hx ((hlater.usedTotalChanges sl).mp ((usedTotalChanges_of_scene hscene sl).mp hchanged))
  runsOn hsl hx hstay := h.runsOn hsl hx ((hlater.totalsStay sl).mp ((totalsStay_of_scene hscene sl).mp hstay))

theorem step_clearingStep {s t : State} {i : Nat} {sl sl' : Slot} (h : step s = .next t) (hsl : s.slots[i]? = some sl)
    (hsl' : t.slots[i]? = some sl') : ClearingStep s t sl sl' := by
  cases step_slotsStep h with
  | starts hnone => simp [hnone] at hsl'
  | time hlater =>
    obtain rfl : sl = sl' := Option.some.inj (hsl.symm.trans (hlater.slots ▸ hsl'))
    exact (ClearingEvent.of_same (w := t) (fun _ => rfl) Iff.rfl rfl rfl rfl rfl).step hlater rfl
  | builds w im first hlater hphase hscene hbuilt =>
    rw [hbuilt] at hsl'
    obtain ⟨e, -, rfl⟩ := List.mem_map.mp (List.mem_of_getElem? hsl')
    exact (ClearingEvent.of_outside (w := w) (.inl rfl)).step hlater hscene
  | halts w hlater hphase hscene hkept =>
    obtain rfl : sl = sl' := Option.some.inj (hsl.symm.trans (by rw [← hlater.slots, ← hkept, hsl']))
    have htotals : ∀ n, (failImage w).totalsOf n = w.totalsOf n := fun _ => rfl
    refine (ClearingEvent.of_same (u := failImage w) htotals ?_ rfl rfl rfl rfl).step hlater hscene
    exact trusted_of_not_run (by rw [hlater.phase, hphase]; simp) (by simp [failImage]) sl
  | event c rest w u hpending hlater hevent _ _ _ hscene hkept =>
    exact (hevent.slot i sl sl' (by rw [hlater.slots, hsl]) (by rw [← hkept, hsl'])).clearing.step hlater hscene

end Sys2Proof.Machine

namespace Sys2Proof.Proofs
open Sys2Proof.Machine

/-- Settles O52: each way in which an event moves a slot judges its clearing conditions after the last change they read, and
no application leads to CLEARING on a view that shows the section AGREEING. -/
theorem clearingStaysSound : Obligations.ClearingStaysSound :=
  ⟨fun _ _ => step_clearingSound, fun _ _ _ _ _ => step_clearingStep⟩

end Sys2Proof.Proofs
end

section
/-! PROOFS. The ranges of the counters, the ties within slot and reset records and within peer records: what the event of each
command does to a counter. -/

namespace Sys2Proof.Machine

/-! ### The slots' counters (R146, R147, R154) -/

/-- The counters of a slot's records. -/
def Slot.countersInRange (sl : Slot) : Prop := sl.record.count ≤ 255 ∧ sl.reset.expiries ≤ 3

theorem disturb_counters {sl : Slot} (h : sl.countersInRange) (cause : Cause) (time : Word32) (station : Nat) :
    (disturb cause time station sl).countersInRange := by
  unfold disturb
  split
  · exact h
  · exact ⟨Nat.min_le_left .., h.2⟩

theorem judge_counters {sl : Slot} (h : sl.countersInRange) (s : State) (changed : Bool) :
    (judge s changed sl).countersInRange := by
  obtain ⟨_, _, _, heq⟩ := judge_eq s changed sl
  rw [heq]
  exact h

theorem takeTotals_counters {sl : Slot} (h : sl.countersInRange) (s : State) (evaluating : Bool) :
    (takeTotals s evaluating sl).countersInRange := by
  have hjudged : (judge s true (recompute s { sl with settledSince := some s.now })).countersInRange :=
    judge_counters (by exact h) ..
  unfold takeTotals
  dsimp only
  split
  · exact disturb_counters hjudged ..
  · exact hjudged

theorem setAgreement_counters {sl : Slot} (h : sl.countersInRange) (s : State) (demand : Demand) (members : List Nat) :
    (setAgreement s demand members sl).countersInRange := by
  obtain ⟨-, heq⟩ | ⟨-, heq⟩ := setAgreement_cases s demand members sl <;> rw [heq]
  · exact h
  · exact judge_counters ⟨by exact h.1, Nat.zero_le _⟩ s false

theorem judgeAdoption_counters {sl : Slot} (h : sl.countersInRange) (s : State) (sender : Nat) (d : ViewDemand) :
    (judgeAdoption s sender d sl).countersInRange := by
  obtain heq | ⟨-, heq⟩ | ⟨-, heq⟩ := judgeAdoption_cases s sender d sl <;> rw [heq]
  · exact h
  · exact h
  · exact setAgreement_counters (by exact h) ..

theorem ViewTaken.counters {s : State} {sender : Nat} {view : Option View} {sl sl' : Slot}
    (h : ViewTaken s sender view sl sl') (hcounters : sl.countersInRange) : sl'.countersInRange := by
  cases h with
  | nothing | leaves => exact hcounters
  | joins => exact setAgreement_counters hcounters ..
  | judged => exact judgeAdoption_counters hcounters ..
  | superseded => exact judgeAdoption_counters (by exact hcounters) ..

theorem telegramSlot_counters {order : TakingOrder} {r after : PeerRecord} {items : List Item} {s : State} {i : Nat}
    {sl : Slot} (hitems : items.count .changes = 1) (h : sl.countersInRange) :
    (telegramSlot order r after items s i sl).countersInRange := by
  cases huses : sl.uses s.own after.station
  · exact telegramSlot_unused_rule huses h fun _ _ _ _ hx => disturb_counters hx ..
  · refine telegramSlot_rule (P := Slot.countersInRange) hitems huses h (fun _ _ _ _ hx => disturb_counters hx ..) ?_
      (fun _ _ _ _ hx => disturb_counters hx ..) (fun _ _ hx _ htaken => htaken.counters hx)
      fun _ _ hx => judge_counters hx ..
    intro x _ hx
    unfold takeChanges
    split
    · exact takeTotals_counters hx ..
    · exact judge_counters hx ..

theorem countExpiry_expiries (now : Tick) {r : SlotReset} (h : r.expiries ≤ 3) : (r.countExpiry now).expiries ≤ 3 := by
  unfold SlotReset.countExpiry
  split
  · exact Nat.zero_le _
  · dsimp only
    omega

theorem SlotEvent.counters {c : Instr} {w u : State} {i : Nat} {sl sl' : Slot} (h : SlotEvent c w u i sl sl')
    (hcounters : sl.countersInRange) : sl'.countersInRange := by
  cases h with
  | untouched | holdStops | settles | clears | lingers | cools | issues | refuses => exact hcounters
  | judged => exact judge_counters hcounters ..
  | disturbed | holdRunsOut => exact disturb_counters (by exact hcounters) ..
  | counted =>
    have htaken := takeTotals_counters hcounters u sl.state.evaluating
    unfold abandonPassage
    split <;> exact htaken
  | expires => exact ⟨hcounters.1, countExpiry_expiries _ hcounters.2⟩
  | telegram dt tel order r j =>
    obtain ⟨identity, hidentity⟩ := forgetIdentity_eq j r.station sl
    rw [hidentity]
    exact telegramSlot_counters (itemsOf_count ..) hcounters

/-! ### The ties within a slot's reset record -/

/-- What ties a slot's reset state to its state (R119, R136, R138, R141 to R146, R156). -/
structure ResetTied (sl : Slot) : Prop where
  agreement : sl.state = .agreeing ↔ sl.reset.agreement.isSome = true
  demand : sl.state = .agreeing → sl.reset.demand.isSome = true ∧ sl.reset.windowSince.isSome = true
  linger : sl.reset.lingerSince.isSome = true → sl.reset.demand.isSome = true ∧ sl.state ≠ .disturbed ∧ sl.state ≠ .agreeing
  disturbed : sl.state = .disturbed → sl.reset.demand = none
  cause : sl.state = .disturbed ∨ sl.state = .agreeing → sl.record.firstCause.isSome = true

theorem resetSound_iff {s : State} : ResetSound s ↔ ∀ sl ∈ s.slots, ResetTied sl :=
  ⟨fun h sl hsl => let ⟨h1, h2, h3, h4, h5⟩ := h sl hsl; ⟨h1, h2, h3, h4, h5⟩,
    fun h sl hsl => ⟨(h sl hsl).agreement, (h sl hsl).demand, (h sl hsl).linger, (h sl hsl).disturbed, (h sl hsl).cause⟩⟩

namespace ResetTied

/-- The reset record, the disturbance record and the state alone count. -/
theorem of_fields {sl sl' : Slot} (h : ResetTied sl) (hstate : sl'.state = sl.state)
    (hagreement : sl'.reset.agreement.isSome = sl.reset.agreement.isSome) (hdemand : sl'.reset.demand = sl.reset.demand)
    (hwindow : sl'.reset.windowSince = sl.reset.windowSince) (hlinger : sl'.reset.lingerSince = sl.reset.lingerSince)
    (hcause : sl.record.firstCause.isSome = true → sl'.record.firstCause.isSome = true) : ResetTied sl' where
  agreement := by rw [hstate, hagreement]; exact h.agreement
  demand := by rw [hstate, hdemand, hwindow]; exact h.demand
  linger := by rw [hstate, hdemand, hlinger]; exact h.linger
  disturbed := by rw [hstate, hdemand]; exact h.disturbed
  cause := by rw [hstate]; exact fun hx => hcause (h.cause hx)

/-- A slot moves among the evaluating states. -/
theorem of_evaluating {sl sl' : Slot} (h : ResetTied sl) (hstate : sl.state.evaluating = true)
    (hstate' : sl'.state.evaluating = true) (hreset : sl'.reset = sl.reset) : ResetTied sl' := by
  have hkeep : ∀ st : SlotState, st.evaluating = true → st ≠ .disturbed ∧ st ≠ .agreeing := by
    intro st hst
    cases st <;> simp_all [SlotState.evaluating]
  obtain ⟨hd, ha⟩ := hkeep _ hstate
  obtain ⟨hd', ha'⟩ := hkeep _ hstate'
  refine ⟨?_, fun hx => absurd hx ha', fun hx => ?_, fun hx => absurd hx hd', fun hx => absurd hx (by simp [hd', ha'])⟩
  · rw [hreset, ← h.agreement]
    exact ⟨fun hx => absurd hx ha', fun hx => absurd hx ha⟩
  · rw [hreset] at hx ⊢
    exact ⟨(h.linger hx).1, hd', ha'⟩

theorem judge {sl : Slot} (h : ResetTied sl) (s : State) (changed : Bool) : ResetTied (Machine.judge s changed sl) := by
  unfold Machine.judge
  obtain heq | ⟨-, hawaits, heq⟩ | ⟨-, -, -, heq⟩ | ⟨hstate, -, heq⟩ :=
    judgeClearing_cases s.now (s.clearingConditions sl) changed sl <;> rw [heq]
  · exact h
  · refine h.of_evaluating ?_ rfl rfl
    obtain hstate | ⟨hstate, -⟩ := hawaits <;> simp [hstate, SlotState.evaluating]
  · exact h.of_fields rfl rfl rfl rfl rfl id
  · refine h.of_evaluating ?_ rfl rfl
    obtain hstate | hstate := hstate <;> simp [hstate, SlotState.evaluating]

theorem disturb {sl : Slot} (h : ResetTied sl) (cause : Cause) (time : Word32) (station : Nat) :
    ResetTied (Machine.disturb cause time station sl) := by
  unfold Machine.disturb
  split
  · exact h.of_fields rfl rfl rfl rfl rfl id
  · exact ⟨by simp [SlotReset.abandonForCause], by simp, by simp [SlotReset.abandonForCause],
      by simp [SlotReset.abandonForCause], by simp [DisturbanceRecord.enter]⟩

theorem takeTotals {sl : Slot} (h : ResetTied sl) (s : State) (evaluating : Bool) :
    ResetTied (Machine.takeTotals s evaluating sl) := by
  have hjudged : ResetTied (Machine.judge s true (recompute s { sl with settledSince := some s.now })) :=
    (h.of_fields (sl' := recompute s { sl with settledSince := some s.now }) rfl rfl rfl rfl rfl id).judge s true
  unfold Machine.takeTotals
  dsimp only
  split
  · exact hjudged.disturb ..
  · exact hjudged

theorem linger_none {sl : Slot} (h : ResetTied sl) (hstate : sl.state = .disturbed ∨ sl.state = .agreeing) :
    sl.reset.lingerSince = none := by
  refine Classical.byContradiction fun hruns => ?_
  obtain ⟨-, hd, ha⟩ := h.linger (Option.isSome_iff_ne_none.mpr hruns)
  exact hstate.elim hd ha

theorem endDemand {sl : Slot} (h : ResetTied sl) (hstate : sl.state = .agreeing) (outcome : ResetOutcome) :
    ResetTied (sl.endDemand outcome) := by
  have hlinger := h.linger_none (.inr hstate)
  have hcause := h.cause (.inr hstate)
  exact ⟨by simp [Slot.endDemand], by simp [Slot.endDemand], by simp [Slot.endDemand, hlinger], by simp [Slot.endDemand],
    fun _ => hcause⟩

theorem takeDemand {sl : Slot} (h : ResetTied sl) (hstate : sl.state = .disturbed) (now : Tick) (demand : Demand)
    (members : List Nat) : ResetTied (sl.takeDemand now demand members) := by
  have hlinger := h.linger_none (.inl hstate)
  have hcause := h.cause (.inl hstate)
  exact ⟨by simp [Slot.takeDemand, SlotReset.takeDemand], by simp [Slot.takeDemand, SlotReset.takeDemand],
    by simp [Slot.takeDemand, SlotReset.takeDemand, hlinger], by simp [Slot.takeDemand], fun _ => hcause⟩

theorem applyDemand {sl : Slot} (h : sl.reset.demand.isSome = true) (s : State) (demand : Demand) :
    ResetTied (Machine.applyDemand s demand sl) := by
  have hstate : (rebased s demand sl).state = .sweep ∨ (rebased s demand sl).state = .occupied := by
    dsimp only [rebased, recompute]
    cases demand.kind <;> simp
  refine judge ⟨?_, ?_, ?_, ?_, ?_⟩ s false
  · obtain hstate | hstate := hstate <;> simp [hstate] <;> rfl
  · obtain hstate | hstate := hstate <;> simp [hstate]
  · obtain hstate | hstate := hstate <;> simp [hstate] <;> exact fun _ => h
  · obtain hstate | hstate := hstate <;> simp [hstate]
  · obtain hstate | hstate := hstate <;> simp [hstate]

theorem setAgreement {sl : Slot} (h : ResetTied sl) (hstate : sl.state = .agreeing) (s : State) (demand : Demand)
    (members : List Nat) : ResetTied (Machine.setAgreement s demand members sl) := by
  obtain ⟨-, heq⟩ | ⟨-, heq⟩ := setAgreement_cases s demand members sl <;> rw [heq]
  · exact h.of_fields rfl (by simpa using h.agreement.mp hstate) rfl rfl rfl id
  · exact applyDemand (by exact (h.demand hstate).1) ..

theorem judgeAdoption {sl : Slot} (h : ResetTied sl) (hstate : sl.state = .disturbed) (s : State) (sender : Nat)
    (d : ViewDemand) : ResetTied (Machine.judgeAdoption s sender d sl) := by
  obtain heq | ⟨-, heq⟩ | ⟨-, heq⟩ := judgeAdoption_cases s sender d sl <;> rw [heq]
  · exact h
  · exact h.of_fields rfl rfl rfl rfl rfl id
  · exact (h.takeDemand hstate ..).setAgreement rfl ..

end ResetTied

theorem ViewTaken.resetTied {s : State} {sender : Nat} {view : Option View} {sl sl' : Slot}
    (h : ViewTaken s sender view sl sl') (htied : ResetTied sl) : ResetTied sl' := by
  cases h with
  | nothing => exact htied
  | leaves => exact htied.of_fields rfl (by simp [Slot.leave]) rfl rfl rfl id
  | joins _ _ _ _ hstate => exact htied.setAgreement hstate ..
  | judged _ _ _ _ _ hstate => exact htied.judgeAdoption hstate ..
  | superseded _ _ _ _ _ hstate => exact (htied.endDemand hstate _).judgeAdoption rfl ..

theorem telegramSlot_resetTied {order : TakingOrder} {r after : PeerRecord} {items : List Item} {s : State} {i : Nat}
    {sl : Slot} (hitems : items.count .changes = 1) (h : ResetTied sl) :
    ResetTied (telegramSlot order r after items s i sl) := by
  cases huses : sl.uses s.own after.station
  · exact telegramSlot_unused_rule huses h fun _ _ _ _ hx => hx.disturb ..
  · refine telegramSlot_rule (P := ResetTied) hitems huses h (fun _ _ _ _ hx => hx.disturb ..) ?_
      (fun _ _ _ _ hx => hx.disturb ..) (fun _ _ hx _ htaken => htaken.resetTied hx) fun _ _ hx => hx.judge ..
    intro x _ hx
    unfold takeChanges
    split
    · exact hx.takeTotals ..
    · exact hx.judge ..

theorem SlotEvent.resetTied {c : Instr} {w u : State} {i : Nat} {sl sl' : Slot} (h : SlotEvent c w u i sl sl')
    (htied : ResetTied sl) : ResetTied sl' := by
  cases h with
  | untouched => exact htied
  | judged => exact htied.judge ..
  | disturbed => exact htied.disturb ..
  | holdRunsOut => exact (htied.of_fields (sl' := { sl with negativeSince := none }) rfl rfl rfl rfl rfl id).disturb ..
  | counted =>
    have htaken := htied.takeTotals u sl.state.evaluating
    unfold abandonPassage
    split
    next hstate => exact htaken.endDemand hstate _
    next => exact htaken
  | holdStops | settles | cools | refuses => exact htied.of_fields rfl rfl rfl rfl rfl id
  | clears _ hstate => exact htied.of_evaluating (by simp [hstate, SlotState.evaluating]) rfl rfl
  | expires _ hstate =>
    refine (htied.endDemand hstate .expired).of_fields rfl ?_ ?_ ?_ ?_ id <;>
      simp only [expireDemand, SlotReset.countExpiry] <;> split <;> rfl
  | lingers _ hruns =>
    obtain ⟨-, hd, ha⟩ := htied.linger (Option.isSome_iff_ne_none.mpr hruns)
    exact ⟨htied.agreement, fun h => absurd h ha, by simp, fun h => absurd h hd, htied.cause⟩
  | issues _ _ _ _ hstate => exact htied.takeDemand hstate ..
  | telegram dt tel order r j =>
    obtain ⟨identity, hidentity⟩ := forgetIdentity_eq j r.station sl
    rw [hidentity]
    exact telegramSlot_resetTied (itemsOf_count ..) (htied.of_fields rfl rfl rfl rfl rfl id)

/-- An invariant of every slot that each way of `SlotEvent` keeps, and that a slot has at the build, is kept by every step. -/
theorem step_keeps_slots {P : Slot → Prop} {s t : State} (h : step s = .next t)
    (hbuild : ∀ now time own im, P (buildSlot now time own im))
    (hevent : ∀ c w u i sl sl', SlotEvent c w u i sl sl' → P sl → P sl') (hs : ∀ sl ∈ s.slots, P sl) :
    ∀ sl ∈ t.slots, P sl := by
  cases step_slotsStep h with
  | starts hnone => simp [hnone]
  | time hlater => rw [hlater.slots]; exact hs
  | builds w im first hlater hphase hscene hbuilt =>
    intro sl hsl
    rw [hbuilt] at hsl
    obtain ⟨e, -, rfl⟩ := List.mem_map.mp hsl
    exact hbuild ..
  | halts w hlater hphase hscene hkept => rw [hkept, hlater.slots]; exact hs
  | event c rest w u hpending hlater hevent' _ _ _ hscene hkept =>
    rw [hkept]
    exact hevent'.forall_slots (P := P) (fun i sl sl' => hevent c w u i sl sl') (by rw [hlater.slots]; exact hs)

theorem step_resetSound {s t : State} (hs : ResetSound s) (h : step s = .next t) : ResetSound t := by
  rw [resetSound_iff] at hs ⊢
  refine step_keeps_slots h ?_ (fun c w u i sl sl' h => h.resetTied) hs
  exact fun now time own im => ⟨by simp [buildSlot, SlotReset.atBuild], by simp [buildSlot], by simp [buildSlot, SlotReset.atBuild],
    by simp [buildSlot, SlotReset.atBuild], by simp [buildSlot, DisturbanceRecord.atBuild]⟩

/-! ### The peer records -/

/-- A record is heard just when it has a sequence number, a head status and an age; a LOST one shows no missing or foreign
view. -/
structure RecordTied (r : PeerRecord) : Prop where
  sequence : r.lastSequence.isSome = (r.state != .unheard)
  status : r.status.isSome = (r.state != .unheard)
  age : r.acceptedAt.isSome = (r.state != .unheard)
  lost : r.state = .lost → true ∉ r.missing ∧ true ∉ r.foreign

theorem peersSound_iff {s : State} : PeersSound s ↔ (s.peers.map (·.station)).Nodup ∧ ∀ r ∈ s.peers, RecordTied r :=
  ⟨fun h => ⟨h.stations, fun r hr => ⟨(h.heard r hr).1, (h.heard r hr).2.1, (h.heard r hr).2.2, h.lost r hr⟩⟩,
    fun h => ⟨h.1, fun r hr => ⟨(h.2 r hr).sequence, (h.2 r hr).status, (h.2 r hr).age⟩, fun r hr => (h.2 r hr).lost⟩⟩

theorem eq_of_nodup_map {α β : Type} {f : α → β} {l : List α} (h : (l.map f).Nodup) {x y : α} (hx : x ∈ l) (hy : y ∈ l)
    (heq : f x = f y) : x = y := by
  induction l with
  | nil => cases hx
  | cons a l ih =>
    obtain ⟨ha, hl⟩ := List.nodup_cons.mp h
    obtain rfl | hx' := List.mem_cons.mp hx
    · obtain rfl | hy' := List.mem_cons.mp hy
      · rfl
      · exact absurd (List.mem_map.mpr ⟨y, hy', heq.symm⟩) ha
    · obtain rfl | hy' := List.mem_cons.mp hy
      · exact absurd (List.mem_map.mpr ⟨x, hx', heq⟩) ha
      · exact ih hl hx' hy'

/-- With one record a station, the record found by a station is that record. -/
theorem peer?_of_mem {s : State} (hstations : (s.peers.map (·.station)).Nodup) {r : PeerRecord} (hr : r ∈ s.peers) :
    s.peer? r.station = some r := by
  have hfound : (s.peer? r.station).isSome = true := by
    simp only [State.peer?, List.find?_isSome]
    exact ⟨r, hr, by simp⟩
  obtain ⟨found, hfound⟩ := Option.isSome_iff_exists.mp hfound
  rw [hfound, eq_of_nodup_map hstations (List.mem_of_find?_eq_some hfound) hr (peer?_station hfound)]

theorem PeerEvent.recordTied {w : State} {r r' : PeerRecord} (h : PeerEvent w r r') (hfound : w.peer? r.station = some r)
    (htied : RecordTied r) : RecordTied r' := by
  cases h with
  | untouched => exact htied
  | cleared => exact ⟨htied.sequence, htied.status, htied.age, htied.lost⟩
  | stale found hfound' hfresh =>
    obtain rfl : r = found := Option.some.inj (hfound.symm.trans hfound')
    have hheard : (r.state != .unheard) = true := by simp [hfresh]
    exact ⟨htied.sequence.trans hheard, htied.status.trans hheard, htied.age.trans hheard, by simp⟩
  | lost found hfound' hstale =>
    obtain rfl : r = found := Option.some.inj (hfound.symm.trans hfound')
    have hheard : (r.state != .unheard) = true := by simp [hstale]
    exact ⟨htied.sequence.trans hheard, htied.status.trans hheard, htied.age.trans hheard, by simp [PeerRecord.lose]⟩
  | accepted found tel => exact ⟨rfl, rfl, rfl, by simp [PeerRecord.accept]⟩

theorem step_peersSound {s t : State} (hs : PeersSound s) (h : step s = .next t) : PeersSound t := by
  rw [peersSound_iff] at hs ⊢
  obtain ⟨hstations, htied⟩ := hs
  cases step_slotsStep h with
  | starts _ hnone => simp [hnone]
  | time hlater => rw [hlater.peers]; exact ⟨hstations, htied⟩
  | builds w im first hlater hphase hscene hbuilt =>
    have hpeers : t.peers = im.peers.map (buildPeer im.slots.length) := congrArg (·.peers) hscene
    rw [hpeers]
    refine ⟨?_, fun r hr => ?_⟩
    · rw [List.map_map]
      have hid : (fun r : PeerRecord => r.station) ∘ buildPeer im.slots.length = id := rfl
      rw [hid, List.map_id]
      exact List.nodup_range.filter _
    · obtain ⟨n, -, rfl⟩ := List.mem_map.mp hr
      exact ⟨rfl, rfl, rfl, by simp [buildPeer]⟩
  | halts w hlater hphase hscene hkept =>
    have hpeers : t.peers = s.peers := (congrArg (·.peers) hscene).trans hlater.peers
    rw [hpeers]
    exact ⟨hstations, htied⟩
  | event c rest w u hpending hlater hevent hpeers _ _ hscene hkept =>
    have hpeers' : t.peers = u.peers := congrArg (·.peers) hscene
    have hw : (w.peers.map (·.station)).Nodup := by rw [hlater.peers]; exact hstations
    refine ⟨by rw [hpeers', hpeers.stations]; exact hw, fun r hr => ?_⟩
    obtain ⟨f, hf, hrecord⟩ := hpeers
    rw [hpeers', hf] at hr
    obtain ⟨r, hmem, rfl⟩ := List.mem_map.mp hr
    exact (hrecord r hmem).recordTied (peer?_of_mem hw hmem) (htied r (by rw [← hlater.peers]; exact hmem))

end Sys2Proof.Machine
end

section
/-! PROOFS. What the event of each command does to the station's own counters: the log, the spike counters, the counters of
the line, the demand number and the mismatch counts. -/

namespace Sys2Proof.Machine

/-! ### The log (R31) -/

theorem appendEntry_length (entries : List LogEntry) (e : LogEntry) : (appendEntry entries e).length ≤ 64 := by
  unfold appendEntry
  split
  · simp only [List.length_append, List.length_cons, List.length_nil]
    omega
  · simp only [List.length_append, List.length_drop, List.length_cons, List.length_nil]
    omega

theorem endPassage_log (ending : Ending) (s : State) :
    (endPassage ending s).log = s.log ∨ ∃ e, (endPassage ending s).log = appendEntry s.log e := by
  cases ending with
  | goesOn | drawnBack => exact .inl rfl
  | completes direction skew rocked =>
    dsimp only [endPassage]
    split
    · exact .inr ⟨_, by simp only [judgeAll_log, declareAll_log]; rfl⟩
    · exact .inr ⟨_, by simp only [count_log]; rfl⟩
  | unresolved rocked => exact .inr ⟨_, by simp only [endPassage, judgeAll_log, declareAll_log]; rfl⟩

theorem followPassage_log (a b : Bool) (w : State) :
    (followPassage a b w).log = w.log ∨ ∃ e, (followPassage a b w).log = appendEntry w.log e := by
  unfold followPassage
  split
  · exact endPassage_log _ _
  · exact .inl rfl

theorem takeVerdict_log (v : Verdict) (s : State) : (takeVerdict v s).log = s.log := by
  obtain ⟨_, h⟩ | ⟨_, _, h⟩ | ⟨_, h⟩ := takeVerdict_cases v s <;> simp [h]

theorem enterSilence_log (s : State) : (enterSilence s).log = s.log := by
  obtain ⟨-, h⟩ | ⟨-, h⟩ := enterSilence_cases s <;> simp [h, enterRun]

theorem judgeQuery_log {kind : Byte} {inRange : Bool} {answer : State → State} {s : State}
    (h : (answer s).log = s.log) : (judgeQuery kind inRange answer s).log = s.log := by
  obtain h' | ⟨-, h'⟩ := judgeQuery_cases kind inRange answer s <;> rw [h']
  · rfl
  · exact h

/-- An event other than a start leaves the log or appends one entry. -/
theorem effect_log (c : Instr) (w : State) : (effect c w).log = w.log ∨ ∃ e, (effect c w).log = appendEntry w.log e := by
  cases c with
  | filteredChange dt a b => exact followPassage_log a b (takeFiltered a b w)
  | configReadEnd =>
    dsimp only [effect]
    split <;> exact .inl rfl
  | lineLoopTest | laneTest =>
    dsimp only [effect]
    split
    · exact .inl rfl
    · exact .inl (enterLockdown_log ..)
  | readBackTest =>
    dsimp only [effect]
    split
    · exact .inl (enterSilence_log w)
    · exact .inl (enterLockdown_log ..)
  | silenceEnd =>
    dsimp only [effect]
    split
    · split <;> exact .inl (by simp)
    · split <;> exact .inl (by simp [enterRun])
  | spike | headFault =>
    dsimp only [effect]
    split <;> exact .inl (by simp)
  | receptionIdle =>
    dsimp only [effect]
    split
    · exact .inl rfl
    · exact .inl (takeVerdict_log ..)
  | countTelegram dt tel order =>
    dsimp only [effect]
    split
    next r _ =>
      obtain h | ⟨-, -, h⟩ := judgeTelegram_cases r tel order w <;> rw [h]
      · exact .inl rfl
      · obtain ⟨_, _, _, _, _, heq⟩ := acceptTelegram_eq r (judgeSequence r tel.sequence) tel order w
        exact .inl (congrArg (·.log) heq)
    next => exact .inl rfl
  | sectionQuery dt parameter =>
    obtain ⟨_, h⟩ := answerSection_eq parameter w
    exact .inl (judgeQuery_log (by rw [h]))
  | peersQuery | logQuery | clearDiag => exact .inl (judgeQuery_log rfl)
  | lineWin fault =>
    obtain ⟨_, _, h⟩ := compareCopies_eq fault { w with line := { w.line with
      transmitter := .driving w.now, driven := frameOf (bodyAtWin w), quietSince := none
      receiver := { w.line.receiver with state := .skipping, badFirst := false } } }
    exact .inl (congrArg (·.log) h)
  | collision =>
    dsimp only [effect]
    split
    · obtain ⟨_, _, _, h⟩ := dropFrame_eq (countCollision (releaseLine w))
      exact .inl (congrArg (·.log) h)
    · exact .inl rfl
  | attemptCompletion | heartbeatExpiry =>
    dsimp only [effect]
    split <;> exact .inl (by simp)
  | peerLost n =>
    obtain ⟨_, h⟩ := peerLost_eq n w
    exact .inl (congrArg (·.log) h)
  | lockdownTelegramTimer | negativeBalance | laneMismatch | halfPeriodTick | tickWatchExpiry =>
    exact .inl (by simp [effect])
  | debouncedLevelChange | confirmSweep | confirmDirect =>
    obtain ⟨_, _, _, _, h⟩ := takeOperatorSample_eq (sampledLevels _ w) w
    exact .inl (congrArg (·.log) h)
  | clockCheckPeriodEnd =>
    dsimp only [effect]
    split
    · exact .inl (enterLockdown_log ..)
    · exact .inl rfl
  | alarmPatternStep =>
    dsimp only [effect]
    split <;> exact .inl rfl
  | _ => exact .inl rfl

/-! ### The spike counters (R3, R4) -/

def Head.spikesInRange (h : Head) : Prop := h.a.spikes ≤ 255 ∧ h.b.spikes ≤ 255

theorem change_spikes (changed : Bool) (c : HeadChannel) : (c.change changed).spikes = c.spikes := by
  unfold HeadChannel.change
  split <;> rfl

theorem spike_spikes {c : HeadChannel} (h : c.spikes ≤ 255) (now : Tick) (time : Word32) (counted : Bool) :
    (c.spike now time counted).spikes ≤ 255 := by
  unfold HeadChannel.spike
  cases counted
  · exact h
  · exact Nat.min_le_left ..

theorem takeSpike_spikes {w : State} (h : w.head.spikesInRange) (c : Channel) : (takeSpike c w).head.spikesInRange := by
  cases c
  · exact ⟨spike_spikes h.1 .., h.2⟩
  · exact ⟨h.1, spike_spikes h.2 ..⟩

theorem failHead_spikes {w : State} (h : w.head.spikesInRange) : (failHead w).head.spikesInRange := by
  unfold failHead
  dsimp only
  split <;> exact h

theorem followPassage_head (a b : Bool) (w : State) : (followPassage a b w).head = w.head := by
  unfold followPassage
  split
  · simp
  · rfl

theorem takeFiltered_spikes {w : State} (h : w.head.spikesInRange) (a b : Bool) : (takeFiltered a b w).head.spikesInRange :=
  ⟨Nat.le_trans (Nat.le_of_eq (change_spikes a w.head.a)) h.1, Nat.le_trans (Nat.le_of_eq (change_spikes b w.head.b)) h.2⟩

theorem takeVerdict_head (v : Verdict) (s : State) : (takeVerdict v s).head = s.head := by
  obtain ⟨_, h⟩ | ⟨_, _, h⟩ | ⟨_, h⟩ := takeVerdict_cases v s <;> simp [h]

theorem enterSilence_head (s : State) : (enterSilence s).head = s.head := by
  obtain ⟨-, h⟩ | ⟨-, h⟩ := enterSilence_cases s <;> simp [h, enterRun]

theorem silenceEnd_head (w : State) : (effect .silenceEnd w).head = w.head := by
  dsimp only [effect]
  split
  · split <;> simp
  · split <;> simp [enterRun]

theorem effect_spikes (c : Instr) {w : State} (h : w.head.spikesInRange) : (effect c w).head.spikesInRange := by
  by_cases htouches : TouchesDetection c
  · cases c <;> try exact htouches.elim
    case powerOn | restart => exact h
    case configReadEnd =>
      dsimp only [effect]
      split <;> exact h
    case lineLoopTest | laneTest =>
      dsimp only [effect]
      split
      · exact h
      · rw [enterLockdown_head]; exact h
    case readBackTest =>
      dsimp only [effect]
      split
      · rw [enterSilence_head]; exact h
      · rw [enterLockdown_head]; exact h
    case silenceEnd => rw [silenceEnd_head]; exact h
    case filteredChange dt a b =>
      dsimp only [effect]
      rw [followPassage_head]
      exact takeFiltered_spikes h a b
    case spike dt c =>
      dsimp only [effect]
      split
      · rw [judgeAll_head, declareAll_head]; exact takeSpike_spikes h c
      · exact takeSpike_spikes h c
    case spikeQuietExpiry c =>
      cases c
      · exact ⟨Nat.zero_le _, h.2⟩
      · exact ⟨h.1, Nat.zero_le _⟩
    case headFault c =>
      dsimp only [effect]
      split
      · exact h
      · rw [judgeAll_head, declareAll_head]; exact failHead_spikes h
    case headRecovery => exact h
    case healthLevelChange dt c high => cases c <;> exact h
    case receptionIdle =>
      dsimp only [effect]
      split
      · exact h
      · rw [endBurst, takeVerdict_head]; exact h
    case laneMismatch => rw [effect, enterLockdown_head]; exact h
    case clockCheckPeriodEnd =>
      dsimp only [effect]
      split
      · rw [enterLockdown_head]; exact h
      · exact h
    case halfPeriodTick read =>
      have hhead : (effect (.halfPeriodTick read) w).head = w.head := by simp [effect]
      rw [hhead]; exact h
    case tickWatchExpiry =>
      have hhead : (effect .tickWatchExpiry w).head = w.head := by simp [effect]
      rw [hhead]; exact h
  · obtain ⟨hhead, -⟩ := effect_keepsDetection htouches w
    rw [hhead]
    exact h

/-! ### The demand number (R135) -/

def Operator.numberInRange (o : Operator) : Prop := 1 ≤ o.demandNumber ∧ o.demandNumber ≤ 15

theorem nextDemandNumber_range {n : Nat} (h : 1 ≤ n ∧ n ≤ 15) : 1 ≤ nextDemandNumber n ∧ nextDemandNumber n ≤ 15 := by
  unfold nextDemandNumber
  split <;> omega

theorem EdgeJudged.number {s t : State} (h : EdgeJudged s t) (hs : s.operator.numberInRange) : t.operator.numberInRange := by
  cases h with
  | nothing | deselects | refuses => exact hs
  | issues => exact nextDemandNumber_range hs

/-! ### The counters of the line (R59, R67) -/

structure Line.CountersInRange (l : Line) : Prop where
  framesGood : l.framesGood ≤ 65535
  framesBad : l.framesBad ≤ 65535
  collisions : l.collisions ≤ 65535
  dropped : l.dropped ≤ 65535
  consecutiveDrops : l.consecutiveDrops ≤ 255

theorem Line.CountersInRange.of_eq {l l' : Line} (h : l.CountersInRange) (hgood : l'.framesGood = l.framesGood)
    (hbad : l'.framesBad = l.framesBad) (hcollisions : l'.collisions = l.collisions) (hdropped : l'.dropped = l.dropped)
    (hdrops : l'.consecutiveDrops = l.consecutiveDrops) : l'.CountersInRange :=
  ⟨hgood ▸ h.framesGood, hbad ▸ h.framesBad, hcollisions ▸ h.collisions, hdropped ▸ h.dropped, hdrops ▸ h.consecutiveDrops⟩

theorem countUp_le (n : Nat) : countUp n ≤ 65535 := Nat.min_le_left ..

/-- What entry to lockdown does to the line: the frames are abandoned, and a line loop test that runs is ended (R69). -/
theorem enterLockdown_line {cause : LockdownCause} {s : State} (h : s.lockdown = false) :
    (enterLockdown cause s).line = (abandonFrames (endLoopTest cause s)).line := by
  have hfirst : ∀ u : State, (firstLockdownTelegram u).line = u.line := by
    intro u
    unfold firstLockdownTelegram
    split <;> simp
  rw [enterLockdown, if_neg (by simp [h])]
  dsimp only
  rw [judgeAll_line, hfirst]
  unfold endLoopTest
  split <;> rfl

/-- The counters of the line, the demand number and the clear pairs stay. -/
structure KeepsCounters (w u : State) : Prop where
  framesGood : u.line.framesGood = w.line.framesGood
  framesBad : u.line.framesBad = w.line.framesBad
  collisions : u.line.collisions = w.line.collisions
  dropped : u.line.dropped = w.line.dropped
  consecutiveDrops : u.line.consecutiveDrops = w.line.consecutiveDrops
  demandNumber : u.operator.demandNumber = w.operator.demandNumber
  pairs : u.outputs.pairs = w.outputs.pairs

theorem KeepsCounters.counters {w u : State} (h : KeepsCounters w u) (hw : w.line.CountersInRange) :
    u.line.CountersInRange :=
  hw.of_eq h.framesGood h.framesBad h.collisions h.dropped h.consecutiveDrops

theorem KeepsCounters.of_eq {w u : State} (hline : u.line = w.line) (hoperator : u.operator = w.operator)
    (houtputs : u.outputs = w.outputs) : KeepsCounters w u := by
  constructor <;> simp only [hline, hoperator, houtputs]

theorem enterLockdown_keepsCounters (cause : LockdownCause) (s : State) : KeepsCounters s (enterLockdown cause s) := by
  cases hlocked : s.lockdown
  · have hline := enterLockdown_line (cause := cause) hlocked
    obtain ⟨_, _, _, hrest⟩ := enterLockdown_eq (cause := cause) hlocked
    have hoperator : (enterLockdown cause s).operator = s.operator := congrArg (·.operator) hrest
    have houtputs : (enterLockdown cause s).outputs = s.outputs := congrArg (·.outputs) hrest
    constructor <;> simp only [hline, hoperator, houtputs]
    all_goals unfold endLoopTest; split <;> rfl
  · rw [enterLockdown_of_lockdown hlocked]
    exact .of_eq rfl rfl rfl

/-! ### What every other command leaves -/

/-- The commands whose event writes a counter of the line, the demand number or a clear pair. -/
def TouchesCounters : Instr → Prop
  | .receptionIdle .. | .clearDiag .. | .collision _ | .attemptCompletion => True
  | .debouncedLevelChange .. | .confirmSweep .. | .confirmDirect .. => True
  | .halfPeriodTick _ | .tickWatchExpiry => True
  | _ => False

theorem followPassage_line (a b : Bool) (w : State) : (followPassage a b w).line = w.line := by
  unfold followPassage
  split
  · simp
  · rfl

theorem followPassage_operator (a b : Bool) (w : State) : (followPassage a b w).operator = w.operator := by
  unfold followPassage
  split
  · simp
  · rfl

theorem followPassage_outputs (a b : Bool) (w : State) : (followPassage a b w).outputs = w.outputs := by
  unfold followPassage
  split
  · simp
  · rfl

theorem enterRun_keepsCounters (s : State) : KeepsCounters s (enterRun s) := by
  obtain ⟨_, h⟩ := enterRun_eq s
  rw [h]
  exact .of_eq rfl rfl rfl

theorem takeReason_keepsCounters {w v : State} (h : KeepsCounters w v) : KeepsCounters w (takeReason v) := by
  obtain ⟨_, h'⟩ := takeReason_eq v
  rw [h']
  exact ⟨h.framesGood, h.framesBad, h.collisions, h.dropped, h.consecutiveDrops, h.demandNumber, h.pairs⟩

theorem enterSilence_keepsCounters (s : State) : KeepsCounters s (enterSilence s) := by
  obtain ⟨-, h⟩ | ⟨-, h⟩ := enterSilence_cases s <;> rw [h]
  · constructor <;> rfl
  · obtain ⟨hgood, hbad, hcollisions, hdropped, hdrops, hnumber, hpairs⟩ := enterRun_keepsCounters { s with
      phase := .silence, selfTest := none, outputs := { s.outputs with tickSince := some s.now, watch := 0 } }
    exact ⟨hgood, hbad, hcollisions, hdropped, hdrops, hnumber, hpairs⟩

theorem judgeQuery_keepsCounters {kind : Byte} {inRange : Bool} {answer : State → State} {s : State}
    (h : KeepsCounters s (answer s)) : KeepsCounters s (judgeQuery kind inRange answer s) := by
  obtain h' | ⟨-, h'⟩ := judgeQuery_cases kind inRange answer s <;> rw [h']
  · constructor <;> rfl
  · exact h

theorem countTelegram_keepsCounters (dt : Nat) (tel : Telegram) (order : TakingOrder) (w : State) :
    KeepsCounters w (effect (.countTelegram dt tel order) w) := by
  dsimp only [effect]
  split
  next r _ =>
    obtain h | ⟨-, -, h⟩ := judgeTelegram_cases r tel order w <;> rw [h]
    · exact .of_eq rfl rfl rfl
    · obtain ⟨_, _, _, _, _, heq⟩ := acceptTelegram_eq r (judgeSequence r tel.sequence) tel order w
      rw [heq]
      constructor <;> rfl
  next => exact .of_eq rfl rfl rfl

theorem silenceEnd_keepsCounters (w : State) : KeepsCounters w (effect .silenceEnd w) := by
  dsimp only [effect]
  split
  · split
    · exact takeReason_keepsCounters (by constructor <;> rfl)
    · exact takeReason_keepsCounters (by constructor <;> rfl)
    · exact .of_eq rfl rfl rfl
  · split
    · obtain ⟨_, h⟩ := enterRun_eq { w with silenceOver := true }
      rw [h]
      exact .of_eq rfl rfl rfl
    · exact .of_eq rfl rfl rfl

/-- A self-test passes, or enters lockdown. -/
theorem selfTest_keepsCounters {w passed : State} {passes : Prop} [Decidable passes] (h : KeepsCounters w passed) :
    KeepsCounters w (if passes then passed else enterLockdown .selfTestFault w) := by
  split
  · exact h
  · exact enterLockdown_keepsCounters _ w

theorem enterLockdown_keepsCounters_of {w v : State} (h : KeepsCounters w v) (cause : LockdownCause) :
    KeepsCounters w (enterLockdown cause v) := by
  obtain ⟨hgood, hbad, hcollisions, hdropped, hdrops, hnumber, hpairs⟩ := enterLockdown_keepsCounters cause v
  exact ⟨hgood.trans h.framesGood, hbad.trans h.framesBad, hcollisions.trans h.collisions, hdropped.trans h.dropped,
    hdrops.trans h.consecutiveDrops, hnumber.trans h.demandNumber, hpairs.trans h.pairs⟩

theorem effect_keepsCounters {c : Instr} (hc : ¬TouchesCounters c) (w : State) : KeepsCounters w (effect c w) := by
  cases c with
  | receptionIdle | clearDiag | collision | attemptCompletion | debouncedLevelChange | confirmSweep | confirmDirect
  | halfPeriodTick | tickWatchExpiry => exact absurd trivial hc
  | filteredChange dt a b =>
    exact .of_eq (followPassage_line ..) (followPassage_operator ..) (followPassage_outputs ..)
  | configReadEnd =>
    dsimp only [effect]
    split <;> exact .of_eq rfl rfl rfl
  | lineLoopTest => exact selfTest_keepsCounters (by constructor <;> rfl)
  | laneTest => exact selfTest_keepsCounters (by constructor <;> rfl)
  | readBackTest => exact selfTest_keepsCounters (enterSilence_keepsCounters w)
  | silenceEnd => exact silenceEnd_keepsCounters w
  | spike | headFault =>
    dsimp only [effect]
    split <;> exact .of_eq (by simp) (by simp) (by simp)
  | countTelegram dt tel order => exact countTelegram_keepsCounters dt tel order w
  | sectionQuery dt parameter =>
    obtain ⟨_, h⟩ := answerSection_eq parameter w
    exact judgeQuery_keepsCounters (by rw [h]; constructor <;> rfl)
  | peersQuery | logQuery => exact judgeQuery_keepsCounters (by constructor <;> rfl)
  | deferral =>
    dsimp only [effect, startBit, Line.defer]
    split <;> constructor <;> rfl
  | lineWin fault =>
    obtain ⟨_, _, h⟩ := compareCopies_eq fault { w with line := { w.line with
      transmitter := .driving w.now, driven := frameOf (bodyAtWin w), quietSince := none
      receiver := { w.line.receiver with state := .skipping, badFirst := false } } }
    dsimp only [effect]
    rw [h]
    constructor <;> rfl
  | heartbeatExpiry =>
    dsimp only [effect]
    split
    · exact takeReason_keepsCounters (by constructor <;> rfl)
    · constructor <;> rfl
  | lockdownTelegramTimer => exact takeReason_keepsCounters (by constructor <;> rfl)
  | peerLost n =>
    obtain ⟨_, h⟩ := peerLost_eq n w
    rw [h]
    constructor <;> rfl
  | negativeBalance i =>
    obtain ⟨_, h⟩ := declareAt_eq .negativeBalance i (w.modifySlot i fun sl => { sl with negativeSince := none })
    dsimp only [effect]
    rw [h]
    constructor <;> rfl
  | laneMismatch item => exact enterLockdown_keepsCounters_of (by constructor <;> rfl) _
  | clockCheckPeriodEnd =>
    dsimp only [effect]
    split
    · exact enterLockdown_keepsCounters_of (by constructor <;> rfl) _
    · constructor <;> rfl
  | alarmPatternStep =>
    dsimp only [effect]
    split <;> constructor <;> rfl
  | _ => constructor <;> rfl

/-! ### The line's counters (R59, R67) -/

theorem takeVerdict_counters {s : State} (h : s.line.CountersInRange) (v : Verdict) :
    (takeVerdict v s).line.CountersInRange := by
  cases v with
  | notJudged => exact h
  | invalid => exact ⟨h.framesGood, countUp_le _, h.collisions, h.dropped, h.consecutiveDrops⟩
  | valid body =>
    obtain ⟨counted, rfl, hreceived⟩ := receiveFrame_cases body s
    have hcounted : Line.CountersInRange { s.line with framesGood := countUp s.line.framesGood } :=
      ⟨countUp_le _, h.framesBad, h.collisions, h.dropped, h.consecutiveDrops⟩
    obtain ⟨-, h'⟩ | ⟨-, -, h'⟩ | ⟨-, frame, -, h'⟩ := hreceived <;>
      rw [show takeVerdict (.valid body) s = receiveFrame body s from rfl, h']
    · exact (enterLockdown_keepsCounters ..).counters hcounted
    · exact hcounted
    · exact hcounted

theorem Line.defer_counters {l : Line} (h : l.CountersInRange) : l.defer.CountersInRange := by
  unfold Line.defer
  split <;> exact h.of_eq rfl rfl rfl rfl rfl

theorem collision_counters {w : State} (h : w.line.CountersInRange) (n : Nat) :
    (effect (.collision n) w).line.CountersInRange := by
  dsimp only [effect]
  split
  · obtain ⟨_, _, _, hdrop⟩ := dropFrame_eq (countCollision (releaseLine w))
    rw [hdrop]
    exact ⟨h.framesGood, h.framesBad, countUp_le _, countUp_le _, Nat.min_le_left ..⟩
  · exact ⟨h.framesGood, h.framesBad, countUp_le _, h.dropped, h.consecutiveDrops⟩

theorem judgeCounts_line_counters {s : State} (h : s.line.CountersInRange) : (judgeCounts s).line.CountersInRange := by
  obtain h' | h' := judgeCounts_cases s <;> rw [h']
  · exact h
  · exact (enterLockdown_keepsCounters ..).counters h

theorem effect_counters (c : Instr) {w : State} (h : w.line.CountersInRange) : (effect c w).line.CountersInRange := by
  by_cases htouches : TouchesCounters c
  · cases c <;> try exact htouches.elim
    case receptionIdle =>
      dsimp only [effect]
      split
      · exact h.of_eq rfl rfl rfl rfl rfl
      · exact takeVerdict_counters ((Line.defer_counters h).of_eq rfl rfl rfl rfl rfl) _
    case clearDiag =>
      have hcleared : (clearCounters w).line.CountersInRange :=
        ⟨Nat.zero_le _, Nat.zero_le _, Nat.zero_le _, Nat.zero_le _, h.consecutiveDrops⟩
      obtain h' | ⟨-, h'⟩ := judgeQuery_cases 5 true (fun w => placeAnswer 5 [] (clearCounters w)) w <;>
        dsimp only [effect] <;> rw [h']
      · exact h.of_eq rfl rfl rfl rfl rfl
      · exact hcleared.of_eq rfl rfl rfl rfl rfl
    case collision n => exact collision_counters h n
    case attemptCompletion =>
      dsimp only [effect]
      split <;> exact ⟨h.framesGood, h.framesBad, h.collisions, h.dropped, Nat.zero_le _⟩
    case debouncedLevelChange | confirmSweep | confirmDirect =>
      obtain ⟨_, _, _, _, h'⟩ := takeOperatorSample_eq (sampledLevels _ w) w
      dsimp only [effect]
      rw [h']
      exact h
    case halfPeriodTick => exact judgeCounts_line_counters h
    case tickWatchExpiry => exact judgeCounts_line_counters h
  · exact (effect_keepsCounters htouches w).counters h

/-! ### The demand number -/

theorem effect_number (c : Instr) {w : State} (h : w.operator.numberInRange) : (effect c w).operator.numberInRange := by
  by_cases htouches : TouchesCounters c
  · cases c <;> try exact htouches.elim
    case debouncedLevelChange | confirmSweep | confirmDirect =>
      exact (takeOperatorSample_judged (sampledLevels _ w) w).number h
    case receptionIdle =>
      dsimp only [effect]
      split
      · exact h
      · obtain ⟨_, h'⟩ | ⟨_, _, h'⟩ | ⟨_, h'⟩ := takeVerdict_cases _ _ <;> dsimp only [endBurst] <;> rw [h']
        · exact h
        · exact h
        · rw [enterLockdown_operator]; exact h
    case clearDiag =>
      obtain h' | ⟨-, h'⟩ := judgeQuery_cases 5 true (fun w => placeAnswer 5 [] (clearCounters w)) w <;>
        dsimp only [effect] <;> rw [h'] <;> exact h
    case collision =>
      dsimp only [effect]
      split
      · obtain ⟨_, _, _, hdrop⟩ := dropFrame_eq (countCollision (releaseLine w))
        rw [hdrop]
        exact h
      · exact h
    case attemptCompletion =>
      dsimp only [effect]
      split <;> exact h
    case halfPeriodTick read =>
      have hkept : (effect (.halfPeriodTick read) w).operator = w.operator := judgeCounts_operator _
      rw [hkept]; exact h
    case tickWatchExpiry =>
      have hkept : (effect .tickWatchExpiry w).operator = w.operator := judgeCounts_operator _
      rw [hkept]; exact h
  · rw [Operator.numberInRange, (effect_keepsCounters htouches w).demandNumber]
    exact h

/-! ### The mismatch counts (R169) -/

def Outputs.MismatchesInRange (o : Outputs) : Prop :=
  ∀ i : Fin 4, o.pairs[i].p.mismatches ≤ 1 ∧ o.pairs[i].q.mismatches ≤ 1

theorem Outputs.MismatchesInRange.of_eq {o o' : Outputs} (h : o.MismatchesInRange) (heq : o'.pairs = o.pairs) :
    o'.MismatchesInRange := fun i => by rw [heq]; exact h i

/-- After the judgement of the counts no count has reached 2. -/
theorem judgeCounts_mismatches (s : State) : (judgeCounts s).outputs.MismatchesInRange := by
  unfold judgeCounts
  split
  · refine Outputs.MismatchesInRange.of_eq (o := { s.outputs with pairs := s.outputs.pairs.map ClearPair.forget })
      (fun i => ?_) (congrArg (·.pairs) (enterLockdown_outputs _ _))
    simp [ClearPair.forget]
  next hfaulty =>
    intro i
    have hpair : ClearPair.faulty s.outputs.pairs[i] = false := by
      refine Classical.byContradiction fun hne => ?_
      exact hfaulty (Vector.any_eq_true.mpr ⟨i, i.isLt, by simpa using hne⟩)
    simp only [ClearPair.faulty, Bool.or_eq_false_iff, decide_eq_false_iff_not] at hpair
    omega

theorem setLevels_mismatches {s : State} (h : s.outputs.MismatchesInRange) : (setLevels s).outputs.MismatchesInRange := by
  intro i
  simp only [setLevels, Fin.getElem_fin, Vector.getElem_ofFn, ClearPair.set, ClearLine.set]
  exact h i

/-- The commands whose event sets or releases the clear pairs. -/
def TouchesPairs : Instr → Prop
  | .halfPeriodTick _ | .tickWatchExpiry => True
  | _ => False

theorem effect_pairs {c : Instr} (hc : ¬TouchesPairs c) (w : State) : (effect c w).outputs.pairs = w.outputs.pairs := by
  by_cases htouches : TouchesCounters c
  · cases c <;> try exact htouches.elim
    case halfPeriodTick | tickWatchExpiry => exact absurd trivial hc
    case debouncedLevelChange | confirmSweep | confirmDirect =>
      obtain ⟨_, _, _, _, h⟩ := takeOperatorSample_eq (sampledLevels _ w) w
      dsimp only [effect]
      rw [h]
    case receptionIdle =>
      dsimp only [effect]
      split
      · rfl
      · obtain ⟨_, h⟩ | ⟨_, _, h⟩ | ⟨_, h⟩ := takeVerdict_cases _ _ <;> dsimp only [endBurst] <;> rw [h]
        rw [enterLockdown_outputs]
    case clearDiag =>
      obtain h | ⟨-, h⟩ := judgeQuery_cases 5 true (fun w => placeAnswer 5 [] (clearCounters w)) w <;>
        dsimp only [effect] <;> rw [h] <;> rfl
    case collision =>
      dsimp only [effect]
      split
      · obtain ⟨_, _, _, h⟩ := dropFrame_eq (countCollision (releaseLine w))
        rw [h]
        rfl
      · rfl
    case attemptCompletion =>
      dsimp only [effect]
      split <;> rfl
  · exact (effect_keepsCounters htouches w).pairs

theorem effect_mismatches (c : Instr) {w : State} (h : w.outputs.MismatchesInRange) :
    (effect c w).outputs.MismatchesInRange := by
  by_cases htouches : TouchesPairs c
  · cases c <;> try exact htouches.elim
    case halfPeriodTick => exact setLevels_mismatches (judgeCounts_mismatches _)
    case tickWatchExpiry => exact judgeCounts_mismatches _
  · exact h.of_eq (effect_pairs htouches w)

end Sys2Proof.Machine
end

section
/-! PROOFS. The ranges of the counters and the ties within the records (O57). -/

namespace Sys2Proof.Machine

theorem PeerEvent.gaps {w : State} {r r' : PeerRecord} (h : PeerEvent w r r') (hr : r ∈ w.peers)
    (hw : ∀ r ∈ w.peers, r.gaps ≤ 65535) : r'.gaps ≤ 65535 := by
  cases h with
  | untouched | stale | lost => exact hw r hr
  | cleared => exact Nat.zero_le _
  | accepted found tel hfound =>
    simp only [PeerRecord.accept]
    split
    · exact Nat.min_le_left ..
    · exact hw found (List.mem_of_find?_eq_some hfound)

theorem step_gaps {s t : State} (h : step s = .next t) (hs : ∀ r ∈ s.peers, r.gaps ≤ 65535) :
    ∀ r ∈ t.peers, r.gaps ≤ 65535 := by
  cases step_slotsStep h with
  | starts _ hnone => simp [hnone]
  | time hlater => rw [hlater.peers]; exact hs
  | builds w im first hlater hphase hscene hbuilt =>
    have hpeers : t.peers = im.peers.map (buildPeer im.slots.length) := congrArg (·.peers) hscene
    rw [hpeers]
    intro r hr
    obtain ⟨n, -, rfl⟩ := List.mem_map.mp hr
    exact Nat.zero_le _
  | halts w hlater hphase hscene hkept =>
    have hpeers : t.peers = s.peers := (congrArg (·.peers) hscene).trans hlater.peers
    rw [hpeers]
    exact hs
  | event c rest w u hpending hlater hevent hpeers _ _ hscene hkept =>
    have hpeers' : t.peers = u.peers := congrArg (·.peers) hscene
    have hw : ∀ r ∈ w.peers, r.gaps ≤ 65535 := by rw [hlater.peers]; exact hs
    obtain ⟨f, hf, hrecord⟩ := hpeers
    rw [hpeers', hf]
    intro r hr
    obtain ⟨r, hmem, rfl⟩ := List.mem_map.mp hr
    exact (hrecord r hmem).gaps hmem hw

/-- The counters that the station keeps for itself are in their ranges. -/
structure OwnInRange (s : State) : Prop where
  log : s.log.length ≤ 64
  spikes : s.head.spikesInRange
  counters : s.line.CountersInRange
  demandNumber : s.operator.numberInRange
  mismatches : s.outputs.MismatchesInRange

theorem OwnInRange.of_eq {s t : State} (h : OwnInRange s) (hlog : t.log = s.log) (hhead : t.head = s.head)
    (hline : t.line = s.line) (hoperator : t.operator = s.operator) (houtputs : t.outputs = s.outputs) : OwnInRange t :=
  ⟨hlog ▸ h.log, hhead ▸ h.spikes, hline ▸ h.counters, hoperator ▸ h.demandNumber, houtputs ▸ h.mismatches⟩

theorem OwnInRange.effect {w : State} (h : OwnInRange w) (c : Instr) : OwnInRange (effect c w) := by
  refine ⟨?_, effect_spikes c h.spikes, effect_counters c h.counters, effect_number c h.demandNumber,
    effect_mismatches c h.mismatches⟩
  obtain hlog | ⟨e, hlog⟩ := effect_log c w <;> rw [hlog]
  · exact h.log
  · exact appendEntry_length ..

theorem OwnInRange.ends {u t : State} (h : OwnInRange u) (hends : Ends u t) : OwnInRange t := by
  rw [hends.rest]
  exact ⟨h.log, h.spikes, h.counters.of_eq rfl rfl rfl rfl rfl, h.demandNumber, h.mismatches.of_eq rfl⟩

theorem OwnInRange.reach {s : State} (h : OwnInRange s) (c : Instr) (x : Tick) : OwnInRange ((s.unhand c).reach x) := by
  obtain ⟨handed, hunhand⟩ := State.unhand_eq c s
  obtain ⟨_, _, _, hreach⟩ := reach_eq (s.unhand c) x
  rw [hreach, hunhand]
  exact h.of_eq rfl rfl rfl rfl rfl

theorem OwnInRange.idles {s t : State} (h : OwnInRange s) (hidles : Idles s t) : OwnInRange t := by
  cases hidles with
  | raises => exact h.of_eq rfl rfl rfl rfl rfl
  | ticks => exact h.of_eq rfl rfl rfl rfl rfl
  | samples pending freeUses runA runB restartFrom runs sampled hsampled =>
    obtain ⟨_, _, hnote⟩ := noteRuns_eq s sampled
    rw [hnote, hsampled]
    exact ⟨h.log, h.spikes, h.counters, h.demandNumber, h.mismatches⟩

theorem ownInRange_reset : OwnInRange State.reset :=
  ⟨Nat.zero_le _, ⟨Nat.zero_le _, Nat.zero_le _⟩,
    ⟨Nat.zero_le _, Nat.zero_le _, Nat.zero_le _, Nat.zero_le _, Nat.zero_le _⟩, ⟨Nat.le_refl 1, by decide⟩,
    fun i => by simp [State.reset, Outputs.start]⟩

theorem step_ownInRange {s t : State} (h : step s = .next t) (hs : OwnInRange s) : OwnInRange t := by
  refine step_keeps h (fun rest hs => hs.of_eq rfl rfl rfl rfl rfl) ?_ (fun c x rest hs => ?_)
    (fun c x rest _ hw => (hw.effect c).ends (finish_ends ..)) (fun u hidles hs => hs.idles hidles) hs
  · intro held reading log record pins freeUses pending hlog
    refine ⟨?_, ownInRange_reset.spikes, ownInRange_reset.counters, ownInRange_reset.demandNumber, ownInRange_reset.mismatches⟩
    obtain rfl | rfl := hlog
    · exact Nat.zero_le _
    · exact appendEntry_length ..
  · exact OwnInRange.reach (s := { s with pending := rest }) (hs.of_eq rfl rfl rfl rfl rfl) c x

theorem inRange_iff {s : State} : InRange s ↔
    OwnInRange s ∧ (∀ r ∈ s.peers, r.gaps ≤ 65535) ∧ ∀ sl ∈ s.slots, sl.countersInRange := by
  constructor
  · rintro ⟨hlog, hspikes, ⟨hgood, hbad, hcollisions, hdropped, hdrops⟩, hgaps, hnumber, hslots, hmismatches⟩
    exact ⟨⟨hlog, hspikes, ⟨hgood, hbad, hcollisions, hdropped, hdrops⟩, hnumber, hmismatches⟩, hgaps, hslots⟩
  · rintro ⟨⟨hlog, hspikes, ⟨hgood, hbad, hcollisions, hdropped, hdrops⟩, hnumber, hmismatches⟩, hgaps, hslots⟩
    exact ⟨hlog, hspikes, ⟨hgood, hbad, hcollisions, hdropped, hdrops⟩, hgaps, hnumber, hslots, hmismatches⟩

theorem step_inRange {s t : State} (hs : InRange s) (h : step s = .next t) : InRange t := by
  rw [inRange_iff] at hs ⊢
  obtain ⟨hown, hgaps, hslots⟩ := hs
  exact ⟨step_ownInRange h hown, step_gaps h hgaps,
    step_keeps_slots h (fun _ _ _ _ => ⟨by simp [buildSlot, DisturbanceRecord.atBuild], by simp [buildSlot, SlotReset.atBuild]⟩)
      (fun c w u i sl sl' h => h.counters) hslots⟩

end Sys2Proof.Machine

namespace Sys2Proof.Proofs
open Sys2Proof.Machine

/-- Settles O57: every counter saturates, wraps or is judged where it is raised; and each way in which an event changes a
slot or a peer record keeps what ties its state to its fields. -/
theorem recordsStaySound : Obligations.RecordsStaySound :=
  ⟨fun _ _ => step_inRange, fun _ _ => step_resetSound, fun _ _ => step_peersSound⟩

end Sys2Proof.Proofs
end

section
/-! PROOFS. The line in every step (O55): what an event does to the frame in service and to the frames handed on. -/

namespace Sys2Proof.Machine

/-! ### What is allowed -/

theorem mayServe_eq {s t : State} (hphase : t.phase = s.phase) (hlockdown : t.lockdown = s.lockdown)
    (hconnected : t.line.connected = s.line.connected) (hnow : t.now = s.now) : t.mayServe = s.mayServe := by
  simp only [State.mayServe, hphase, hlockdown, hconnected, hnow]

/-- Time that passes takes nothing of what may be sent. -/
theorem mayServe_later {s t : State} (hphase : t.phase = s.phase) (hlockdown : t.lockdown = s.lockdown)
    (hconnected : t.line.connected = s.line.connected) (hnow : s.now ≤ t.now) (h : s.mayServe = true) :
    t.mayServe = true := by
  have hdue : (s.lockdown && s.line.connected && decide (silenceTicks ≤ s.now)) = true →
      (s.lockdown && s.line.connected && decide (silenceTicks ≤ t.now)) = true := by
    simp only [Bool.and_eq_true, decide_eq_true_eq]
    exact fun h => ⟨h.1, Nat.le_trans h.2 hnow⟩
  unfold State.mayServe at h ⊢
  rw [hphase, hlockdown, hconnected]
  cases hp : s.phase <;> rw [hp] at h
  case selfTest | silence => exact hdue h
  all_goals exact h

theorem mayServe_of_run {s : State} (h : s.phase = .run) : s.mayServe = true := by simp [State.mayServe, h]

theorem not_mayServe_of_configRead {s : State} (h : s.phase = .configRead) : s.mayServe = false := by
  simp [State.mayServe, h]

theorem not_mayServe_of_selfTest {s : State} (h : s.phase = .selfTest) (hunlocked : s.lockdown = false) :
    s.mayServe = false := by
  simp [State.mayServe, h, hunlocked]

/-! ### What an event does to the frame in service -/

/-- An event leaves the frame in service, with its filled slot, or ends its service. -/
inductive LineEvent (w u : State) : Prop where
  | kept : u.line.service = w.line.service → u.line.telegramSlot = w.line.telegramSlot →
      (w.line.answerSlot ≠ none → u.line.answerSlot ≠ none) →
      (u.line.transmitter = .noService ↔ w.line.transmitter = .noService) → w.line.attempt ≤ u.line.attempt →
      (w.line.attempt < 8 → u.line.attempt < 8) → (w.mayServe = true → u.mayServe = true) → u.lockdown = w.lockdown →
      LineEvent w u
  | ended : u.line.service = none → u.line.transmitter = .noService → u.line.attempt = 0 → LineEvent w u

/-- The line, the frames handed on and what decides what may be sent stay. -/
structure KeepsLine (w u : State) : Prop where
  line : u.line = w.line
  phase : u.phase = w.phase
  lockdown : u.lockdown = w.lockdown
  now : u.now = w.now
  handed : u.handed = w.handed

theorem KeepsLine.lineEvent {w u : State} (h : KeepsLine w u) : LineEvent w u :=
  .kept (by rw [h.line]) (by rw [h.line]) (by rw [h.line]; exact id) (by rw [h.line]) (Nat.le_of_eq (by rw [h.line]))
    (by rw [h.line]; exact id)
    (by rw [mayServe_eq h.phase h.lockdown (by rw [h.line]) h.now]; exact id) h.lockdown

/-- The commands whose event writes the line, the frames handed on, the phase or lockdown. -/
def TouchesLine : Instr → Prop
  | .configReadEnd .. | .lineLoopTest .. | .laneTest _ | .readBackTest _ | .silenceEnd => True
  | .receptionIdle .. | .lineIdle | .deferral _ | .lineWin _ | .collision _ | .attemptCompletion => True
  | .statusQuery .. | .sectionQuery .. | .peersQuery .. | .logQuery .. | .clearDiag .. | .queryOfUnknownKind .. => True
  | .laneMismatch _ | .clockCheckPeriodEnd _ | .halfPeriodTick _ | .tickWatchExpiry => True
  | _ => False

theorem takeReason_keepsLine {w v : State} (h : KeepsLine w v) : KeepsLine w (takeReason v) := by
  obtain ⟨_, h'⟩ := takeReason_eq v
  rw [h']
  exact ⟨h.line, h.phase, h.lockdown, h.now, h.handed⟩

theorem followPassage_keepsLine (a b : Bool) (w : State) : KeepsLine w (followPassage a b w) := by
  unfold followPassage
  split
  · constructor <;> simp
  · exact ⟨rfl, rfl, rfl, rfl, rfl⟩

theorem countTelegram_keepsLine (dt : Nat) (tel : Telegram) (order : TakingOrder) (w : State) :
    KeepsLine w (effect (.countTelegram dt tel order) w) := by
  dsimp only [effect]
  split
  next r _ =>
    obtain h | ⟨-, -, h⟩ := judgeTelegram_cases r tel order w <;> rw [h]
    · constructor <;> rfl
    · obtain ⟨_, _, _, _, _, heq⟩ := acceptTelegram_eq r (judgeSequence r tel.sequence) tel order w
      rw [heq]
      constructor <;> rfl
  next => constructor <;> rfl

theorem effect_keepsLine {c : Instr} (hc : ¬TouchesLine c) (w : State) : KeepsLine w (effect c w) := by
  cases c with
  | configReadEnd | lineLoopTest | laneTest | readBackTest | silenceEnd | receptionIdle | lineIdle | deferral | lineWin
  | collision | attemptCompletion | statusQuery | sectionQuery | peersQuery | logQuery | clearDiag | queryOfUnknownKind
  | laneMismatch | clockCheckPeriodEnd | halfPeriodTick | tickWatchExpiry => exact absurd trivial hc
  | filteredChange dt a b =>
    obtain ⟨hline, hphase, hlockdown, hnow, hhanded⟩ := followPassage_keepsLine a b (takeFiltered a b w)
    exact ⟨hline, hphase, hlockdown, hnow, hhanded⟩
  | spike | headFault =>
    dsimp only [effect]
    split <;> constructor <;> simp
  | countTelegram dt tel order => exact countTelegram_keepsLine dt tel order w
  | heartbeatExpiry =>
    dsimp only [effect]
    split
    · exact takeReason_keepsLine (by constructor <;> rfl)
    · constructor <;> rfl
  | lockdownTelegramTimer => exact takeReason_keepsLine (by constructor <;> rfl)
  | peerLost n =>
    obtain ⟨_, h⟩ := peerLost_eq n w
    rw [h]
    constructor <;> rfl
  | negativeBalance i =>
    obtain ⟨_, h⟩ := declareAt_eq .negativeBalance i (w.modifySlot i fun sl => { sl with negativeSince := none })
    dsimp only [effect]
    rw [h]
    constructor <;> rfl
  | debouncedLevelChange | confirmSweep | confirmDirect =>
    obtain ⟨_, _, _, _, h⟩ := takeOperatorSample_eq (sampledLevels _ w) w
    dsimp only [effect]
    rw [h]
    constructor <;> rfl
  | alarmPatternStep =>
    dsimp only [effect]
    split <;> constructor <;> rfl
  | _ => constructor <;> rfl

/-! ### The commands that write the line -/

/-- Entry to lockdown ends the service of a frame; while lockdown stands it leaves all as it is. -/
theorem LineEvent.of_lockdown {w v : State} (h : LineEvent w v) (cause : LockdownCause) :
    LineEvent w (enterLockdown cause v) := by
  cases hlocked : v.lockdown
  · refine .ended ?_ ?_ ?_ <;> rw [enterLockdown_line hlocked] <;> rfl
  · rw [enterLockdown_of_lockdown hlocked]
    exact h

theorem LineEvent.of_keepsLine {w u t : State} (h : LineEvent w u) (hkeeps : KeepsLine u t) : LineEvent w t := by
  cases h with
  | kept hservice hslot hanswer htransmitter hattempt hlimit hserve hlockdown =>
    exact .kept (by rw [hkeeps.line]; exact hservice) (by rw [hkeeps.line]; exact hslot)
      (by rw [hkeeps.line]; exact hanswer) (by rw [hkeeps.line]; exact htransmitter) (by rw [hkeeps.line]; exact hattempt)
      (by rw [hkeeps.line]; exact hlimit)
      (by rw [mayServe_eq hkeeps.phase hkeeps.lockdown (by rw [hkeeps.line]) hkeeps.now]; exact hserve)
      (hkeeps.lockdown.trans hlockdown)
  | ended hservice htransmitter hattempt =>
    exact .ended (by rw [hkeeps.line]; exact hservice) (by rw [hkeeps.line]; exact htransmitter)
      (by rw [hkeeps.line]; exact hattempt)

theorem LineEvent.of_judgeCounts {w v : State} (h : KeepsLine w v) : LineEvent w (judgeCounts v) := by
  obtain h' | h' := judgeCounts_cases v <;> rw [h']
  · exact h.lineEvent
  · refine LineEvent.of_lockdown (KeepsLine.lineEvent ?_) _
    exact ⟨h.line, h.phase, h.lockdown, h.now, h.handed⟩

theorem LineEvent.of_setLevels {w v : State} (h : LineEvent w v) : LineEvent w (setLevels v) :=
  h.of_keepsLine (by constructor <;> rfl)

/-- A query places an answer and leaves the frame in service. -/
structure Answered (w u : State) : Prop where
  service : u.line.service = w.line.service
  telegramSlot : u.line.telegramSlot = w.line.telegramSlot
  answerSlot : u.line.answerSlot ≠ none
  transmitter : u.line.transmitter = w.line.transmitter
  attempt : u.line.attempt = w.line.attempt
  connected : u.line.connected = w.line.connected
  phase : u.phase = w.phase
  lockdown : u.lockdown = w.lockdown
  now : u.now = w.now
  handed : u.handed = w.handed

theorem Answered.lineEvent {w u : State} (h : Answered w u) : LineEvent w u :=
  .kept h.service h.telegramSlot (fun _ => h.answerSlot) (by rw [h.transmitter])
    (Nat.le_of_eq h.attempt.symm) (fun hw => h.attempt ▸ hw) (fun hw => (mayServe_eq h.phase h.lockdown h.connected h.now).trans hw) h.lockdown

theorem placeAnswer_answered (w : State) (code : Byte) (data : List Byte) : Answered w (placeAnswer code data w) := by
  constructor
  case answerSlot => exact Option.some_ne_none _
  all_goals rfl

theorem judgeQuery_answered {kind : Byte} {inRange : Bool} {answer : State → State} {w : State}
    (h : Answered w (answer w)) : Answered w (judgeQuery kind inRange answer w) := by
  obtain h' | ⟨-, h'⟩ := judgeQuery_cases kind inRange answer w <;> rw [h']
  · exact placeAnswer_answered ..
  · exact h

theorem answerSection_answered (parameter : Byte) (w : State) : Answered w (answerSection parameter w) := by
  unfold answerSection
  split
  · exact placeAnswer_answered ..
  · exact placeAnswer_answered ..

/-- The queries. -/
def IsQuery : Instr → Prop
  | .statusQuery .. | .sectionQuery .. | .peersQuery .. | .logQuery .. | .clearDiag .. | .queryOfUnknownKind .. => True
  | _ => False

theorem effect_answered {c : Instr} (hc : IsQuery c) (w : State) : Answered w (effect c w) := by
  cases c <;> try exact hc.elim
  case statusQuery => exact placeAnswer_answered ..
  case sectionQuery => exact judgeQuery_answered (answerSection_answered ..)
  case peersQuery dt parameter =>
    obtain ⟨h1, h2, h3, h4, h5, h6, h7, h8, h9, h10⟩ := placeAnswer_answered w 3 (peersData w parameter.toNat)
    exact judgeQuery_answered ⟨h1, h2, h3, h4, h5, h6, h7, h8, h9, h10⟩
  case logQuery => exact judgeQuery_answered (placeAnswer_answered ..)
  case clearDiag =>
    obtain ⟨h1, h2, h3, h4, h5, h6, h7, h8, h9, h10⟩ := placeAnswer_answered (clearCounters w) 5 []
    exact judgeQuery_answered (answer := fun w => placeAnswer 5 [] (clearCounters w))
      ⟨h1, h2, h3, h4, h5, h6, h7, h8, h9, h10⟩
  case queryOfUnknownKind => exact placeAnswer_answered ..

theorem Line.defer_kept (l : Line) : l.defer.service = l.service ∧ l.defer.telegramSlot = l.telegramSlot ∧
    l.defer.answerSlot = l.answerSlot ∧ (l.defer.transmitter = .noService ↔ l.transmitter = .noService) ∧
    l.defer.attempt = l.attempt ∧ l.defer.connected = l.connected := by
  unfold Line.defer
  split
  next h => simp [h]
  next => simp

/-- A start bit and the end of a burst defer the frame in service and leave it there. -/
theorem LineEvent.of_defer {w u : State}
    (hdefer : u.line.service = w.line.defer.service ∧ u.line.telegramSlot = w.line.defer.telegramSlot ∧
      u.line.answerSlot = w.line.defer.answerSlot ∧ u.line.transmitter = w.line.defer.transmitter ∧
      u.line.attempt = w.line.defer.attempt ∧ u.line.connected = w.line.defer.connected)
    (hphase : u.phase = w.phase) (hlockdown : u.lockdown = w.lockdown) (hnow : u.now = w.now) : LineEvent w u := by
  obtain ⟨hservice, hslot, hanswer, htransmitter, hattempt, hconnected⟩ := hdefer
  obtain ⟨hservice', hslot', hanswer', htransmitter', hattempt', hconnected'⟩ := w.line.defer_kept
  refine .kept (hservice.trans hservice') (hslot.trans hslot') ?_ ?_ (Nat.le_of_eq (hattempt.trans hattempt').symm)
    (fun h => hattempt.trans hattempt' ▸ h)
    (fun h => (mayServe_eq hphase hlockdown (hconnected.trans hconnected') hnow).trans h) hlockdown
  · rw [hanswer, hanswer']; exact id
  · rw [htransmitter]; exact htransmitter'

theorem takeVerdict_lineEvent {w v : State} (h : LineEvent w v) (verdict : Verdict) :
    LineEvent w (takeVerdict verdict v) := by
  obtain ⟨_, h'⟩ | ⟨_, _, h'⟩ | ⟨good, h'⟩ := takeVerdict_cases verdict v <;> rw [h']
  · cases h with
    | kept h1 h2 h3 h4 h5 h6 h7 h8 => exact .kept h1 h2 h3 h4 h5 h6 h7 h8
    | ended h1 h2 h3 => exact .ended h1 h2 h3
  · cases h with
    | kept h1 h2 h3 h4 h5 h6 h7 h8 => exact .kept h1 h2 h3 h4 h5 h6 h7 h8
    | ended h1 h2 h3 => exact .ended h1 h2 h3
  · refine LineEvent.of_lockdown ?_ _
    cases h with
    | kept h1 h2 h3 h4 h5 h6 h7 h8 => exact .kept h1 h2 h3 h4 h5 h6 h7 h8
    | ended h1 h2 h3 => exact .ended h1 h2 h3

theorem receptionIdle_lineEvent (dt : Nat) (burst : List LineChar) (w : State) :
    LineEvent w (effect (.receptionIdle dt burst) w) := by
  dsimp only [effect]
  split
  · exact .kept rfl rfl id Iff.rfl (Nat.le_refl _) id (fun h => h) rfl
  · refine takeVerdict_lineEvent ?_ _
    exact .of_defer ⟨rfl, rfl, rfl, rfl, rfl, rfl⟩ rfl rfl rfl

theorem collision_lineEvent (n : Nat) {w : State} (hdriving : w.line.transmitter ≠ .noService) :
    LineEvent w (effect (.collision n) w) := by
  dsimp only [effect]
  split
  next =>
    obtain ⟨_, _, _, hdrop⟩ := dropFrame_eq (countCollision (releaseLine w))
    rw [hdrop]
    exact .ended rfl rfl rfl
  next hlimit =>
    have hattempt : w.line.attempt + 1 < 8 := Nat.lt_of_not_le hlimit
    exact .kept rfl rfl id ⟨fun h => absurd h (by simp [countCollision]), fun h => absurd h hdriving⟩ (Nat.le_succ _) (fun _ => hattempt)
      (fun h => h) rfl

theorem readBackDue_driving {s : State} {n : Nat} {x : Tick} (h : readBackDue s n = some x) :
    ∃ since, s.line.transmitter = .driving since := by
  unfold readBackDue at h
  split at h
  · exact ⟨_, by assumption⟩
  · cases h

theorem lineWinDue_waits {s : State} {x : Tick} (h : lineWinDue s = some x) :
    ∃ since, s.line.transmitter = .slotDelay since := by
  unfold lineWinDue at h
  split at h
  · exact ⟨_, by assumption⟩
  · cases h

theorem lineIdleDue_waits {s : State} {x : Tick} (h : lineIdleDue s = some x) :
    s.line.connected = true ∧ s.line.transmitter = .awaitIdle := by
  unfold lineIdleDue at h
  split at h
  · assumption
  · cases h

theorem inLoopTest_phase {s : State} (h : s.inLoopTest = true) : s.phase = .selfTest ∧ s.lockdown = false := by
  simp only [State.inLoopTest, Bool.and_eq_true, beq_iff_eq, Bool.not_eq_true'] at h
  exact ⟨h.1.2, h.2⟩

theorem readBackTestDue_phase {s : State} {x : Tick} (h : readBackTestDue s = some x) :
    s.phase = .selfTest ∧ s.lockdown = false := by
  unfold readBackTestDue at h
  split at h
  next hruns => exact hruns.2
  next => cases h

/-- Entry to a start phase that serves more than the one before, with the line as it stood. -/
theorem LineEvent.of_phase {w u : State} (hline : u.line.service = w.line.service ∧
      u.line.telegramSlot = w.line.telegramSlot ∧ u.line.answerSlot = w.line.answerSlot ∧
      u.line.transmitter = w.line.transmitter ∧ u.line.attempt = w.line.attempt)
    (hserve : w.mayServe = true → u.mayServe = true) (hlockdown : u.lockdown = w.lockdown) : LineEvent w u := by
  obtain ⟨hservice, hslot, hanswer, htransmitter, hattempt⟩ := hline
  exact .kept hservice hslot (by rw [hanswer]; exact id) (by rw [htransmitter])
    (Nat.le_of_eq hattempt.symm) (fun h => hattempt ▸ h) hserve hlockdown

theorem enterRun_line (s : State) : (enterRun s).line = s.line := by
  obtain ⟨_, h⟩ := enterRun_eq s
  rw [h]
  rfl

theorem enterSilence_line (s : State) : (enterSilence s).line = s.line := by
  obtain ⟨-, h⟩ | ⟨-, h⟩ := enterSilence_cases s <;> rw [h]
  exact enterRun_line _

theorem enterSilence_lockdown (s : State) : (enterSilence s).lockdown = s.lockdown := by
  obtain ⟨-, h⟩ | ⟨-, h⟩ := enterSilence_cases s <;> rw [h]
  obtain ⟨_, h⟩ := enterRun_eq { s with
    phase := .silence, selfTest := none, outputs := { s.outputs with tickSince := some s.now, watch := 0 } }
  rw [h]
  rfl

theorem selfTest_lineEvent {w passed : State} {passes : Prop} [Decidable passes] (h : LineEvent w passed) :
    LineEvent w (if passes then passed else enterLockdown .selfTestFault w) := by
  split
  · exact h
  · exact LineEvent.of_lockdown (KeepsLine.lineEvent ⟨rfl, rfl, rfl, rfl, rfl⟩) _

theorem silenceEnd_lineEvent (w : State) : LineEvent w (effect .silenceEnd w) := by
  dsimp only [effect]
  split
  · split
    · exact (takeReason_keepsLine (by constructor <;> rfl)).lineEvent
    · exact (takeReason_keepsLine (by constructor <;> rfl)).lineEvent
    · exact KeepsLine.lineEvent (by constructor <;> rfl)
  · split
    · obtain ⟨_, h⟩ := enterRun_eq { w with silenceOver := true }
      rw [h]
      exact .of_phase ⟨rfl, rfl, rfl, rfl, rfl⟩ (fun _ => rfl) rfl
    · exact KeepsLine.lineEvent (by constructor <;> rfl)

/-- What an event does to the frame in service. -/
theorem effect_lineEvent {c : Instr} {s w : State} {x : Tick} (h : Arises c s x) (hline : w.line = s.line)
    (hphase : w.phase = s.phase) (hlockdown : w.lockdown = s.lockdown) : LineEvent w (effect c w) := by
  by_cases hquery : IsQuery c
  · exact (effect_answered hquery w).lineEvent
  by_cases htouches : TouchesLine c
  · cases c <;> try first | exact htouches.elim | exact absurd trivial hquery
    case configReadEnd =>
      have hread : w.phase = .configRead := hphase.trans h.2.1
      dsimp only [effect]
      split <;> exact .of_phase ⟨rfl, rfl, rfl, rfl, rfl⟩ (by simp [not_mayServe_of_configRead hread]) rfl
    case lineLoopTest =>
      obtain ⟨hphase', hunlocked⟩ := inLoopTest_phase h
      refine selfTest_lineEvent (.of_phase ⟨rfl, rfl, rfl, rfl, rfl⟩ ?_ rfl)
      simp [not_mayServe_of_selfTest (hphase.trans hphase') (hlockdown.trans hunlocked)]
    case laneTest => exact selfTest_lineEvent (KeepsLine.lineEvent (by constructor <;> rfl))
    case readBackTest =>
      obtain ⟨hphase', hunlocked⟩ := readBackTestDue_phase h
      refine selfTest_lineEvent (.of_phase ?_ ?_ (enterSilence_lockdown w))
      · rw [enterSilence_line]; exact ⟨rfl, rfl, rfl, rfl, rfl⟩
      · simp [not_mayServe_of_selfTest (hphase.trans hphase') (hlockdown.trans hunlocked)]
    case silenceEnd => exact silenceEnd_lineEvent w
    case receptionIdle => exact receptionIdle_lineEvent ..
    case lineIdle =>
      have hwaits := (lineIdleDue_waits h).2
      rw [← hline] at hwaits
      exact .kept rfl rfl id ⟨fun h => absurd h (by simp [effect]), fun h => absurd h (by simp [hwaits])⟩ (Nat.le_refl _) id
        (fun h => h) rfl
    case deferral => exact .of_defer ⟨rfl, rfl, rfl, rfl, rfl, rfl⟩ rfl rfl rfl
    case lineWin fault =>
      obtain ⟨since, hwaits⟩ := lineWinDue_waits h
      rw [← hline] at hwaits
      obtain ⟨_, _, h'⟩ := compareCopies_eq fault { w with line := { w.line with
        transmitter := .driving w.now, driven := frameOf (bodyAtWin w), quietSince := none
        receiver := { w.line.receiver with state := .skipping, badFirst := false } } }
      dsimp only [effect]
      rw [h']
      exact .kept rfl rfl id ⟨fun h => absurd h (by simp), fun h => absurd h (by simp [hwaits])⟩ (Nat.le_refl _) id (fun h => h) rfl
    case collision n =>
      obtain ⟨since, hdriving⟩ := readBackDue_driving h
      exact collision_lineEvent n (by simp [hline, hdriving])
    case attemptCompletion =>
      dsimp only [effect]
      split <;> exact .ended rfl rfl rfl
    case laneMismatch => exact LineEvent.of_lockdown (KeepsLine.lineEvent (by constructor <;> rfl)) _
    case clockCheckPeriodEnd =>
      dsimp only [effect]
      split
      · exact LineEvent.of_lockdown (KeepsLine.lineEvent (by constructor <;> rfl)) _
      · exact KeepsLine.lineEvent (by constructor <;> rfl)
    case halfPeriodTick =>
      exact LineEvent.of_setLevels (LineEvent.of_judgeCounts (by constructor <;> rfl))
    case tickWatchExpiry => exact LineEvent.of_judgeCounts (by constructor <;> rfl)
  · exact (effect_keepsLine htouches w).lineEvent

end Sys2Proof.Machine
end

section
/-! PROOFS. The frame in service after every step, and how one is taken up (O55, first part). -/

namespace Sys2Proof.Machine

theorem unhand_reach_eq (c : Instr) (x : Tick) (rest : List Instr) (s : State) : ∃ handed lanes,
    (State.unhand c { s with pending := rest }).reach x =
      { s with pending := rest, handed := handed, now := max s.now x, lanes := lanes } := by
  obtain ⟨handed, hunhand⟩ := State.unhand_eq c { s with pending := rest }
  obtain ⟨_, _, _, hreach⟩ := reach_eq (State.unhand c { s with pending := rest }) x
  rw [hreach, hunhand]
  exact ⟨_, _, rfl⟩

/-! ### The end of an event -/

theorem finish_eq (b u : State) : ∃ outputs lanes,
    finish b u = { serve (fillSlot (noteChange b u)) with outputs := outputs, lanes := lanes } := ⟨_, _, rfl⟩

/-- What the end of an event needs of the line, to leave a frame in service as it should be. -/
structure AccessReady (s : State) : Prop where
  working : s.line.service = none ↔ s.line.transmitter = .noService
  telegram : s.line.service = some .telegram → s.line.telegramSlot = true
  answer : s.line.service = some .answer → s.line.answerSlot ≠ none
  allowed : s.line.service ≠ none → s.mayServe = true
  attempts : s.line.attempt < 8

theorem AccessSound.ready {s : State} (h : AccessSound s) : AccessReady s :=
  ⟨h.working, h.telegram, h.answer, h.allowed, h.attempts⟩

theorem nextService_some {l : Line} {frame : Service} (h : l.nextService = some frame) :
    frame = (if l.telegramSlot then .telegram else .answer) ∧ (l.telegramSlot = false → l.answerSlot ≠ none) := by
  unfold Line.nextService at h
  split at h
  next hslot => cases h; simp [hslot]
  next hslot =>
    split at h
    next hanswer => cases h; exact ⟨by simp [hslot], fun _ => Option.isSome_iff_ne_none.mp hanswer⟩
    next => cases h

theorem nextService_none {l : Line} (h : l.nextService = none) : l.telegramSlot = false ∧ l.answerSlot = none := by
  unfold Line.nextService at h
  split at h
  · cases h
  next hslot =>
    split at h
    · cases h
    next hanswer => exact ⟨by simpa using hslot, by simpa using hanswer⟩

theorem nextTransmitter_working (p : Prop) [Decidable p] (now : Tick) :
    (if p then Transmitter.slotDelay now else .awaitIdle) ≠ .noService := by
  split <;> simp

theorem serve_accessSound {v : State} (h : AccessReady v)
    (hrequest : v.builder.request = true → v.line.telegramSlot = false → v.builder.spacingSince ≠ none) :
    AccessSound (serve v) := by
  unfold serve
  split
  next hfree =>
    split
    next frame hnext =>
      obtain ⟨hframe, hanswer⟩ := nextService_some hnext
      refine ⟨hrequest, ⟨fun h => (by cases h), fun h => absurd h (nextTransmitter_working _ _)⟩, ?_, ?_, fun _ => hfree.2,
        fun h => (by cases h), Nat.zero_lt_succ _⟩
      · intro hservice
        refine Classical.byContradiction fun hslot => ?_
        simp_all
      · intro hservice
        exact hanswer (by refine Classical.byContradiction fun hslot => ?_; simp_all)
    next hnext =>
      exact ⟨hrequest, h.working, h.telegram, h.answer, h.allowed, fun _ _ => nextService_none hnext, h.attempts⟩
  next hbusy =>
    exact ⟨hrequest, h.working, h.telegram, h.answer, h.allowed,
      fun hfree hrun => absurd ⟨hfree, mayServe_of_run hrun⟩ hbusy, h.attempts⟩

theorem noteChange_ready {u : State} (h : AccessReady u) (b : State) : AccessReady (noteChange b u) := by
  obtain ⟨_, h'⟩ := noteChange_eq b u
  rw [h']
  exact ⟨h.working, h.telegram, h.answer, h.allowed, h.attempts⟩

theorem fillSlot_ready {v : State} (h : AccessReady v) : AccessReady (fillSlot v) := by
  obtain h' | ⟨-, h'⟩ := fillSlot_cases v <;> rw [h']
  · exact h
  · exact ⟨h.working, fun _ => rfl, h.answer, h.allowed, h.attempts⟩

/-- A request that is left waits for the spacing timer. -/
theorem fillSlot_request (v : State) :
    (fillSlot v).builder.request = true → (fillSlot v).line.telegramSlot = false →
      (fillSlot v).builder.spacingSince ≠ none := by
  unfold fillSlot
  split
  next => intro h; cases h
  next hwaits => exact fun hrequest hslot hspacing => hwaits ⟨hrequest, hslot, hspacing⟩

theorem AccessSound.later {s t : State} (h : AccessSound s) (hline : t.line = s.line) (hbuilder : t.builder = s.builder)
    (hphase : t.phase = s.phase) (hlockdown : t.lockdown = s.lockdown) (hnow : s.now ≤ t.now) : AccessSound t := by
  constructor
  case allowed => exact fun hs => mayServe_later hphase hlockdown (by rw [hline]) hnow (h.allowed (by rw [← hline]; exact hs))
  all_goals simp only [hline, hbuilder, hphase]
  case request => exact h.request
  case working => exact h.working
  case telegram => exact h.telegram
  case answer => exact h.answer
  case waits => exact h.waits
  case attempts => exact h.attempts

theorem finish_accessSound {u : State} (h : AccessReady u) (b : State) : AccessSound (finish b u) := by
  have hserved := serve_accessSound (fillSlot_ready (noteChange_ready h b)) (fillSlot_request _)
  obtain ⟨_, _, hfinish⟩ := finish_eq b u
  rw [hfinish]
  generalize serve (fillSlot (noteChange b u)) = v at hserved
  exact hserved.later rfl rfl rfl rfl (Nat.le_refl _)

/-! ### Every step keeps the access sound -/

theorem LineEvent.ready {w u : State} (h : LineEvent w u) (hw : AccessReady w) : AccessReady u := by
  cases h with
  | kept hservice hslot hanswer htransmitter hattempt hlimit hserve hlockdown =>
    refine ⟨by rw [hservice, htransmitter]; exact hw.working, ?_, ?_, ?_, hlimit hw.attempts⟩
    · rw [hservice, hslot]; exact hw.telegram
    · rw [hservice]; exact fun h => hanswer (hw.answer h)
    · rw [hservice]; exact fun h => hserve (hw.allowed h)
  | ended hservice htransmitter hattempt =>
    exact ⟨iff_of_true hservice htransmitter, by simp [hservice], by simp [hservice], by simp [hservice], by simp [hattempt]⟩

theorem Idles.accessSound {s t : State} (h : Idles s t) (hs : AccessSound s) : AccessSound t := by
  cases h with
  | raises => exact hs.later rfl rfl rfl rfl (Nat.le_refl _)
  | ticks => exact hs.later rfl rfl rfl rfl (Nat.le_succ _)
  | samples pending freeUses runA runB restartFrom runs sampled heq =>
    obtain ⟨_, _, hnote⟩ := noteRuns_eq s sampled
    rw [hnote, heq]
    exact hs.later rfl rfl rfl rfl (Nat.le_refl _)

theorem step_accessSound {s t : State} (hs : AccessSound s) (h : step s = .next t) : AccessSound t := by
  refine step_keeps h (fun rest hs => hs.later rfl rfl rfl rfl (Nat.le_refl _)) ?_ (fun c x rest hs => ?_)
    (fun c x rest harises hw => ?_) (fun u hidles hs => hidles.accessSound hs) hs
  · intro held reading log record pins freeUses pending _
    constructor <;> simp [State.reset, Line.start, Builder.start, alignLanes]
  · obtain ⟨_, _, hreach⟩ := unhand_reach_eq c x rest s
    rw [hreach]
    exact hs.later rfl rfl rfl rfl (Nat.le_max_left ..)
  · refine finish_accessSound ((effect_lineEvent harises ?_ ?_ ?_).ready hw.ready) _ <;>
      obtain ⟨_, _, hreach⟩ := unhand_reach_eq c x rest s <;> rw [hreach]

/-! ### A frame taken up -/

theorem lineIsIdle_iff {s : State} : s.lineIsIdle = true ↔ ∃ q, s.line.quietSince = some q ∧ q + 8 ≤ s.now := by
  unfold State.lineIsIdle
  cases s.line.quietSince with
  | none => simp
  | some q =>
    simp only [Option.some.injEq, exists_eq_left']
    exact decide_eq_true_iff

/-- With no frame in service before its end, an event that leaves one in service has taken it up. -/
theorem finish_takenUp {b u : State} (hfree : u.line.service = none) (h : (finish b u).line.service ≠ none) :
    TakenUp (finish b u) := by
  have hfree' : (fillSlot (noteChange b u)).line.service = none := by
    obtain ⟨_, hnote⟩ := noteChange_eq b u
    obtain h' | ⟨-, h'⟩ := fillSlot_cases (noteChange b u) <;> rw [h', hnote] <;> exact hfree
  have hserved : (serve (fillSlot (noteChange b u))).line.service ≠ none := h
  obtain heq | ⟨-, -, frame, hnext, heq⟩ := serve_cases (fillSlot (noteChange b u))
  · rw [heq] at hserved
    exact absurd hfree' hserved
  · have hline : (finish b u).line = { (fillSlot (noteChange b u)).line with
        service := some frame, attempt := 0
        transmitter := if (fillSlot (noteChange b u)).lineIsIdle then .slotDelay (fillSlot (noteChange b u)).now
          else .awaitIdle } := congrArg (·.line) heq
    have hnow : (finish b u).now = (fillSlot (noteChange b u)).now := congrArg (·.now) heq
    obtain ⟨hframe, -⟩ := nextService_some hnext
    refine ⟨by rw [hline, hframe], by rw [hline], ?_, ?_⟩
    · rw [hline, hnow]
      exact fun hquiet => if_pos (lineIsIdle_iff.mpr hquiet)
    · rw [hline, hnow]
      intro hbusy
      refine if_neg fun hidle => ?_
      obtain ⟨q, hq, hle⟩ := lineIsIdle_iff.mp hidle
      exact absurd (hbusy q hq) (Nat.not_lt.mpr hle)

/-- An event that leaves another frame in service, fewer attempts or lockdown changed has taken a frame up. -/
theorem event_takenUp {w u : State} (hevent : LineEvent w u) (hservice : (finish w u).line.service ≠ none)
    (hnew : (finish w u).line.service ≠ w.line.service ∨ (finish w u).line.attempt < w.line.attempt ∨
      (finish w u).lockdown ≠ w.lockdown) : TakenUp (finish w u) := by
  cases hevent with
  | kept hkept hslot hanswer htransmitter hattempt hlimit hserve hlockdown =>
    by_cases hfree : u.line.service = none
    · exact finish_takenUp hfree hservice
    · obtain ⟨hservice', -, hattempt'⟩ := (finish_ends w u).serviceKept hfree
      have hlockdown' : (finish w u).lockdown = u.lockdown := finish_lockdown ..
      rw [hservice', hattempt', hlockdown', hkept, hlockdown] at hnew
      obtain hnew | hnew | hnew := hnew
      · exact absurd rfl hnew
      · exact absurd hattempt (Nat.not_le.mpr hnew)
      · exact absurd rfl hnew
  | ended hfree => exact finish_takenUp hfree hservice

theorem step_takenUp {s t : State} (h : step s = .next t) (hservice : t.line.service ≠ none)
    (hnew : t.line.service ≠ s.line.service ∨ t.line.attempt < s.line.attempt ∨ t.lockdown ≠ s.lockdown) : TakenUp t := by
  have hsame : ∀ u : State, u.line = s.line → u.lockdown = s.lockdown →
      ¬(u.line.service ≠ s.line.service ∨ u.line.attempt < s.line.attempt ∨ u.lockdown ≠ s.lockdown) := by
    intro u hline hlockdown
    simp [hline, hlockdown]
  cases step_steps h with
  | starts _ _ hstarted =>
    cases hstarted with
    | held => exact absurd hnew (hsame _ rfl rfl)
    | fresh => exact absurd rfl hservice
  | @takes c rest _ _ _ htaken =>
    cases htaken with
    | still => exact absurd hnew (hsame _ rfl rfl)
    | waits x =>
      obtain ⟨_, _, hreach⟩ := unhand_reach_eq c x rest s
      rw [hreach] at hnew
      exact absurd hnew (hsame _ rfl rfl)
    | event x harises =>
      obtain ⟨_, _, hreach⟩ := unhand_reach_eq c x rest s
      rw [hreach] at hnew hservice ⊢
      exact event_takenUp (effect_lineEvent harises rfl rfl rfl) hservice hnew
  | idles _ hidles =>
    cases hidles with
    | raises => exact absurd hnew (hsame _ rfl rfl)
    | ticks => exact absurd hnew (hsame _ rfl rfl)
    | samples pending freeUses runA runB restartFrom runs sampled heq =>
      obtain ⟨_, _, hnote⟩ := noteRuns_eq s sampled
      rw [hnote, heq] at hnew
      exact absurd hnew (hsame _ rfl rfl)

end Sys2Proof.Machine
end

section
/-! PROOFS. The frames handed on in every step (O55, second part). -/

namespace Sys2Proof.Machine

/-! ### What an event does to the frames handed on -/

/-- A burst that ends leaves the frames handed on, or puts behind them the one that a valid body is handed on as. -/
theorem takeVerdict_handedOn (v : Verdict) (s : State) : (takeVerdict v s).handed = s.handed ∨
    ∃ body frame, handedOn s body = some frame ∧ (takeVerdict v s).handed = s.handed ++ [frame] := by
  cases v with
  | notJudged | invalid => exact .inl rfl
  | valid body =>
    obtain ⟨counted, rfl, ⟨-, h⟩ | ⟨-, -, h⟩ | ⟨-, frame, hframe, h⟩⟩ := receiveFrame_cases body s <;>
      rw [show takeVerdict (.valid body) s = receiveFrame body s from rfl, h]
    · exact .inl (enterLockdown_handed ..)
    · exact .inl rfl
    · exact .inr ⟨body, frame, hframe, rfl⟩

theorem enterSilence_handed (s : State) : (enterSilence s).handed = s.handed := by
  obtain ⟨-, h⟩ | ⟨-, h⟩ := enterSilence_cases s <;> rw [h]
  obtain ⟨_, h⟩ := enterRun_eq { s with
    phase := .silence, selfTest := none, outputs := { s.outputs with tickSince := some s.now, watch := 0 } }
  rw [h]
  rfl

theorem selfTest_handed {w passed : State} {passes : Prop} [Decidable passes] (h : passed.handed = w.handed) :
    (if passes then passed else enterLockdown .selfTestFault w).handed = w.handed := by
  split
  · exact h
  · exact enterLockdown_handed ..

/-- Every event but the end of a burst leaves the frames handed on. -/
theorem effect_handed {c : Instr} (hc : ∀ dt burst, c ≠ .receptionIdle dt burst) (w : State) :
    (effect c w).handed = w.handed := by
  by_cases hquery : IsQuery c
  · exact (effect_answered hquery w).handed
  by_cases htouches : TouchesLine c
  · cases c <;> try first | exact htouches.elim | exact absurd trivial hquery
    case receptionIdle dt burst => exact absurd rfl (hc dt burst)
    case configReadEnd =>
      dsimp only [effect]
      split <;> rfl
    case lineLoopTest | laneTest => exact selfTest_handed rfl
    case readBackTest => exact selfTest_handed (enterSilence_handed w)
    case silenceEnd =>
      dsimp only [effect]
      split
      · split <;> simp
      · split <;> simp [enterRun]
    case lineIdle | deferral => rfl
    case lineWin fault =>
      obtain ⟨_, _, h⟩ := compareCopies_eq fault { w with line := { w.line with
        transmitter := .driving w.now, driven := frameOf (bodyAtWin w), quietSince := none
        receiver := { w.line.receiver with state := .skipping, badFirst := false } } }
      exact congrArg (·.handed) h
    case collision =>
      dsimp only [effect]
      split
      · obtain ⟨_, _, _, h⟩ := dropFrame_eq (countCollision (releaseLine w))
        exact congrArg (·.handed) h
      · rfl
    case attemptCompletion =>
      dsimp only [effect]
      split <;> rfl
    case laneMismatch => exact enterLockdown_handed ..
    case clockCheckPeriodEnd =>
      dsimp only [effect]
      split
      · exact enterLockdown_handed ..
      · rfl
    case halfPeriodTick => exact judgeCounts_handed _
    case tickWatchExpiry => exact judgeCounts_handed _
  · exact (effect_keepsLine htouches w).handed

theorem endBurst_handed (burst : List LineChar) (w : State) : (endBurst burst w).handed = w.handed ∨
    ∃ body frame, (∃ line, handedOn { w with line := line } body = some frame ∧ line.connected = w.line.connected) ∧
      (endBurst burst w).handed = w.handed ++ [frame] := by
  have hconnected := w.line.defer_kept.2.2.2.2.2
  obtain h | ⟨body, frame, hframe, h⟩ := takeVerdict_handedOn
    (judgeBurst (burst.foldl takeCharacter (w.line.receiver.beforeBurst (idleBeforeBurst w.now burst w.line.quietSince))))
    { w with line := { w.line.defer with
      receiver := (burst.foldl takeCharacter
        (w.line.receiver.beforeBurst (idleBeforeBurst w.now burst w.line.quietSince))).toWaiting
      quietSince := some (w.now - receptionIdleTicks) } }
  · exact .inl h
  · exact .inr ⟨body, frame, ⟨_, hframe, hconnected⟩, h⟩

/-- What an event does to the frames handed on. -/
theorem effect_handed_cases (c : Instr) (w : State) : (effect c w).handed = w.handed ∨
    ∃ dt burst frame body line, c = .receptionIdle dt burst ∧ handedOn { w with line := line } body = some frame ∧
      line.connected = w.line.connected ∧ (effect c w).handed = w.handed ++ [frame] := by
  by_cases hburst : ∃ dt burst, c = .receptionIdle dt burst
  · obtain ⟨dt, burst, rfl⟩ := hburst
    dsimp only [effect]
    split
    · exact .inl rfl
    · obtain h | ⟨body, frame, ⟨line, hframe, hconnected⟩, h⟩ := endBurst_handed burst w
      · exact .inl h
      · exact .inr ⟨dt, burst, frame, body, line, rfl, hframe, hconnected, h⟩
  · exact .inl (effect_handed (fun dt burst hc => hburst ⟨dt, burst, hc⟩) w)

/-! ### No frame is lost -/

theorem State.unhand_of_some {c : Instr} {frame : Handed} (h : frameTaken c = some frame) (s : State) :
    (s.unhand c).handed = s.handed.erase frame := by
  simp only [State.unhand, h]
  rfl

theorem State.unhand_of_none {c : Instr} (h : frameTaken c = none) (s : State) : s.unhand c = s := by
  simp only [State.unhand, h]

theorem Taken.handed {c : Instr} {s t : State} (h : Taken c s t) : t.handed = (s.unhand c).handed ∨
    ∃ dt burst frame, c = .receptionIdle dt burst ∧ t.handed = s.handed ++ [frame] := by
  cases h with
  | still hframe => exact .inl (by simp [State.unhand, hframe])
  | waits x => exact .inl (State.reach_handed ..)
  | event x =>
    rw [finish_handed]
    obtain h | ⟨dt, burst, frame, _, _, rfl, -, -, h⟩ := effect_handed_cases c ((s.unhand c).reach x) <;> rw [h]
    · exact .inl (State.reach_handed ..)
    · exact .inr ⟨dt, burst, frame, rfl, by rw [State.reach_handed]; rfl⟩

theorem Idles.handed {s t : State} (h : Idles s t) : t.handed = s.handed := by
  cases h with
  | raises => rfl
  | ticks => rfl
  | samples pending freeUses runA runB restartFrom runs sampled heq =>
    obtain ⟨_, _, hnote⟩ := noteRuns_eq s sampled
    rw [hnote, heq]

/-- With no command waiting the oldest frame handed on is queued as the command that takes it. -/
theorem idle_command {s : State} {frame : Handed} {rest : List Handed} (h : s.handed = frame :: rest) :
    ∃ c, (idle s).pending = [c] ∧ frameTaken c = some frame := by
  unfold idle
  rw [h]
  exact ⟨frame.command s.freeUses, rfl, Handed.command_takes ..⟩

theorem step_handedStep {s t : State} (h : step s = .next t) (hstarts : ∀ c rest, s.pending = c :: rest → ¬Starts c) :
    HandedStep s t := by
  unfold step at h
  split at h
  next c rest hpending =>
    have htaken := (exec_taken (hstarts c rest hpending) h).handed
    refine ⟨?_, ?_, fun hnone => by simp [hpending] at hnone⟩
    · intro c' rest' frame hpending' hframe
      obtain ⟨rfl, rfl⟩ := List.cons.inj (hpending.symm.trans hpending')
      rw [State.unhand_of_some hframe] at htaken
      obtain h | ⟨dt, burst, _, rfl, -⟩ := htaken
      · exact h
      · cases hframe
    · intro c' rest' hpending' _ hframe
      obtain ⟨rfl, rfl⟩ := List.cons.inj (hpending.symm.trans hpending')
      rw [State.unhand_of_none hframe] at htaken
      exact htaken
  next hpending =>
    cases h
    refine ⟨fun c rest frame hpending' => ?_, fun c rest hpending' => ?_,
      fun _ => ⟨(idle_idles s).handed, fun frame rest => idle_command⟩⟩ <;>
      simp [hpending] at hpending'

/-! ### Reception -/

/-- What an event keeps of the conditions under which frames are handed on. -/
structure KeepsReception (w u : State) : Prop where
  connected : w.line.connected = true → u.line.connected = true
  joins : u.line.connected = true → w.line.connected = true ∨ w.configured = true
  run : w.phase = .run → u.phase = .run
  lockdown : w.lockdown = true → u.lockdown = true

theorem KeepsReception.of_eq {w u : State} (hconnected : u.line.connected = w.line.connected) (hphase : u.phase = w.phase)
    (hlockdown : u.lockdown = w.lockdown) : KeepsReception w u :=
  ⟨fun h => hconnected.trans h, fun h => .inl (hconnected.symm.trans h), fun h => hphase.trans h, fun h => hlockdown.trans h⟩

theorem KeepsReception.trans {w v u : State} (h : KeepsReception w v) (h' : KeepsReception v u)
    (hconfigured : v.configured = w.configured) : KeepsReception w u :=
  ⟨fun hw => h'.connected (h.connected hw),
    fun hu => (h'.joins hu).elim h.joins fun hv => .inr (hconfigured.symm.trans hv),
    fun hw => h'.run (h.run hw), fun hw => h'.lockdown (h.lockdown hw)⟩

theorem enterLockdown_keepsReception (cause : LockdownCause) (s : State) : KeepsReception s (enterLockdown cause s) := by
  cases hlocked : s.lockdown
  · have hline := enterLockdown_line (cause := cause) hlocked
    have hjoin : (endLoopTest cause s).line.connected = s.line.connected ∨
        (s.configured = true ∧ (endLoopTest cause s).line.connected = true) := by
      unfold endLoopTest
      split
      next h => exact .inr ⟨configured_of_selfTest (inLoopTest_phase h.1).1, rfl⟩
      next => exact .inl rfl
    have hconnected : (enterLockdown cause s).line.connected = (endLoopTest cause s).line.connected := by rw [hline]; rfl
    refine ⟨?_, ?_, fun h => (enterLockdown_phase ..).trans h, fun h => (by simp [hlocked] at h)⟩ <;>
      rw [hconnected] <;> obtain hkept | ⟨hconfigured, hjoined⟩ := hjoin
    · exact fun h => hkept.trans h
    · exact fun _ => hjoined
    · exact fun h => .inl (hkept.symm.trans h)
    · exact fun _ => .inr hconfigured
  · rw [enterLockdown_of_lockdown hlocked]
    exact .of_eq rfl rfl rfl

theorem KeepsReception.of_lockdown {w v : State} (hconnected : v.line.connected = w.line.connected)
    (hphase : v.phase = w.phase) (hlockdown : v.lockdown = w.lockdown) (cause : LockdownCause) :
    KeepsReception w (enterLockdown cause v) :=
  (KeepsReception.of_eq hconnected hphase hlockdown).trans (enterLockdown_keepsReception cause v) (configured_eq hphase)

theorem KeepsReception.of_judgeCounts {w v : State} (hconnected : v.line.connected = w.line.connected)
    (hphase : v.phase = w.phase) (hlockdown : v.lockdown = w.lockdown) : KeepsReception w (judgeCounts v) := by
  obtain h | h := judgeCounts_cases v <;> rw [h]
  · exact .of_eq hconnected hphase hlockdown
  · exact .of_lockdown (by exact hconnected) (by exact hphase) (by exact hlockdown) _

theorem KeepsReception.of_setLevels {w v : State} (h : KeepsReception w v) : KeepsReception w (setLevels v) :=
  ⟨h.connected, h.joins, h.run, h.lockdown⟩

theorem selfTest_keepsReception {w passed : State} {passes : Prop} [Decidable passes] (h : KeepsReception w passed) :
    KeepsReception w (if passes then passed else enterLockdown .selfTestFault w) := by
  split
  · exact h
  · exact enterLockdown_keepsReception ..

theorem endBurst_keepsReception (burst : List LineChar) (w : State) : KeepsReception w (endBurst burst w) := by
  have hconnected := w.line.defer_kept.2.2.2.2.2
  unfold endBurst
  obtain ⟨_, h⟩ | ⟨_, _, h⟩ | ⟨_, h⟩ := takeVerdict_cases
    (judgeBurst (burst.foldl takeCharacter (w.line.receiver.beforeBurst (idleBeforeBurst w.now burst w.line.quietSince))))
    { w with line := { w.line.defer with
      receiver := (burst.foldl takeCharacter
        (w.line.receiver.beforeBurst (idleBeforeBurst w.now burst w.line.quietSince))).toWaiting
      quietSince := some (w.now - receptionIdleTicks) } } <;> dsimp only <;> rw [h]
  · exact .of_eq hconnected rfl rfl
  · exact .of_eq hconnected rfl rfl
  · exact .of_lockdown (by exact hconnected) (by rfl) (by rfl) _

theorem silenceEnd_keepsReception (w : State) : KeepsReception w (effect .silenceEnd w) := by
  dsimp only [effect]
  split
  · split
    · exact .of_eq (by simp) (by simp) (by simp)
    · exact .of_eq (by simp) (by simp) (by simp)
    · exact .of_eq rfl rfl rfl
  · split
    next hsilence =>
      obtain ⟨_, h⟩ := enterRun_eq { w with silenceOver := true }
      rw [h]
      exact ⟨id, .inl, fun _ => rfl, id⟩
    next => exact .of_eq rfl rfl rfl

theorem effect_keepsReception {c : Instr} {s w : State} {x : Tick} (h : Arises c s x) (hphase : w.phase = s.phase) :
    KeepsReception w (effect c w) := by
  by_cases hquery : IsQuery c
  · have hanswered := effect_answered hquery w
    exact .of_eq hanswered.connected hanswered.phase hanswered.lockdown
  by_cases htouches : TouchesLine c
  · cases c <;> try first | exact htouches.elim | exact absurd trivial hquery
    case configReadEnd =>
      have hread : w.phase ≠ .run := by rw [hphase, h.2.1]; simp
      dsimp only [effect]
      split <;> exact ⟨id, .inl, fun hrun => absurd hrun hread, id⟩
    case lineLoopTest =>
      refine selfTest_keepsReception ⟨fun _ => rfl, fun _ => .inr ?_, id, id⟩
      exact configured_of_selfTest (hphase.trans (inLoopTest_phase h).1)
    case laneTest => exact selfTest_keepsReception (.of_eq rfl rfl rfl)
    case readBackTest =>
      have hread : w.phase ≠ .run := by rw [hphase, (readBackTestDue_phase h).1]; simp
      have hline := enterSilence_line w
      have hlockdown := enterSilence_lockdown w
      exact selfTest_keepsReception ⟨by rw [hline]; exact id, by rw [hline]; exact .inl, fun hrun => absurd hrun hread,
        by rw [hlockdown]; exact id⟩
    case silenceEnd => exact silenceEnd_keepsReception w
    case receptionIdle =>
      dsimp only [effect]
      split
      · exact .of_eq rfl rfl rfl
      · exact endBurst_keepsReception ..
    case lineIdle => exact .of_eq rfl rfl rfl
    case deferral => exact .of_eq w.line.defer_kept.2.2.2.2.2 rfl rfl
    case lineWin fault =>
      obtain ⟨_, _, h⟩ := compareCopies_eq fault { w with line := { w.line with
        transmitter := .driving w.now, driven := frameOf (bodyAtWin w), quietSince := none
        receiver := { w.line.receiver with state := .skipping, badFirst := false } } }
      dsimp only [effect]
      rw [h]
      exact .of_eq rfl rfl rfl
    case collision =>
      dsimp only [effect]
      split
      · obtain ⟨_, _, _, h⟩ := dropFrame_eq (countCollision (releaseLine w))
        rw [h]
        exact .of_eq rfl rfl rfl
      · exact .of_eq rfl rfl rfl
    case attemptCompletion =>
      dsimp only [effect]
      split <;> exact .of_eq rfl rfl rfl
    case laneMismatch => exact .of_lockdown (by rfl) (by rfl) (by rfl) _
    case clockCheckPeriodEnd =>
      dsimp only [effect]
      split
      · exact .of_lockdown (by rfl) (by rfl) (by rfl) _
      · exact .of_eq rfl rfl rfl
    case halfPeriodTick read => exact .of_setLevels (.of_judgeCounts (by rfl) (by rfl) (by rfl))
    case tickWatchExpiry => exact .of_judgeCounts (by rfl) (by rfl) (by rfl)
  · have hkeeps := effect_keepsLine htouches w
    exact .of_eq (by rw [hkeeps.line]) hkeeps.phase hkeeps.lockdown

theorem PeersEvent.peer? {w u : State} (h : PeersEvent w u) {n : Nat} {r : PeerRecord} (hr : w.peer? n = some r) :
    ∃ r', u.peer? n = some r' := by
  have hmem : n ∈ u.peers.map (·.station) := by
    rw [h.stations]
    exact List.mem_map.mpr ⟨r, List.mem_of_find?_eq_some hr, peer?_station hr⟩
  obtain ⟨r', hr', hstation⟩ := List.mem_map.mp hmem
  exact Option.isSome_iff_exists.mp (List.find?_isSome.mpr ⟨r', hr', by simpa using hstation⟩)

theorem ReceptionSound.of_eq {s t : State} (h : ReceptionSound s) (hline : t.line = s.line) (hphase : t.phase = s.phase)
    (hlockdown : t.lockdown = s.lockdown) (hpeers : t.peers = s.peers) (hhanded : t.handed ⊆ s.handed) : ReceptionSound t := by
  refine ⟨?_, fun tel htel => ?_, fun kind parameter hquery => ?_⟩
  · rw [hline, configured_eq hphase]; exact h.connected
  · rw [hline, State.peer?, hpeers]; exact h.telegrams tel (hhanded htel)
  · rw [hline, hphase, hlockdown]; exact h.queries kind parameter (hhanded hquery)

theorem takesQueries_iff {s : State} : s.takesQueries = true ↔
    s.line.connected = true ∧ s.configured = true ∧ (s.phase = .run ∨ s.lockdown = true) := by
  simp only [State.takesQueries, Bool.and_eq_true, Bool.or_eq_true, beq_iff_eq, and_assoc, or_comm]

theorem receptionSound_none {s : State} (hconnected : s.line.connected = false) (hhanded : s.handed = []) :
    ReceptionSound s :=
  ⟨fun h => by simp [hconnected] at h, fun tel h => by simp [hhanded] at h, fun kind parameter h => by simp [hhanded] at h⟩

theorem ReceptionSound.handed_none {s : State} (h : ReceptionSound s) (hoff : s.line.connected = false) : s.handed = [] := by
  cases hhanded : s.handed with
  | nil => rfl
  | cons frame rest =>
    have hmem : frame ∈ s.handed := by simp [hhanded]
    cases frame with
    | telegram tel => have hon := (h.telegrams tel hmem).1; simp [hoff] at hon
    | query kind parameter => have hon := (h.queries kind parameter hmem).1; simp [hoff] at hon

/-- The verdict on the image finds the receiver off the line, and leaves it there. -/
theorem configReadEnd_receptionSound {w : State} (hw : ReceptionSound w) (hphase : w.phase = .configRead) (dt : Nat)
    (memory : List Byte) (first : HeadLevels) : ReceptionSound (effect (.configReadEnd dt memory first) w) := by
  have hoff : w.line.connected = false := by
    refine Classical.byContradiction fun hon => ?_
    have := hw.connected (by simpa using hon)
    simp [State.configured, hphase] at this
  refine receptionSound_none ?_ ((effect_handed (by simp) w).trans (hw.handed_none hoff))
  dsimp only [effect]
  split <;> exact hoff

theorem event_receptionSound {c : Instr} {s w : State} {x : Tick} (h : Arises c s x) (hline : w.line = s.line)
    (hphase : w.phase = s.phase) (hpeers : w.peers = s.peers) (hw : ReceptionSound w) : ReceptionSound (effect c w) := by
  by_cases himage : ReadsImage c
  · cases c <;> try exact himage.elim
    case configReadEnd => exact configReadEnd_receptionSound hw (hphase.trans h.2.1) ..
  have hconfigured := effect_configured h himage hphase
  have hkeeps := effect_keepsReception h hphase
  have hkept := effect_peersEvent h himage hpeers
  have hold : ∀ frame ∈ w.handed, (∀ tel, frame = .telegram tel →
      (effect c w).line.connected = true ∧ ∃ r, (effect c w).peer? tel.sender.toNat = some r) ∧
      (∀ kind parameter, frame = .query kind parameter → (effect c w).line.connected = true ∧
        ((effect c w).phase = .run ∨ (effect c w).lockdown = true)) := by
    intro frame hframe
    refine ⟨fun tel heq => ?_, fun kind parameter heq => ?_⟩ <;> subst heq
    · obtain ⟨hon, r, hr⟩ := hw.telegrams tel hframe
      exact ⟨hkeeps.connected hon, hkept.peer? hr⟩
    · obtain ⟨hon, hserves⟩ := hw.queries kind parameter hframe
      exact ⟨hkeeps.connected hon, hserves.imp hkeeps.run hkeeps.lockdown⟩
  have hnew : ∀ frame ∈ (effect c w).handed, frame ∈ w.handed ∨
      ∃ body line, handedOn { w with line := line } body = some frame ∧ (effect c w).line.connected = true := by
    intro frame hframe
    obtain heq | ⟨dt, burst, added, body, line, rfl, hadded, hconnected, heq⟩ := effect_handed_cases c w <;> rw [heq] at hframe
    · exact .inl hframe
    · obtain hframe | hframe := List.mem_append.mp hframe
      · exact .inl hframe
      · obtain rfl := List.mem_singleton.mp hframe
        refine .inr ⟨body, line, hadded, hkeeps.connected ?_⟩
        have harises : idleArises burst s = true := h
        rw [hline]
        simp only [idleArises, Bool.and_eq_true] at harises
        exact harises.1.1
  refine ⟨fun hon => hconfigured.trans ((hkeeps.joins hon).elim hw.connected id), fun tel htel => ?_,
    fun kind parameter hquery => ?_⟩
  · obtain hmem | ⟨body, line, hframe, hon⟩ := hnew _ htel
    · exact (hold _ hmem).1 tel rfl
    · obtain hnone | ⟨tel', -, hr, hsome⟩ | ⟨_, _, _, -, -, -, hsome⟩ := handedOn_cases { w with line := line } body
      · simp [hnone] at hframe
      · obtain rfl : tel' = tel := by simpa using hsome.symm.trans hframe
        obtain ⟨r, hr⟩ := Option.isSome_iff_exists.mp hr
        exact ⟨hon, hkept.peer? (w := w) (r := r) (by exact hr)⟩
      · cases hsome.symm.trans hframe
  · obtain hmem | ⟨body, line, hframe, hon⟩ := hnew _ hquery
    · exact (hold _ hmem).2 kind parameter rfl
    · obtain hnone | ⟨_, -, -, hsome⟩ | ⟨_, _, _, -, -, htakes, hsome⟩ := handedOn_cases { w with line := line } body
      · simp [hnone] at hframe
      · cases hsome.symm.trans hframe
      · obtain ⟨-, -, hserves⟩ := takesQueries_iff.mp htakes
        exact ⟨hon, hserves.imp hkeeps.run hkeeps.lockdown⟩

theorem Idles.receptionSound {s t : State} (h : Idles s t) (hs : ReceptionSound s) : ReceptionSound t := by
  have hhanded : t.handed ⊆ s.handed := by rw [h.handed]; exact fun _ => id
  cases h with
  | raises => exact hs.of_eq rfl rfl rfl rfl hhanded
  | ticks => exact hs.of_eq rfl rfl rfl rfl hhanded
  | samples pending freeUses runA runB restartFrom runs sampled heq =>
    obtain ⟨_, _, hnote⟩ := noteRuns_eq s sampled
    rw [hnote, heq] at hhanded ⊢
    exact hs.of_eq rfl rfl rfl rfl hhanded

theorem finish_connected (b u : State) : (finish b u).line.connected = u.line.connected :=
  congrArg (·.line.connected) (finish_ends b u).rest

theorem finish_receptionSound {u : State} (h : ReceptionSound u) (b : State) : ReceptionSound (finish b u) := by
  have hconnected := finish_connected b u
  refine ⟨?_, fun tel htel => ?_, fun kind parameter hquery => ?_⟩
  · rw [hconnected, configured_eq (finish_phase b u)]; exact h.connected
  · rw [finish_handed] at htel
    rw [hconnected, State.peer?, finish_peers]
    exact h.telegrams tel htel
  · rw [finish_handed] at hquery
    rw [hconnected, finish_phase, finish_lockdown]
    exact h.queries kind parameter hquery

theorem unhand_subset (c : Instr) (s : State) : (s.unhand c).handed ⊆ s.handed := by
  cases hframe : frameTaken c with
  | none => rw [State.unhand_of_none hframe]; exact fun _ => id
  | some frame => rw [State.unhand_of_some hframe]; exact List.erase_subset

theorem step_receptionSound {s t : State} (hs : ReceptionSound s) (h : step s = .next t) : ReceptionSound t := by
  refine step_keeps h (fun rest hs => hs.of_eq rfl rfl rfl rfl fun _ => id) ?_ (fun c x rest hs => ?_)
    (fun c x rest harises hw => ?_) (fun u hidles hs => hidles.receptionSound hs) hs
  · exact fun _ _ _ _ _ _ _ _ => receptionSound_none rfl rfl
  · have hsubset : ((State.unhand c { s with pending := rest }).reach x).handed ⊆ s.handed := by
      rw [State.reach_handed]; exact unhand_subset c { s with pending := rest }
    obtain ⟨_, _, hreach⟩ := unhand_reach_eq c x rest s
    rw [hreach] at hsubset ⊢
    exact hs.of_eq rfl rfl rfl rfl hsubset
  · refine finish_receptionSound (event_receptionSound harises ?_ ?_ ?_ hw) _ <;>
      obtain ⟨_, _, hreach⟩ := unhand_reach_eq c x rest s <;> rw [hreach]

end Sys2Proof.Machine

namespace Sys2Proof.Proofs
open Sys2Proof.Machine

/-- Settles O55: an event keeps the frame in service or ends its service, and the end of the event takes up the next one;
and an event keeps what the frames handed on wait for, and leaves them but for the end of a burst. -/
theorem lineAccessStaysSound : Obligations.LineAccessStaysSound :=
  ⟨fun _ _ => step_accessSound, fun _ _ => step_takenUp, fun _ _ => step_receptionSound, fun _ _ => step_handedStep⟩

end Sys2Proof.Proofs
end

section
/-! PROOFS. Changes of what the station publishes request a telegram (O59). -/

namespace Sys2Proof.Machine

/-! ### What is published -/

theorem published_eq {s t : State} (hscene : t.scene = { s.scene with now := t.now }) (hslots : t.slots = s.slots) :
    t.published = s.published := by
  have hstatus := congrArg State.headStatus hscene
  have htxy := congrArg State.txy hscene
  have htyx := congrArg State.tyx hscene
  have hview := congrArg State.viewOf hscene
  change t.headStatus = s.headStatus at hstatus
  change t.txy = s.txy at htxy
  change t.tyx = s.tyx at htyx
  change t.viewOf = s.viewOf at hview
  simp only [State.published, hstatus, htxy, htyx, hview, hslots]

theorem Later.published {s w : State} (h : Later s w) : w.published = s.published := published_eq h.scene h.slots

theorem finish_published (b u : State) : (finish b u).published = u.published :=
  published_eq (by rw [finish_scene, finish_now]; rfl) (finish_slots b u)

theorem published_ne {s t : State} (h : t.headStatus ≠ s.headStatus ∨ t.txy ≠ s.txy ∨ t.tyx ≠ s.tyx ∨
    t.slots.map t.viewOf ≠ s.slots.map s.viewOf) : t.published ≠ s.published := by
  intro heq
  obtain ⟨hstatus, htxy, htyx, hviews⟩ := Published.mk.inj heq
  simp_all

/-! ### A request at the end of an event -/

/-- A telegram is requested, or its slot filled. -/
def State.requested (s : State) : Prop := s.builder.request = true ∨ s.line.telegramSlot = true

theorem takeReason_requested (s : State) : (takeReason s).requested := takeReason_requests s

theorem noteChange_requested {u : State} (h : u.requested) (b : State) : (noteChange b u).requested := by
  obtain h' | h' := noteChange_cases b u <;> rw [h']
  · exact h
  · exact .inl rfl

theorem fillSlot_requested {v : State} (h : v.requested) : (fillSlot v).requested := by
  obtain h' | ⟨-, h'⟩ := fillSlot_cases v <;> rw [h']
  · exact h
  · exact .inr rfl

theorem serve_requested {v : State} (h : v.requested) : (serve v).requested := by
  obtain h' | ⟨-, -, _, -, h'⟩ := serve_cases v <;> rw [h'] <;> exact h

/-- A change noted at the end of an event leaves a telegram requested or its slot filled. -/
theorem finish_requested {b u : State} (h : (noteChange b u).requested) : (finish b u).requested :=
  serve_requested (fillSlot_requested h)

theorem noteChange_of_changed {b u : State} (hservice : u.inService = true) (h : u.published ≠ b.published) :
    noteChange b u = takeReason u := if_pos ⟨hservice, h.symm⟩

/-- A frame that is driven after the end of an event was driven before it. -/
theorem serve_driving {v : State} {since : Tick} (h : (serve v).line.transmitter = .driving since) : serve v = v := by
  obtain h' | ⟨-, -, _, -, h'⟩ := serve_cases v
  · exact h'
  · rw [h'] at h
    dsimp only at h
    split at h <;> cases h

theorem takeReason_driving {u : State} {since : Tick} (hservice : u.line.service = some .telegram) (hdriving : u.line.transmitter = .driving since) :
    takeReason u = { u with builder := { u.builder with request := true } } := by
  refine if_neg fun h => h.2 ⟨hservice, ?_⟩
  simp [Line.isDriving, hdriving]

theorem fillSlot_line (v : State) : (fillSlot v).line.service = v.line.service ∧
    (fillSlot v).line.transmitter = v.line.transmitter := by
  obtain h | ⟨-, h⟩ := fillSlot_cases v <;> rw [h] <;> exact ⟨rfl, rfl⟩

/-- A change noted while a telegram is driven is requested: its slot is filled and not free for it. -/
theorem finish_request_of_driving {b u : State} {since : Tick} (hnote : noteChange b u = takeReason u)
    (hslot : u.line.telegramSlot = true) (hservice : (finish b u).line.service = some .telegram)
    (hdriving : (finish b u).line.transmitter = .driving since) : (finish b u).builder.request = true := by
  have hserved : serve (fillSlot (takeReason u)) = fillSlot (takeReason u) := by
    rw [← hnote]; exact serve_driving hdriving
  have hline : (finish b u).line = (fillSlot (takeReason u)).line := by
    rw [← hserved, ← hnote]; rfl
  have hbuilder : (finish b u).builder = (fillSlot (takeReason u)).builder := by
    rw [← hserved, ← hnote]; rfl
  obtain ⟨hkeptService, hkeptTransmitter⟩ := fillSlot_line (takeReason u)
  rw [hline, hkeptService, takeReason_line] at hservice
  rw [hline, hkeptTransmitter, takeReason_line] at hdriving
  have htaken := takeReason_driving hservice hdriving
  have hfilled : fillSlot (takeReason u) = takeReason u := by
    rw [htaken]
    exact if_neg (by simp [hslot])
  rw [hbuilder, hfilled, htaken]

theorem serve_transmitter_of_noService {v : State} (h : v.line.transmitter = .noService) (since : Tick) :
    (serve v).line.transmitter ≠ .driving since := by
  intro hdriving
  rw [serve_driving hdriving, h] at hdriving
  cases hdriving

theorem finish_not_driving {b u : State} (h : u.line.transmitter = .noService) (since : Tick) :
    (finish b u).line.transmitter ≠ .driving since := by
  refine serve_transmitter_of_noService (v := fillSlot (noteChange b u)) ?_ since
  obtain ⟨_, hnote⟩ := noteChange_eq b u
  rw [(fillSlot_line _).2, hnote]
  exact h

theorem finish_inService (b u : State) : (finish b u).inService = u.inService := by
  simp only [State.inService, finish_phase, finish_lockdown]

theorem step_requests {s t : State} (h : step s = .next t) (hphase : t.phase = .run) (hlockdown : t.lockdown = false)
    (hchanged : t.published ≠ s.published) : t.requested ∧
      ∀ since, s.line.telegramSlot = true → t.line.service = some .telegram → t.line.transmitter = .driving since →
        t.builder.request = true := by
  cases step_steps h with
  | starts _ _ hstarted =>
    cases hstarted with
    | held => exact absurd rfl hchanged
    | fresh => cases hphase
  | @takes c rest _ _ hstarts htaken =>
    cases htaken with
    | still => exact absurd rfl hchanged
    | waits x => exact absurd (reach_later c rest x s).published hchanged
    | event x harises =>
      have hlater := reach_later c rest x s
      have hservice : (effect c ((State.unhand c { s with pending := rest }).reach x)).inService = true := by
        rw [← finish_inService ((State.unhand c { s with pending := rest }).reach x), State.inService, hphase, hlockdown]
        rfl
      rw [finish_published, ← hlater.published] at hchanged
      have hnote := noteChange_of_changed hservice hchanged
      refine ⟨finish_requested (hnote ▸ takeReason_requested _), fun since hslot hserved hdriving => ?_⟩
      have hline : ((State.unhand c { s with pending := rest }).reach x).line = s.line := by
        obtain ⟨_, _, hreach⟩ := unhand_reach_eq c x rest s
        rw [hreach]
      cases effect_lineEvent harises (by exact hline) (by exact hlater.phase) (by exact hlater.lockdown) with
      | kept _ hkept =>
        exact finish_request_of_driving hnote (hkept.trans ((congrArg (·.telegramSlot) hline).trans hslot)) hserved hdriving
      | ended _ hidle => exact absurd hdriving (finish_not_driving hidle since)
  | idles _ hidles => exact absurd (idles_later hidles).published hchanged

/-! ### A restart that finds a slot AGREEING -/

theorem takeTotals_of_disturbed (s : State) (evaluating : Bool) {sl : Slot} (h : sl.state = .disturbed) :
    (takeTotals s evaluating sl).state = .disturbed := by
  have hjudged : (judge s true (recompute s { sl with settledSince := some s.now })).state = .disturbed := by
    rw [judge_of_disturbed _ _ (by exact h)]
    exact h
  unfold takeTotals
  dsimp only
  split
  · exact disturb_state ..
  · exact hjudged

theorem Item.take_of_disturbed (before after : PeerRecord) (s : State) (i : Nat) (found : Slot) {sl : Slot}
    (h : sl.state = .disturbed) (item : Item) : (item.take before after s i found sl).state = .disturbed := by
  by_cases hitem : item = .changes
  · subst hitem
    dsimp only [Item.take, takeChanges]
    split
    · split
      · exact takeTotals_of_disturbed _ _ h
      · rw [judge_of_disturbed _ _ h]; exact h
    · exact h
  · exact cause_rule (P := fun sl => sl.state = .disturbed) hitem h fun _ _ _ => disturb_state ..

theorem takeItems_of_disturbed (before after : PeerRecord) (s : State) (i : Nat) (found : Slot) (items : List Item) :
    ∀ sl : Slot, sl.state = .disturbed → (items.foldl (Item.take before after s i found) sl).state = .disturbed := by
  induction items with
  | nil => exact fun _ h => h
  | cons item items ih => exact fun sl h => ih _ (Item.take_of_disturbed before after s i found h item)

theorem Item.take_bounds (before after : PeerRecord) (s : State) (i : Nat) (found sl : Slot) (item : Item) :
    SameBounds sl (item.take before after s i found sl) := by
  by_cases hitem : item = .changes
  · subst hitem
    dsimp only [Item.take]
    split
    · exact takeChanges_bounds ..
    · exact .refl sl
  · exact cause_rule (P := SameBounds sl) hitem (.refl sl) fun _ _ _ => disturb_bounds ..

/-- A restart among the items leaves the slots using the peer DISTURBED, in whatever order the items come. -/
theorem takeItems_restart {before after : PeerRecord} {s : State} {i : Nat} {found : Slot} (hunlocked : s.lockdown = false)
    {items : List Item} (hrestart : .peerRestart ∈ items) : ∀ sl : Slot, sl.uses s.own after.station = true →
      (items.foldl (Item.take before after s i found) sl).state = .disturbed := by
  induction items with
  | nil => cases hrestart
  | cons item items ih =>
    intro sl huses
    obtain rfl | hrestart := List.mem_cons.mp hrestart
    · have htaken : Item.take before after s i found sl .peerRestart = disturb .peerRestart s.stationTime after.station sl := by
        simp only [Item.take, if_pos huses, declareSlot, hunlocked]
        rfl
      rw [List.foldl_cons, htaken]
      exact takeItems_of_disturbed _ _ _ _ _ _ _ (disturb_state ..)
    · exact ih hrestart _ (((Item.take_bounds ..).uses ..).trans huses)

theorem restart_mem_itemsOf {r : PeerRecord} (t : Telegram) : Item.peerRestart ∈ itemsOf r .restart t := by
  simp [itemsOf]

theorem notice_requested {u : State} (h : u.requested) (b : State) : (notice b u).requested := noteChange_requested h b

theorem readRound_requested {s : State} (h : s.requested) (order : TakingOrder) (first : Bool) (after : PeerRecord)
    (judged : Bool) : (readRound order first after judged s).requested :=
  notice_requested (u := rangesAfter s (notice s (readViews order first after judged s)))
    (notice_requested (u := readViews order first after judged s) h s) _

theorem handViews_requested {s : State} (h : s.requested) (order : TakingOrder) (before after : PeerRecord) :
    (handViews order before after s).requested :=
  readRound_requested (readRound_requested h ..) ..

/-- A restart that takes a slot out of AGREEING is a reason for a telegram, whatever the views bring then. -/
theorem acceptTelegram_requested {w : State} {r : PeerRecord} {i : Nat} {sl : Slot} (hservice : w.inService = true)
    (hslot : w.slots[i]? = some sl) (hstate : sl.state = .agreeing) (huses : sl.uses w.own r.station = true)
    (tel : Telegram) (order : TakingOrder) : (acceptTelegram r .restart tel order w).requested := by
  have hunlocked : w.lockdown = false := by
    simp only [State.inService, Bool.and_eq_true, Bool.not_eq_true'] at hservice
    exact hservice.2
  refine handViews_requested ?_ ..
  obtain ⟨taken, htaken⟩ : ∃ taken, takeItems order r (r.accept w.now w.own w.slots .restart tel) (itemsOf r .restart tel)
      (withRecord r .restart tel w) = taken := ⟨_, rfl⟩
  have hknown : (withRecord r .restart tel w).slots[i]? = some (forgetIdentity r.station sl) := by
    rw [withRecord_slots, List.getElem?_map, hslot]
    rfl
  obtain ⟨identity, hidentity⟩ := forgetIdentity_eq .restart r.station sl
  have hforgotten : (forgetIdentity r.station sl).uses (withRecord r .restart tel w).own r.station = true := by
    rw [withRecord_own]
    exact (congrArg (fun x : Slot => x.uses w.own r.station) hidentity).trans huses
  have hscene := withRecord_scene r .restart tel w
  have hdisturbed : ∃ sl', taken.slots[i]? = some sl' ∧ sl'.state = .disturbed := by
    refine ⟨_, by rw [← htaken, takeItems_slots, List.getElem?_mapIdx, hknown]; rfl, ?_⟩
    refine takeItems_restart ?_ ((arrange_perm _ _).mem_iff.mpr (restart_mem_itemsOf tel)) _ hforgotten
    exact (congrArg (·.lockdown) hscene).trans hunlocked
  obtain ⟨sl', hslot', hstate'⟩ := hdisturbed
  have hchanged : taken.published ≠ w.published := by
    intro heq
    have hviews := congrArg (fun p : Published => p.views[i]?.map (·.state)) heq
    simp only [State.published, List.getElem?_map, hslot, hslot', Option.map_some, State.viewOf, hstate, hstate'] at hviews
    cases hviews
  have hservice' : taken.inService = true := by
    rw [← htaken]
    exact (congrArg State.inService hscene).trans hservice
  have hnote := noteChange_of_changed hservice' hchanged
  subst htaken
  exact (congrArg State.requested hnote).mpr (takeReason_requested _)

/-! ### How a telegram is taken -/

theorem takeHanded_pass_eq (s : State) (frame : Handed) (dt : Nat) : ∃ lanes, (s.takeHanded frame).pass dt =
    { s with now := s.now + dt, handed := s.handed.erase frame, lanes := lanes } := by
  obtain ⟨_, _, _, hpass⟩ := pass_eq (s.takeHanded frame) dt
  rw [hpass]
  exact ⟨_, rfl⟩

/-- A telegram that reaches the station with its tables built is judged by the record of its sender, if there is one. -/
theorem exec_countTelegram {s w : State} {dt : Nat} {tel : Telegram} {order : TakingOrder}
    (hw : (s.takeHanded (.telegram tel)).pass dt = w) (hconnected : s.line.connected = true)
    (hconfigured : s.configured = true) :
    exec (.countTelegram dt tel order) s = .next (finish w (effect (.countTelegram dt tel order) w)) := by
  subst hw
  refine onInput_arises (dt := dt) (s := s.takeHanded (.telegram tel)) (p := fun s => s.line.connected && s.configured)
    (f := effect (.countTelegram dt tel order)) ?_
  obtain ⟨_, hpass⟩ := takeHanded_pass_eq s (.telegram tel) dt
  rw [hpass]
  exact Bool.and_eq_true_iff.mpr ⟨hconnected, hconfigured⟩

theorem countTelegram_of_peer {w : State} {r : PeerRecord} {dt : Nat} {tel : Telegram} {order : TakingOrder}
    (hr : w.peer? tel.sender.toNat = some r) : effect (.countTelegram dt tel order) w = judgeTelegram r tel order w := by
  simp only [effect, hr]

theorem judgeTelegram_of_accepted {w : State} {r : PeerRecord} {tel : Telegram} {order : TakingOrder}
    (hwell : wellFormedTelegram tel = true) (hnew : judgeSequence r tel.sequence ≠ .duplicate) :
    judgeTelegram r tel order w = acceptTelegram r (judgeSequence r tel.sequence) tel order w := by
  unfold judgeTelegram
  rw [if_pos hwell]
  split
  next hduplicate => exact absurd hduplicate hnew
  next => rfl

theorem judgeSequence_restart {r : PeerRecord} {n : Word16} (hheard : r.state ≠ .unheard) (hzero : n = 0)
    (hnew : ¬((r.state = .fresh ∨ r.state = .stale) ∧ r.lastSequence = some 0)) : judgeSequence r n = .restart := by
  subst hzero
  unfold judgeSequence
  rw [if_neg hheard, if_neg, if_pos rfl]
  rintro ⟨hlost, hlast⟩
  cases hstate : r.state <;> simp_all

end Sys2Proof.Machine

namespace Sys2Proof.Proofs
open Sys2Proof.Machine

/-- Settles O59: the end of every event compares what is published before and after it; and a restart leaves the slots
using the peer DISTURBED before the views are handed on, which is noted there. -/
theorem changesRequestTelegrams : Obligations.ChangesRequestTelegrams := by
  refine ⟨fun s t h hphase hlockdown hchanged => step_requests h hphase hlockdown (published_ne hchanged), ?_⟩
  intro dt s tel order r i sl hconnected hphase hlockdown hr hwell hheard hzero hnew hslot hstate hown huses
  obtain ⟨_, hpass⟩ := takeHanded_pass_eq s (.telegram tel) dt
  obtain ⟨w, hpass, hr, hservice, hslots, hown'⟩ : ∃ w, (s.takeHanded (.telegram tel)).pass dt = w ∧
      w.peer? tel.sender.toNat = some r ∧ w.inService = true ∧ w.slots = s.slots ∧ w.own = s.own :=
    ⟨_, hpass, hr, by simp [State.inService, hphase, hlockdown], rfl, rfl⟩
  refine ⟨_, exec_countTelegram hpass hconnected (by simp [State.configured, hphase]),
    finish_requested (noteChange_requested ?_ _)⟩
  have hjudged := judgeSequence_restart hheard hzero hnew
  rw [countTelegram_of_peer hr, judgeTelegram_of_accepted hwell (by simp [hjudged]), hjudged]
  refine acceptTelegram_requested (i := i) (sl := sl) hservice (by rw [hslots]; exact hslot) hstate ?_ tel order
  rw [peer?_station hr, hown']
  exact uses_iff.mpr ⟨hown, huses⟩

end Sys2Proof.Proofs
end

section
/-! PROOFS. Lane Q and the comparator in every step (O54, third part). -/

namespace Sys2Proof.Machine

/-! ### The comparison -/

theorem noteDifference_once {x : Tick} {item : LaneItem} {differs : Bool} {ds : List LaneDifference}
    (h : (ds.map (·.item)).Nodup) : ((noteDifference x item differs ds).map (·.item)).Nodup := by
  unfold noteDifference
  split
  · split
    · exact h
    next hheld =>
      rw [List.map_append, List.nodup_append]
      refine ⟨h, List.pairwise_singleton _ _, fun a ha b hb hab => hheld ?_⟩
      obtain ⟨d, hd, rfl⟩ := List.mem_map.mp ha
      obtain rfl : b = item := List.mem_singleton.mp hb
      exact List.any_eq_true.mpr ⟨d, hd, by simpa using hab⟩
  · exact h.sublist ((List.filter_sublist).map _)

/-- The items that the comparator holds after several have been compared: of those the ones that differ, and of the others
the ones held before. -/
theorem noteDifferences_item {x : Tick} {differs : LaneItem → Bool} {other : LaneItem} (items : List LaneItem) :
    ∀ ds : List LaneDifference,
      (∃ d ∈ items.foldl (fun ds item => noteDifference x item (differs item) ds) ds, d.item = other) ↔
        if other ∈ items then differs other = true else ∃ d ∈ ds, d.item = other := by
  induction items with
  | nil => simp
  | cons item items ih =>
    intro ds
    rw [List.foldl_cons, ih, noteDifference_item]
    by_cases hmem : other ∈ items
    · simp [hmem]
    · by_cases heq : other = item
      · simp [heq]
      · simp [hmem, heq]

theorem noteDifferences_once {x : Tick} {differs : LaneItem → Bool} (items : List LaneItem) :
    ∀ ds : List LaneDifference, (ds.map (·.item)).Nodup →
      ((items.foldl (fun ds item => noteDifference x item (differs item) ds) ds).map (·.item)).Nodup := by
  induction items with
  | nil => exact fun _ h => h
  | cons item items ih => exact fun ds h => ih _ (noteDifference_once h)

/-- The lanes differ in an item. -/
def Lanes.DiffersIn (p : Compared) (l : Lanes) (item : LaneItem) : Prop :=
  item ∈ l.faulty ∨ l.laneQ.inverts p item = false

theorem differs_iff {p : Compared} {l : Lanes} {item : LaneItem} : l.differs p item = true ↔ l.DiffersIn p item := by
  simp [Lanes.differs, Lanes.DiffersIn]

/-- The comparator holds, once each, of the items compared just those that differ, and a telegram's content only while it
differs. -/
structure Lanes.Judged (items : List LaneItem) (p : Compared) (l : Lanes) : Prop where
  differing : ∀ item ∈ items, (∃ d ∈ l.differing, d.item = item) ↔ l.DiffersIn p item
  content : (∃ d ∈ l.differing, d.item = .telegramContent) → l.DiffersIn p .telegramContent
  once : (l.differing.map (·.item)).Nodup

theorem holds_iff {l : Lanes} {item : LaneItem} : l.holds item = true ↔ ∃ d ∈ l.differing, d.item = item := by
  simp [Lanes.holds]

/-- A comparison judges the lanes as they stand, whatever the comparator held before. -/
theorem compare_judged {x : Tick} {items : List LaneItem} {p : Compared} {l : Lanes}
    (honce : (l.differing.map (·.item)).Nodup) : (Lanes.compare x items p l).Judged items p := by
  have hheld : ∀ other, (∃ d ∈ (Lanes.compare x items p l).differing, d.item = other) ↔
      if other ∈ l.live items then l.differs p other = true else ∃ d ∈ l.differing, d.item = other :=
    fun other => noteDifferences_item (l.live items) l.differing
  refine ⟨fun item hitem => ?_, fun h => ?_, noteDifferences_once _ _ honce⟩
  · have hlive : item ∈ l.live items := by
      unfold Lanes.live
      split
      · exact List.mem_append_left _ hitem
      · exact hitem
    rw [hheld, if_pos hlive]
    exact differs_iff
  · rw [hheld] at h
    split at h
    next => exact differs_iff.mp h
    next hlive =>
      refine absurd (?_ : LaneItem.telegramContent ∈ l.live items) hlive
      rw [Lanes.live, if_pos (holds_iff.mpr h)]
      simp

/-! ### How lane Q follows -/

/-- The events that lane Q has still to take are ordered and fall due within 1 ms. -/
structure Lanes.Behind (now : Tick) (l : Lanes) : Prop where
  soon : ∀ e ∈ l.behind, e.due ≤ now + 100
  ordered : (l.behind.map (·.due)).Pairwise (· ≤ ·)

/-- The evaluation that lane Q holds when it has taken all that it is behind by. -/
def Lanes.last (l : Lanes) : Complement Evaluation := (l.behind.getLast?.map (·.copy)).getD l.copy

theorem follow_last (now : Tick) (items : List LaneItem) (p : Compared) (events : List LaneEvent) :
    ∀ l : Lanes, (l.follow now items p events).last = (events.getLast?.map (·.copy)).getD l.copy := by
  induction events with
  | nil => exact fun _ => rfl
  | cons e rest ih =>
    intro l
    rw [Lanes.follow]
    split
    · rw [ih]
      cases rest with
      | nil => rfl
      | cons e' rest => simp [List.getLast?_cons]
    · rfl

theorem follow_behind (now : Tick) (items : List LaneItem) (p : Compared) (events : List LaneEvent) :
    ∀ l : Lanes, (l.follow now items p events).behind.Sublist events := by
  induction events with
  | nil => exact fun _ => List.Sublist.slnil
  | cons e rest ih =>
    intro l
    rw [Lanes.follow]
    split
    · exact (ih _).cons e
    · exact List.Sublist.refl _

theorem follow_judged (now : Tick) (items : List LaneItem) (p : Compared) (events : List LaneEvent) :
    ∀ l : Lanes, l.Judged items p → (l.follow now items p events).Judged items p := by
  induction events with
  | nil => exact fun l h => ⟨h.differing, h.content, h.once⟩
  | cons e rest ih =>
    intro l h
    rw [Lanes.follow]
    split
    · exact ih _ (compare_judged h.once)
    · exact ⟨h.differing, h.content, h.once⟩

theorem Lanes.Behind.of_sublist {now now' : Tick} {l l' : Lanes} (h : l.Behind now) (hsub : l'.behind.Sublist l.behind)
    (hnow : now ≤ now') : l'.Behind now' :=
  ⟨fun e he => Nat.le_trans (h.soon e (hsub.subset he)) (Nat.add_le_add_right hnow 100), h.ordered.sublist (hsub.map _)⟩

/-- An event that lane P takes is the last that lane Q is behind by. -/
theorem enqueue_last (now : Tick) (e : Evaluation) (l : Lanes) : (l.enqueue now e).last = ⟨e⟩ := by
  simp [Lanes.last, Lanes.enqueue]

theorem le_last_due {l : List LaneEvent} (h : (l.map (·.due)).Pairwise (· ≤ ·)) {e : LaneEvent} (he : e ∈ l) :
    e.due ≤ (l.getLast?.map (·.due)).getD 0 := by
  obtain ⟨init, last, rfl⟩ : ∃ init last, l = init ++ [last] := by
    rcases List.eq_nil_or_concat l with rfl | ⟨init, last, rfl⟩
    · cases he
    · exact ⟨init, last, by simp⟩
  simp only [List.getLast?_append, List.getLast?_singleton, Option.some_or, Option.map_some, Option.getD_some]
  rw [List.map_append, List.pairwise_append] at h
  obtain he | he := List.mem_append.mp he
  · exact h.2.2 e.due (List.mem_map_of_mem he) last.due (by simp)
  · exact Nat.le_of_eq (congrArg (·.due) (List.mem_singleton.mp he))

theorem enqueue_behind {now : Tick} {l : Lanes} (h : l.Behind now) (e : Evaluation) : (l.enqueue now e).Behind now := by
  have hlag : Config.laneLag l.events % (ms 1 + 1) ≤ 100 := Nat.lt_succ_iff.mp (Nat.mod_lt _ (by decide))
  have hlast : (l.behind.getLast?.map (·.due)).getD 0 ≤ now + 100 := by
    cases hbehind : l.behind.getLast? with
    | none => exact Nat.zero_le _
    | some last => exact h.soon last (List.mem_of_getLast? hbehind)
  refine ⟨fun x hx => ?_, ?_⟩
  · obtain hx | hx := List.mem_append.mp hx
    · exact h.soon x hx
    · rw [List.mem_singleton.mp hx]
      exact Nat.max_le.mpr ⟨hlast, Nat.add_le_add_left hlag now⟩
  · simp only [Lanes.enqueue, List.map_append, List.map_cons, List.map_nil]
    rw [List.pairwise_append]
    refine ⟨h.ordered, List.pairwise_singleton _ _, fun a ha b hb => ?_⟩
    obtain ⟨x, hx, rfl⟩ := List.mem_map.mp ha
    rw [List.mem_singleton.mp hb]
    exact Nat.le_trans (le_last_due h.ordered hx) (Nat.le_max_left ..)

/-! ### The lanes of a state -/

theorem lanesSound_iff {s : State} : LanesSound s ↔ s.lanes.time = ⟨s.now⟩ ∧ s.lanes.last = ⟨s.evaluation⟩ ∧
    s.lanes.Behind s.now ∧ s.lanes.Judged s.comparedItems s.laneP :=
  ⟨fun h => ⟨h.time, h.follows, ⟨h.soon, h.ordered⟩, ⟨h.differing, h.content, h.once⟩⟩,
    fun ⟨htime, hfollows, hbehind, hjudged⟩ => ⟨htime, hfollows, hbehind.soon, hbehind.ordered, hjudged.differing,
      hjudged.content, hjudged.once⟩⟩

/-- What the end of an event needs of the lanes. -/
structure LanesReady (s : State) : Prop where
  time : s.lanes.time = ⟨s.now⟩
  behind : s.lanes.Behind s.now
  once : (s.lanes.differing.map (·.item)).Nodup

theorem LanesSound.ready {s : State} (h : LanesSound s) : LanesReady s :=
  ⟨h.time, ⟨h.soon, h.ordered⟩, h.once⟩

/-- Lane P's part of an event stands, whatever lane Q held, once the lanes are compared at its end. -/
theorem noteLanes_sound {s : State} (h : LanesReady s) : LanesSound (noteLanes s) := by
  have hbehind := enqueue_behind h.behind s.evaluation
  exact lanesSound_iff.mpr ⟨h.time, enqueue_last .., ⟨hbehind.soon, hbehind.ordered⟩,
    compare_judged (l := s.lanes.enqueue s.now s.evaluation) h.once⟩

theorem LanesReady.of_eq {s t : State} (h : LanesReady s) (hnow : t.now = s.now) (hlanes : t.lanes = s.lanes) :
    LanesReady t := ⟨by rw [hlanes, hnow]; exact h.time, by rw [hlanes, hnow]; exact h.behind, by rw [hlanes]; exact h.once⟩

theorem finish_lanesSound {u : State} (h : LanesReady u) (b : State) : LanesSound (finish b u) :=
  noteLanes_sound (s := showOutputs (serve (fillSlot (noteChange b u)))) (h.of_eq (by simp) (by simp))

/-! ### Time -/

/-- What the lanes compare and hold stays, with the time that both count. -/
theorem LanesSound.of_wait {s t : State} (h : LanesSound s) (htime : t.lanes.time = ⟨t.now⟩)
    (hbehind : t.lanes.behind = s.lanes.behind) (hlast : t.lanes.last = ⟨t.evaluation⟩)
    (hjudged : t.lanes.Judged t.comparedItems t.laneP) (hnow : s.now ≤ t.now) : LanesSound t := by
  obtain ⟨-, -, hsoon, -⟩ := lanesSound_iff.mp h
  exact lanesSound_iff.mpr ⟨htime, hlast, hsoon.of_sublist (by simp only [hbehind, List.Sublist.refl]) hnow, hjudged⟩

/-- Lane Q's values are those of its copy, and the passing of time leaves them. -/
theorem Judged.of_wait {items : List LaneItem} {p : Compared} {l : Lanes} (h : l.Judged items p) (dt : Nat) :
    (l.wait dt).Judged items p := ⟨h.differing, h.content, h.once⟩

/-- Time that passes, with what lane Q takes in it. -/
theorem catchUp_lanesSound {s t : State} {dt : Nat} (h : LanesSound s)
    (ht : t = { s with now := s.now + dt, lanes := s.lanes.wait dt }) : LanesSound (catchUp t) := by
  obtain ⟨htime, hlast, hbehind, hjudged⟩ := lanesSound_iff.mp h
  have hjudged' : t.lanes.Judged t.comparedItems t.laneP := by subst ht; exact Judged.of_wait hjudged dt
  have hkeeps := follow_keeps t.now t.comparedItems t.laneP t.lanes.behind t.lanes
  have hsub : (catchUp t).lanes.behind.Sublist s.lanes.behind := by subst ht; exact follow_behind ..
  refine lanesSound_iff.mpr ⟨?_, ?_, ?_, follow_judged _ _ _ t.lanes.behind t.lanes hjudged'⟩
  · obtain ⟨_, _, _, hkeeps⟩ := hkeeps
    have hkept : (catchUp t).lanes.time = t.lanes.time := congrArg (·.time) hkeeps
    rw [hkept]
    subst ht
    simp only [Lanes.wait_time, htime]
    rfl
  · have hfollowed : (catchUp t).lanes.last = t.lanes.last := follow_last ..
    rw [hfollowed]
    subst ht
    exact hlast
  · refine hbehind.of_sublist hsub ?_
    subst ht
    exact Nat.le_add_right ..

theorem State.reach_eq_catchUp (s : State) (x : Tick) :
    s.reach x = catchUp { s with now := s.now + (x - s.now), lanes := s.lanes.wait (x - s.now) } := by
  have hnow : ∀ a b : Nat, max a b = a + (b - a) := by omega
  simp only [State.reach, State.upTo, hnow s.now x]

theorem LanesSound.reach {s : State} (h : LanesSound s) (x : Tick) : LanesSound (s.reach x) := by
  rw [State.reach_eq_catchUp]
  exact catchUp_lanesSound h rfl

/-- What is no part of the evaluation may change. -/
theorem LanesSound.of_eq {s t : State} (h : LanesSound s) (hnow : t.now = s.now) (hlanes : t.lanes = s.lanes)
    (hevaluation : t.evaluation = s.evaluation) (hitems : t.comparedItems = s.comparedItems) (hlaneP : t.laneP = s.laneP) :
    LanesSound t := by
  rw [lanesSound_iff] at h ⊢
  rw [hnow, hlanes, hevaluation, hitems, hlaneP]
  exact h

theorem Idles.lanesSound {s t : State} (h : Idles s t) (hs : LanesSound s) : LanesSound t := by
  cases h with
  | raises => exact hs.of_eq rfl rfl rfl rfl rfl
  | ticks =>
    have hpassed : LanesSound (s.pass 1) := catchUp_lanesSound hs rfl
    exact hpassed.of_eq rfl rfl rfl rfl rfl
  | samples pending freeUses runA runB restartFrom runs sampled heq =>
    obtain ⟨htime, hlast, hbehind, hjudged⟩ := lanesSound_iff.mp hs
    have hsame : sampled.now = s.now ∧ sampled.lanes = s.lanes ∧ sampled.comparedItems = s.comparedItems ∧
        sampled.laneP = s.laneP := by subst heq; exact ⟨rfl, rfl, rfl, rfl⟩
    obtain ⟨hnow, hlanes, hitems, hlaneP⟩ := hsame
    suffices hnoted : LanesSound (noteRuns s sampled) by exact hnoted.of_eq rfl rfl rfl rfl rfl
    unfold noteRuns
    split
    next hunchanged => exact hs.of_eq hnow hlanes hunchanged.symm hitems hlaneP
    next =>
      rw [← hnow, ← hlanes] at hbehind
      rw [← hnow, ← hlanes] at htime
      rw [← hlanes, ← hitems, ← hlaneP] at hjudged
      exact lanesSound_iff.mpr ⟨htime, enqueue_last .., enqueue_behind hbehind _,
        ⟨hjudged.differing, hjudged.content, hjudged.once⟩⟩

/-! ### What an event does to the lanes -/

/-- The commands whose event writes the lanes before its end. -/
def TouchesLanes : Instr → Prop
  | .lineWin _ | .laneMismatch _ | .clockCheckPeriodEnd _ => True
  | _ => False

theorem followPassage_lanes (a b : Bool) (w : State) :
    (followPassage a b w).lanes = w.lanes ∧ (followPassage a b w).now = w.now := by
  unfold followPassage
  split
  · exact ⟨by simp, by simp⟩
  · exact ⟨rfl, rfl⟩

theorem enterSilence_lanes (s : State) : (enterSilence s).lanes = s.lanes ∧ (enterSilence s).now = s.now := by
  obtain ⟨-, h⟩ | ⟨-, h⟩ := enterSilence_cases s <;> rw [h]
  · exact ⟨rfl, rfl⟩
  · exact ⟨by simp [enterRun], by simp [enterRun]⟩

theorem takeVerdict_lanes (v : Verdict) (s : State) :
    (takeVerdict v s).lanes = s.lanes ∧ (takeVerdict v s).now = s.now := by
  obtain ⟨_, h⟩ | ⟨_, _, h⟩ | ⟨_, h⟩ := takeVerdict_cases v s <;> rw [h]
  · exact ⟨rfl, rfl⟩
  · exact ⟨rfl, rfl⟩
  · exact ⟨enterLockdown_lanes .., enterLockdown_now ..⟩

theorem selfTest_lanes {w passed : State} {passes : Prop} [Decidable passes]
    (h : passed.lanes = w.lanes ∧ passed.now = w.now) :
    (if passes then passed else enterLockdown .selfTestFault w).lanes = w.lanes ∧
      (if passes then passed else enterLockdown .selfTestFault w).now = w.now := by
  split
  · exact h
  · exact ⟨enterLockdown_lanes .., enterLockdown_now ..⟩

theorem judgeQuery_lanes {kind : Byte} {inRange : Bool} {answer : State → State} {s : State}
    (h : (answer s).lanes = s.lanes ∧ (answer s).now = s.now) :
    (judgeQuery kind inRange answer s).lanes = s.lanes ∧ (judgeQuery kind inRange answer s).now = s.now := by
  obtain h' | ⟨-, h'⟩ := judgeQuery_cases kind inRange answer s <;> rw [h']
  · exact ⟨rfl, rfl⟩
  · exact h

theorem effect_lanes {c : Instr} (hc : ¬TouchesLanes c) (w : State) :
    (effect c w).lanes = w.lanes ∧ (effect c w).now = w.now := by
  cases c with
  | lineWin | laneMismatch | clockCheckPeriodEnd => exact absurd trivial hc
  | filteredChange dt a b => exact followPassage_lanes a b (takeFiltered a b w)
  | configReadEnd =>
    dsimp only [effect]
    split <;> exact ⟨rfl, rfl⟩
  | lineLoopTest | laneTest => exact selfTest_lanes ⟨rfl, rfl⟩
  | readBackTest => exact selfTest_lanes (enterSilence_lanes w)
  | silenceEnd =>
    dsimp only [effect]
    split
    · split <;> exact ⟨by simp, by simp⟩
    · split <;> exact ⟨by simp [enterRun], by simp [enterRun]⟩
  | spike | headFault =>
    dsimp only [effect]
    split <;> exact ⟨by simp, by simp⟩
  | receptionIdle =>
    dsimp only [effect]
    split
    · exact ⟨rfl, rfl⟩
    · exact takeVerdict_lanes ..
  | countTelegram dt tel order =>
    dsimp only [effect]
    split
    next r _ =>
      obtain h | ⟨-, -, h⟩ := judgeTelegram_cases r tel order w <;> rw [h]
      · exact ⟨rfl, rfl⟩
      · obtain ⟨_, _, _, _, _, heq⟩ := acceptTelegram_eq r (judgeSequence r tel.sequence) tel order w
        rw [heq]
        exact ⟨rfl, rfl⟩
    next => exact ⟨rfl, rfl⟩
  | sectionQuery dt parameter =>
    obtain ⟨_, h⟩ := answerSection_eq parameter w
    exact judgeQuery_lanes (by rw [h]; exact ⟨rfl, rfl⟩)
  | peersQuery | logQuery | clearDiag => exact judgeQuery_lanes ⟨rfl, rfl⟩
  | collision =>
    dsimp only [effect]
    split
    · obtain ⟨_, _, _, h⟩ := dropFrame_eq (countCollision (releaseLine w))
      rw [h]
      exact ⟨rfl, rfl⟩
    · exact ⟨rfl, rfl⟩
  | attemptCompletion | heartbeatExpiry =>
    dsimp only [effect]
    split <;> exact ⟨by simp, by simp⟩
  | lockdownTelegramTimer => exact ⟨by simp [effect], by simp [effect]⟩
  | peerLost n =>
    obtain ⟨_, h⟩ := peerLost_eq n w
    rw [h]
    exact ⟨rfl, rfl⟩
  | negativeBalance i => exact ⟨by simp [effect], by simp [effect]⟩
  | halfPeriodTick read => exact ⟨judgeCounts_lanes _, judgeCounts_now _⟩
  | tickWatchExpiry => exact ⟨judgeCounts_lanes _, judgeCounts_now _⟩
  | debouncedLevelChange | confirmSweep | confirmDirect =>
    obtain ⟨_, _, _, _, h⟩ := takeOperatorSample_eq (sampledLevels _ w) w
    dsimp only [effect]
    rw [h]
    exact ⟨rfl, rfl⟩
  | alarmPatternStep =>
    dsimp only [effect]
    split <;> exact ⟨rfl, rfl⟩
  | _ => exact ⟨rfl, rfl⟩

theorem handOver_once {l : Lanes} (h : (l.differing.map (·.item)).Nodup) (item : LaneItem) :
    ((l.handOver item).differing.map (·.item)).Nodup := by
  rw [Lanes.handOver, List.map_append, List.nodup_append]
  refine ⟨h.sublist (List.filter_sublist.map _), List.pairwise_singleton _ _, fun a ha b hb hab => ?_⟩
  obtain ⟨d, hd, rfl⟩ := List.mem_map.mp ha
  obtain rfl : b = item := List.mem_singleton.mp hb
  simp only [List.mem_filter, bne_iff_ne, ne_eq] at hd
  exact hd.2 hab

theorem LanesReady.lockdown {s : State} (h : LanesReady s) (cause : LockdownCause) : LanesReady (enterLockdown cause s) :=
  h.of_eq (enterLockdown_now ..) (enterLockdown_lanes ..)

theorem compareCopies_ready {v : State} (h : LanesReady v) (fault : Bool) : LanesReady (compareCopies fault v) := by
  unfold compareCopies
  split
  · exact ⟨h.time, ⟨h.behind.soon, h.behind.ordered⟩, noteDifference_once h.once⟩
  · exact h

theorem effect_lanesReady (c : Instr) {w : State} (h : LanesReady w) : LanesReady (effect c w) := by
  by_cases htouches : TouchesLanes c
  · cases c <;> try exact htouches.elim
    case lineWin fault =>
      dsimp only [effect]
      refine compareCopies_ready ?_ fault
      exact h.of_eq rfl rfl
    case laneMismatch item =>
      refine LanesReady.lockdown (s := { w with lanes := w.lanes.handOver item }) ?_ _
      exact ⟨h.time, ⟨h.behind.soon, h.behind.ordered⟩, handOver_once h.once item⟩
    case clockCheckPeriodEnd =>
      have hperiod : LanesReady { w with lanes := { w.lanes with periodSince := clockPeriodDue w } } :=
        ⟨h.time, ⟨h.behind.soon, h.behind.ordered⟩, h.once⟩
      dsimp only [effect]
      split
      · exact hperiod.lockdown _
      · exact hperiod
  · obtain ⟨hlanes, hnow⟩ := effect_lanes htouches w
    exact h.of_eq hnow hlanes

/-! ### The start -/

theorem inverts_inverse (p : Compared) (item : LaneItem) : p.inverse.inverts p item = true := by
  cases item <;> simp [Compared.inverts, Compared.inverse]

/-- Aligned, the lanes differ in nothing. -/
theorem alignLanes_sound {s : State} (hlanes : s.lanes = Lanes.start) (hnow : s.now = 0) : LanesSound (alignLanes s) := by
  have hbehind : (alignLanes s).lanes.behind = [] := by rw [alignLanes, hlanes]; rfl
  have hdiffering : (alignLanes s).lanes.differing = [] := by rw [alignLanes, hlanes]; rfl
  have hfaulty : (alignLanes s).lanes.faulty = [] := by rw [alignLanes, hlanes]; rfl
  have htime : (alignLanes s).lanes.time = ⟨(alignLanes s).now⟩ := by
    have hzero : (alignLanes s).now = 0 := hnow
    rw [hzero, alignLanes, hlanes]
    rfl
  refine lanesSound_iff.mpr ⟨htime, ?_, ⟨by simp [hbehind], by simp [hbehind]⟩, ⟨fun item _ => ?_, ?_, by simp [hdiffering]⟩⟩
  · simp only [Lanes.last, hbehind]
    rfl
  · simp only [Lanes.DiffersIn, hdiffering, hfaulty, alignLanes_laneQ, inverts_inverse]
    simp
  · simp [hdiffering]

theorem step_lanesSound {s t : State} (hs : LanesSound s) (h : step s = .next t) : LanesSound t := by
  refine step_keeps h (fun rest hs => hs.of_eq rfl rfl rfl rfl rfl) (fun _ _ _ _ _ _ _ _ => alignLanes_sound rfl rfl)
    (fun c x rest hs => ?_) (fun c x rest _ hw => finish_lanesSound (effect_lanesReady c hw.ready) _)
    (fun u hidles hs => hidles.lanesSound hs) hs
  refine LanesSound.reach ?_ x
  obtain ⟨_, hunhand⟩ := State.unhand_eq c { s with pending := rest }
  rw [hunhand]
  exact hs.of_eq rfl rfl rfl rfl rfl

end Sys2Proof.Machine
end

section
/-! PROOFS. The patterns of lamps, status line and alarm in every step (O54, first and second part): the end of an event, and
the commands that write them before it. -/

namespace Sys2Proof.Machine

/-! ### The end of an event -/

theorem finish_shown (b u : State) : ∃ v lanes, v.outputs = u.outputs ∧ finish b u = { showOutputs v with lanes := lanes } :=
  ⟨serve (fillSlot (noteChange b u)), _, by simp, rfl⟩

theorem finish_lamp (b u : State) (i : Fin 4) : (finish b u).outputs.lamps[i] =
    u.outputs.lamps[i].command (finish b u).now ((finish b u).lampCommand i) := by
  obtain ⟨v, lanes, hv, h⟩ := finish_shown b u
  rw [h, ← hv]
  simp only [showOutputs, Fin.getElem_fin, Vector.getElem_ofFn]
  rfl

theorem finish_status (b u : State) :
    (finish b u).outputs.status = u.outputs.status.command (finish b u).now (finish b u).inService := by
  obtain ⟨v, lanes, hv, h⟩ := finish_shown b u
  rw [h, ← hv]
  rfl

theorem finish_alarm (b u : State) :
    (finish b u).outputs.alarm = u.outputs.alarm.command (finish b u).now (finish b u).alarmCondition := by
  obtain ⟨v, lanes, hv, h⟩ := finish_shown b u
  rw [h, ← hv]
  rfl

theorem finish_pairs (b u : State) : (finish b u).outputs.pairs = u.outputs.pairs :=
  congrArg (·.outputs.pairs) (finish_ends b u).rest

/-! ### Each output after a command of its pattern -/

/-- A lamp that takes its pattern from the beginning of its first on time. -/
def Lamp.Fresh (now : Tick) (l : Lamp) : Prop := l.lit = (l.pattern != .off) ∧ l.since = now

theorem Lamp.command_cases (now : Tick) (p : LampPattern) (l : Lamp) :
    (l.pattern = p ∧ l.command now p = l) ∨ (l.pattern ≠ p ∧ (l.command now p).pattern = p ∧ (l.command now p).Fresh now) := by
  unfold Lamp.command
  split
  next h => exact .inl ⟨h, rfl⟩
  next h => exact .inr ⟨h, rfl, rfl, rfl⟩

theorem Lamp.command_pattern (now : Tick) (p : LampPattern) (l : Lamp) : (l.command now p).pattern = p := by
  obtain ⟨h, heq⟩ | ⟨-, h, -⟩ := l.command_cases now p
  · rw [heq, h]
  · exact h

theorem StatusLine.command_isSome (now : Tick) (inService : Bool) (l : StatusLine) :
    (l.command now inService).since.isSome = inService := by
  unfold StatusLine.command
  cases inService
  · rfl
  · simp only [if_true]
    split
    next h => simp [h]
    next => rfl

theorem StatusLine.command_low (now : Tick) (l : StatusLine) : (l.command now false).high = false := rfl

theorem Alarm.command_shows (now : Tick) (condition : Option AlarmCondition) (a : Alarm) (c : AlarmCondition) :
    (a.command now condition).shows = .standing c ↔ condition = some c := by
  unfold Alarm.command
  cases condition with
  | none =>
    dsimp only
    split
    next => simp
    next h => simp [h]
    next h => simp [h]
  | some c' =>
    dsimp only
    split
    next h => simp [h]
    next => simp

/-! ### The outputs follow the state -/

/-- No clear pair has both lines high. -/
def Outputs.PairsApart (o : Outputs) : Prop := ∀ i : Fin 4, ¬(o.pairs[i].p.level = true ∧ o.pairs[i].q.level = true)

theorem Outputs.PairsApart.of_eq {o o' : Outputs} (h : o.PairsApart) (heq : o'.pairs = o.pairs) : o'.PairsApart :=
  fun i => by rw [heq]; exact h i

theorem setLevels_apart (s : State) : (setLevels s).outputs.PairsApart := by
  rintro i ⟨hp, hq⟩
  simp only [setLevels, Fin.getElem_fin, Vector.getElem_ofFn, ClearPair.set, ClearLine.set, Bool.and_eq_true,
    Bool.not_eq_true'] at hp hq
  simp [hp.2] at hq

theorem judgeCounts_apart {s : State} (h : s.outputs.PairsApart) : (judgeCounts s).outputs.PairsApart := by
  obtain h' | h' := judgeCounts_cases s <;> rw [h']
  · exact h
  · rw [enterLockdown_outputs]
    intro i
    simpa [ClearPair.forget] using h i

theorem release_apart (o : Outputs) : Outputs.PairsApart { o with pairs := o.pairs.map ClearPair.release } := by
  intro i
  simp [ClearPair.release, ClearLine.release]

theorem effect_apart (c : Instr) {w : State} (h : w.outputs.PairsApart) : (effect c w).outputs.PairsApart := by
  by_cases htouches : TouchesPairs c
  · cases c <;> try exact htouches.elim
    case halfPeriodTick => exact setLevels_apart _
    case tickWatchExpiry =>
      exact judgeCounts_apart ((release_apart w.outputs).of_eq rfl)
  · exact h.of_eq (effect_pairs htouches w)

/-- The end of an event leaves every output showing what the state commands. -/
theorem finish_follows {u : State} (h : u.outputs.PairsApart) (b : State) : OutputsFollow (finish b u) where
  pairs := h.of_eq (finish_pairs b u)
  lamps i := by rw [finish_lamp]; exact Lamp.command_pattern ..
  status := by rw [finish_status]; exact StatusLine.command_isSome ..
  statusLow hservice := by rw [finish_status, hservice]; exact StatusLine.command_low ..
  alarm c := by rw [finish_alarm]; exact Alarm.command_shows ..

theorem OutputsFollow.of_eq {s t : State} (h : OutputsFollow s) (houtputs : t.outputs = s.outputs)
    (hlamps : t.lampCommand = s.lampCommand) (hservice : t.inService = s.inService)
    (halarm : t.alarmCondition = s.alarmCondition) : OutputsFollow t where
  pairs := by rw [houtputs]; exact h.pairs
  lamps := by rw [houtputs, hlamps]; exact h.lamps
  status := by rw [houtputs, hservice]; exact h.status
  statusLow := by rw [houtputs, hservice]; exact h.statusLow
  alarm := by rw [houtputs, halarm]; exact h.alarm

theorem Idles.follows {s t : State} (h : Idles s t) (hs : OutputsFollow s) : OutputsFollow t := by
  cases h with
  | raises => exact hs.of_eq rfl rfl rfl rfl
  | ticks => exact hs.of_eq rfl rfl rfl rfl
  | samples pending freeUses runA runB restartFrom runs sampled heq =>
    obtain ⟨_, _, hnote⟩ := noteRuns_eq s sampled
    rw [hnote, heq]
    exact hs.of_eq rfl rfl rfl rfl

theorem step_follows {s t : State} (hs : OutputsFollow s) (h : step s = .next t) : OutputsFollow t := by
  refine step_keeps h (fun rest hs => hs.of_eq rfl rfl rfl rfl) ?_ (fun c x rest hs => ?_)
    (fun c x rest _ hw => finish_follows (effect_apart c hw.pairs) _) (fun u hidles hs => hidles.follows hs) hs
  · intro held reading log record pins freeUses pending _
    refine ⟨fun i => ?_, fun i => ?_, rfl, fun _ => rfl, fun c => ?_⟩
    · simp [alignLanes, State.reset, Outputs.start]
    · simp [alignLanes, State.reset, Outputs.start, State.lampCommand]
    · simp [alignLanes, State.reset, Outputs.start, State.alarmCondition, Line.start]
  · obtain ⟨_, _, hreach⟩ := unhand_reach_eq c x rest s
    rw [hreach]
    exact hs.of_eq rfl rfl rfl rfl

/-! ### Patterns run on -/

/-- How a lamp goes on: a new pattern starts from its first on time, and one that stays runs on but for its own step, or a
telegram that may take its slot to another pattern and back. -/
structure LampRunsOn (s t : State) (i : Fin 4) : Prop where
  starts : t.outputs.lamps[i].pattern ≠ s.outputs.lamps[i].pattern → t.outputs.lamps[i].Fresh t.now
  runsOn : t.outputs.lamps[i].pattern = s.outputs.lamps[i].pattern →
    t.outputs.lamps[i] = s.outputs.lamps[i] ∨ s.pending.head? = some (.lampPatternStep i) ∨
      (ShowsAgreeing s ∧ t.outputs.lamps[i].Fresh t.now)

/-- How the status line goes on. -/
structure StatusRunsOn (s t : State) : Prop where
  starts : s.outputs.status.since = none → t.outputs.status.since ≠ none →
    t.outputs.status = { high := true, since := some t.now }
  runsOn : s.outputs.status.since ≠ none → t.outputs.status.since ≠ none →
    t.outputs.status = s.outputs.status ∨ s.pending.head? = some .statusLineToggle

/-- A refusal pattern asked for on a command on which a confirm edge is judged. -/
def RefusalAsked (s t : State) : Prop :=
  t.outputs.alarm = { shows := .refusal, place := 0, sounding := true, since := t.now } ∧
    ∃ c rest, s.pending = c :: rest ∧ Confirms c

/-- How the alarm goes on. -/
structure AlarmRunsOn (s t : State) : Prop where
  starts : ∀ c, s.outputs.alarm.shows ≠ .standing c → t.outputs.alarm.shows = .standing c →
    t.outputs.alarm = { shows := .standing c, place := 0, sounding := true, since := t.now }
  runsOn : ∀ c, s.outputs.alarm.shows = .standing c → t.outputs.alarm.shows = .standing c →
    t.outputs.alarm = s.outputs.alarm ∨ s.pending.head? = some .alarmPatternStep
  refusalStarts : s.outputs.alarm.shows ≠ .refusal → t.outputs.alarm.shows = .refusal → RefusalAsked s t
  refusalRunsOn : s.outputs.alarm.shows = .refusal → t.alarmCondition = none →
    t.outputs.alarm = s.outputs.alarm ∨ s.pending.head? = some .refusalPatternStep ∨ RefusalAsked s t
  silent : s.outputs.alarm.shows = .silent → t.outputs.alarm.shows = .silent → t.outputs.alarm = s.outputs.alarm

theorem patternsRunOn_iff {s t : State} :
    PatternsRunOn s t ↔ (∀ i, LampRunsOn s t i) ∧ StatusRunsOn s t ∧ AlarmRunsOn s t :=
  ⟨fun h => ⟨fun i => ⟨h.lampStarts i, h.lampRunsOn i⟩, ⟨h.statusStarts, h.statusRunsOn⟩,
      ⟨h.alarmStarts, h.alarmRunsOn, h.refusalStarts, h.refusalRunsOn, h.silent⟩⟩,
    fun ⟨hlamps, hstatus, halarm⟩ => ⟨fun i => (hlamps i).starts, fun i => (hlamps i).runsOn, hstatus.starts,
      hstatus.runsOn, halarm.starts, halarm.runsOn, halarm.refusalStarts, halarm.refusalRunsOn, halarm.silent⟩⟩

theorem patternsRunOn_of_eq {s t : State} (h : t.outputs = s.outputs) : PatternsRunOn s t := by
  refine patternsRunOn_iff.mpr ⟨fun i => ⟨fun hne => ?_, fun _ => .inl (by rw [h])⟩, ⟨fun hnone hsome => ?_, fun _ _ => ?_⟩,
    ⟨fun c hne heq => ?_, fun c _ _ => ?_, fun hne heq => ?_, fun _ _ => ?_, fun _ _ => by rw [h]⟩⟩
  · exact absurd (by rw [h]) hne
  · exact absurd (by rw [h]; exact hnone) hsome
  · exact .inl (by rw [h])
  · exact absurd (by rw [← h]; exact heq) hne
  · exact .inl (by rw [h])
  · exact absurd (by rw [← h]; exact heq) hne
  · exact .inl (by rw [h])

/-! ### What an event does to the outputs before its end -/

/-- The order in which a slot goes through its lamp patterns on a telegram without an AGREEING view: it leaves CLEAR, SWEEP or
AGREEING for OCCUPIED or CLEARING, and any state for DISTURBED. -/
def LampPattern.rank : LampPattern → Nat
  | .off | .flashMedium => 0
  | .steady => 1
  | .flashSlow => 2
  | .flashFast => 3

def LampPattern.Rises (p q : LampPattern) : Prop := q = p ∨ p.rank < q.rank

theorem LampPattern.Rises.trans {p q r : LampPattern} (h : p.Rises q) (h' : q.Rises r) : p.Rises r := by
  obtain rfl | h := h
  · exact h'
  · obtain rfl | h' := h'
    · exact .inr h
    · exact .inr (Nat.lt_trans h h')

/-- A lamp runs on or has gone on to a pattern of higher rank. -/
def Lamp.Rises (l l' : Lamp) : Prop := l' = l ∨ l.pattern.rank < l'.pattern.rank

theorem Lamp.Rises.command {l l' : Lamp} (h : l.Rises l') {p : LampPattern} (hp : l'.pattern.Rises p) (now : Tick) :
    l.Rises (l'.command now p) := by
  obtain ⟨-, heq⟩ | ⟨hne, hpattern, -⟩ := l'.command_cases now p
  · rw [heq]; exact h
  · have hrank := hp.resolve_left (Ne.symm hne)
    refine .inr ?_
    rw [hpattern]
    obtain rfl | h := h
    · exact hrank
    · exact Nat.lt_trans h hrank

theorem Lamp.Rises.eq_of_pattern {l l' : Lamp} (h : l.Rises l') (hpattern : l'.pattern = l.pattern) : l' = l := by
  obtain h | h := h
  · exact h
  · rw [hpattern] at h
    exact absurd h (Nat.lt_irrefl _)

/-- A lamp runs on or has taken a pattern from the beginning. -/
def Lamp.Moves (now : Tick) (l l' : Lamp) : Prop := l' = l ∨ l'.Fresh now

theorem Lamp.Moves.command {now : Tick} {l l' : Lamp} (h : l.Moves now l') (p : LampPattern) :
    l.Moves now (l'.command now p) := by
  obtain ⟨-, heq⟩ | ⟨-, -, hfresh⟩ := l'.command_cases now p
  · rw [heq]; exact h
  · exact .inr hfresh

/-- No view of the telegram is AGREEING. -/
def Calm (tel : Telegram) : Prop := ∀ v ∈ tel.views, v.state ≠ 2

theorem not_calm {tel : Telegram} (h : ¬Calm tel) : ∃ v ∈ tel.views, v.state = 2 := by
  obtain ⟨v, hv⟩ := Classical.not_forall.mp h
  obtain ⟨hmem, hstate⟩ := Classical.not_imp.mp hv
  exact ⟨v, hmem, Classical.not_not.mp hstate⟩

/-- What an event does to a lamp before its end: nothing; its step; or what the parts of a telegram show. -/
inductive LampEvent (c : Instr) (w u : State) (i : Fin 4) : Prop where
  | kept : u.outputs.lamps[i] = w.outputs.lamps[i] → LampEvent c w u i
  | stepped : u.outputs.lamps[i].pattern = w.outputs.lamps[i].pattern → c = .lampPatternStep i → LampEvent c w u i
  | told (dt : Nat) (tel : Telegram) (order : TakingOrder) : c = .countTelegram dt tel order →
      u.outputs.lamps[i].pattern = u.lampCommand i → w.outputs.lamps[i].Moves u.now u.outputs.lamps[i] →
      (Calm tel → w.outputs.lamps[i].Rises u.outputs.lamps[i]) → LampEvent c w u i

/-- What an event does to the status line before its end. -/
inductive StatusEvent (c : Instr) (w u : State) : Prop where
  | kept : u.outputs.status = w.outputs.status → StatusEvent c w u
  | toggled : w.outputs.status.since ≠ none → c = .statusLineToggle → StatusEvent c w u

/-- What an event does to the alarm before its end: nothing; a step of its standing pattern; a step of the refusal pattern; or
a refusal is asked for. -/
inductive AlarmEvent (c : Instr) (w u : State) : Prop where
  | kept : u.outputs.alarm = w.outputs.alarm → AlarmEvent c w u
  | stepped (condition : AlarmCondition) : w.outputs.alarm.shows = .standing condition →
      u.outputs.alarm.shows = .standing condition → c = .alarmPatternStep → AlarmEvent c w u
  | played : w.outputs.alarm.shows = .refusal → (∀ condition, u.outputs.alarm.shows ≠ .standing condition) →
      c = .refusalPatternStep → AlarmEvent c w u
  | asked : (∀ condition, w.outputs.alarm.shows ≠ .standing condition) →
      u.outputs.alarm = { shows := .refusal, place := 0, sounding := true, since := u.now } → Confirms c → AlarmEvent c w u

theorem finish_lampCommand (b u : State) : (finish b u).lampCommand = u.lampCommand := by
  funext i
  simp only [State.lampCommand, State.slot?, finish_lockdown, finish_phase, finish_slots]

theorem LampEvent.runsOn {c : Instr} {rest : List Instr} {s w u : State} {i : Fin 4} (h : LampEvent c w u i) (b : State)
    (hpending : s.pending = c :: rest) (houtputs : w.outputs = s.outputs) : LampRunsOn s (finish b u) i := by
  have hlamp := finish_lamp b u i
  cases h with
  | kept hkept =>
    rw [hkept, houtputs] at hlamp
    obtain ⟨hpattern, heq⟩ | ⟨hpattern, hnew, hfresh⟩ := Lamp.command_cases (finish b u).now ((finish b u).lampCommand i)
      s.outputs.lamps[i] <;> rw [← hlamp] at *
    · exact ⟨fun hne => absurd (by rw [heq]) hne, fun _ => .inl heq⟩
    · exact ⟨fun _ => hfresh, fun hsame => absurd (hsame.symm.trans hnew) hpattern⟩
  | stepped hkept hc =>
    refine ⟨fun hne => ?_, fun _ => .inr (.inl (by rw [hpending, hc]; rfl))⟩
    obtain ⟨-, heq⟩ | ⟨-, -, hfresh⟩ := Lamp.command_cases (finish b u).now ((finish b u).lampCommand i)
      u.outputs.lamps[i] <;> rw [← hlamp] at *
    · exact absurd (by rw [heq, hkept, houtputs]) hne
    · exact hfresh
  | told dt tel order hc hshown hmoves hrises =>
    have hsame : (finish b u).outputs.lamps[i] = u.outputs.lamps[i] := by
      rw [hlamp, finish_lampCommand, Lamp.command, if_pos hshown]
    rw [houtputs] at hmoves hrises
    rw [← finish_now b u] at hmoves
    constructor <;> rw [hsame]
    · exact fun hne => hmoves.resolve_left fun heq => hne (by rw [heq])
    · intro hpattern
      by_cases hcalm : Calm tel
      · exact .inl ((hrises hcalm).eq_of_pattern hpattern)
      · obtain heq | hfresh := hmoves
        · exact .inl heq
        · exact .inr (.inr ⟨⟨dt, tel, order, rest, by rw [hpending, hc], not_calm hcalm⟩, hfresh⟩)

theorem StatusEvent.runsOn {c : Instr} {rest : List Instr} {s w u : State} (h : StatusEvent c w u) (b : State)
    (hpending : s.pending = c :: rest) (houtputs : w.outputs = s.outputs) : StatusRunsOn s (finish b u) := by
  have hstatus := finish_status b u
  cases h with
  | kept hkept =>
    rw [hkept, houtputs] at hstatus
    unfold StatusLine.command at hstatus
    split at hstatus
    · split at hstatus
      next x hsince => exact ⟨fun hnone => by simp [hsince] at hnone, fun _ _ => .inl hstatus⟩
      next hsince => exact ⟨fun _ _ => hstatus, fun hsome => absurd hsince hsome⟩
    · constructor <;> intro _ hsome <;> exact absurd (by rw [hstatus]) hsome
  | toggled hruns hc =>
    rw [houtputs] at hruns
    exact ⟨fun hnone => absurd hnone hruns, fun _ _ => .inr (by rw [hpending, hc]; rfl)⟩

theorem Alarm.command_new {a : Alarm} {c : AlarmCondition} (h : a.shows ≠ .standing c) (now : Tick) :
    a.command now (some c) = { shows := .standing c, place := 0, sounding := true, since := now } := if_neg h

theorem Alarm.command_standing {a : Alarm} {c : AlarmCondition} (h : a.shows = .standing c) (now : Tick) :
    a.command now (some c) = a := if_pos h

theorem Alarm.command_none {a : Alarm} (h : ∀ c, a.shows ≠ .standing c) (now : Tick) : a.command now none = a := by
  unfold Alarm.command
  cases hshows : a.shows with
  | standing c => exact absurd hshows (h c)
  | silent | refusal => rfl

/-- An alarm that shows no standing pattern after a command of none shows what it did before, or has gone silent. -/
theorem Alarm.command_other {a : Alarm} {now : Tick} {condition : Option AlarmCondition}
    (h : ∀ c, (a.command now condition).shows ≠ .standing c) : condition = none ∧
      (a.command now condition = a ∨ ((a.command now condition).shows = .silent ∧ ∃ c, a.shows = .standing c)) := by
  cases condition with
  | some c => exact absurd ((Alarm.command_shows now (some c) a c).mpr rfl) (h c)
  | none =>
    refine ⟨rfl, ?_⟩
    unfold Alarm.command
    dsimp only
    split
    next c hshows => exact .inr ⟨rfl, c, hshows⟩
    next => exact .inl rfl
    next => exact .inl rfl

theorem finish_alarm_shows (b u : State) (x : AlarmCondition) :
    (finish b u).outputs.alarm.shows = .standing x ↔ (finish b u).alarmCondition = some x := by
  rw [finish_alarm]
  exact Alarm.command_shows ..

theorem finish_alarm_new {b u : State} {x : AlarmCondition} (hne : u.outputs.alarm.shows ≠ .standing x)
    (hx : (finish b u).outputs.alarm.shows = .standing x) :
    (finish b u).outputs.alarm = { shows := .standing x, place := 0, sounding := true, since := (finish b u).now } := by
  rw [finish_alarm, (finish_alarm_shows b u x).mp hx]
  exact Alarm.command_new hne _

theorem finish_alarm_other {b u : State} (hne : ∀ x, (finish b u).outputs.alarm.shows ≠ .standing x) :
    (finish b u).outputs.alarm = u.outputs.alarm ∨
      ((finish b u).outputs.alarm.shows = .silent ∧ ∃ x, u.outputs.alarm.shows = .standing x) := by
  rw [finish_alarm] at hne ⊢
  exact (Alarm.command_other hne).2

theorem finish_alarm_none {b u : State} (hnone : (finish b u).alarmCondition = none)
    (hu : ∀ x, u.outputs.alarm.shows ≠ .standing x) : (finish b u).outputs.alarm = u.outputs.alarm := by
  rw [finish_alarm, hnone]
  exact Alarm.command_none hu _

theorem alarmRunsOn_of_kept {s b u : State} (hkept : u.outputs.alarm = s.outputs.alarm) : AlarmRunsOn s (finish b u) where
  starts x hne hx := finish_alarm_new (by rw [hkept]; exact hne) hx
  runsOn x hs hx := by
    rw [finish_alarm, (finish_alarm_shows b u x).mp hx, hkept]
    exact .inl (Alarm.command_standing hs _)
  refusalStarts hne hrefusal := by
    obtain heq | ⟨hsilent, -⟩ := finish_alarm_other (b := b) (u := u) (by simp [hrefusal])
    · rw [heq, hkept] at hrefusal
      exact absurd hrefusal hne
    · simp [hrefusal] at hsilent
  refusalRunsOn hs hnone := .inl ((finish_alarm_none hnone (by simp [hkept, hs])).trans hkept)
  silent hs ht := by
    obtain heq | ⟨-, x, hx⟩ := finish_alarm_other (b := b) (u := u) (by simp [ht])
    · exact heq.trans hkept
    · simp [hkept, hs] at hx

theorem AlarmEvent.runsOn {c : Instr} {rest : List Instr} {s w u : State} (h : AlarmEvent c w u) (b : State)
    (hpending : s.pending = c :: rest) (houtputs : w.outputs = s.outputs) : AlarmRunsOn s (finish b u) := by
  cases h with
  | kept hkept => exact alarmRunsOn_of_kept (hkept.trans (by rw [houtputs]))
  | stepped condition hstood hstands hc =>
    rw [houtputs] at hstood
    refine ⟨fun x hne hx => finish_alarm_new ?_ hx, fun x _ _ => .inr (by rw [hpending, hc]; rfl), fun _ hrefusal => ?_,
      fun hrefusal => by simp [hstood] at hrefusal, fun hsilent => by simp [hstood] at hsilent⟩
    · rw [hstands]
      exact fun heq => hne (hstood.trans heq)
    · obtain heq | ⟨hsilent, -⟩ := finish_alarm_other (b := b) (u := u) (by simp [hrefusal])
      · simp [heq, hstands] at hrefusal
      · simp [hrefusal] at hsilent
  | played hstood hplays hc =>
    rw [houtputs] at hstood
    exact ⟨fun x _ hx => finish_alarm_new (hplays x) hx, fun x hx => by simp [hstood] at hx, fun hne => absurd hstood hne,
      fun _ _ => .inr (.inl (by rw [hpending, hc]; rfl)), fun hsilent => by simp [hstood] at hsilent⟩
  | asked hnone hasked hc =>
    rw [houtputs] at hnone
    have hrefused : (finish b u).outputs.alarm = u.outputs.alarm → RefusalAsked s (finish b u) := fun heq =>
      ⟨by rw [heq, hasked, finish_now], c, rest, hpending, hc⟩
    refine ⟨fun x _ hx => finish_alarm_new (by simp [hasked]) hx, fun x hx => absurd hx (hnone x), fun _ hrefusal => ?_,
      fun _ hcondition => .inr (.inr (hrefused (finish_alarm_none hcondition (by simp [hasked])))), fun _ hsilent => ?_⟩
    · obtain heq | ⟨-, x, hx⟩ := finish_alarm_other (b := b) (u := u) (by simp [hrefusal])
      · exact hrefused heq
      · simp [hasked] at hx
    · obtain heq | ⟨-, x, hx⟩ := finish_alarm_other (b := b) (u := u) (by simp [hsilent])
      · simp [heq, hasked] at hsilent
      · simp [hasked] at hx

end Sys2Proof.Machine
end

section
/-! PROOFS. What the event of each command does to lamps, status line and alarm, an accepted telegram among them (O54). -/

namespace Sys2Proof.Machine

/-! ### The commands that leave the outputs to the end of their event -/

structure KeepsShown (w u : State) : Prop where
  lamps : u.outputs.lamps = w.outputs.lamps
  status : u.outputs.status = w.outputs.status
  alarm : u.outputs.alarm = w.outputs.alarm

/-- The commands whose event writes a lamp, the status line or the alarm before its end. -/
def TouchesShown : Instr → Prop
  | .countTelegram .. | .lampPatternStep _ | .statusLineToggle | .alarmPatternStep | .refusalPatternStep => True
  | .debouncedLevelChange .. | .confirmSweep .. | .confirmDirect .. => True
  | _ => False

theorem KeepsShown.of_eq {w u : State} (h : u.outputs = w.outputs) : KeepsShown w u := by
  constructor <;> rw [h]

theorem KeepsShown.lockdown {w v : State} (h : KeepsShown w v) (cause : LockdownCause) :
    KeepsShown w (enterLockdown cause v) := by
  constructor <;> rw [enterLockdown_outputs]
  · exact h.lamps
  · exact h.status
  · exact h.alarm

theorem KeepsShown.judgeCounts {w v : State} (h : KeepsShown w v) : KeepsShown w (judgeCounts v) := by
  obtain h' | h' := judgeCounts_cases v <;> rw [h']
  · exact h
  · exact KeepsShown.lockdown (v := { v with outputs := { v.outputs with pairs := v.outputs.pairs.map ClearPair.forget } })
      ⟨h.lamps, h.status, h.alarm⟩ _

theorem KeepsShown.setLevels {w v : State} (h : KeepsShown w v) : KeepsShown w (setLevels v) := ⟨h.lamps, h.status, h.alarm⟩

theorem selfTest_keepsShown {w passed : State} {passes : Prop} [Decidable passes] (h : KeepsShown w passed) :
    KeepsShown w (if passes then passed else enterLockdown .selfTestFault w) := by
  split
  · exact h
  · exact (KeepsShown.of_eq rfl).lockdown _

theorem enterRun_outputs (s : State) : (enterRun s).outputs = s.outputs := by
  obtain ⟨_, h⟩ := enterRun_eq s
  rw [h]
  rfl

theorem enterSilence_keepsShown (s : State) : KeepsShown s (enterSilence s) := by
  obtain ⟨-, h⟩ | ⟨-, h⟩ := enterSilence_cases s <;> rw [h]
  · constructor <;> rfl
  · constructor <;> rw [enterRun_outputs]

theorem takeVerdict_keepsShown {w v : State} (h : KeepsShown w v) (verdict : Verdict) :
    KeepsShown w (takeVerdict verdict v) := by
  obtain ⟨_, h'⟩ | ⟨_, _, h'⟩ | ⟨good, h'⟩ := takeVerdict_cases verdict v <;> rw [h']
  · exact ⟨h.lamps, h.status, h.alarm⟩
  · exact ⟨h.lamps, h.status, h.alarm⟩
  · exact KeepsShown.lockdown (v := { v with line := { v.line with framesGood := good } }) ⟨h.lamps, h.status, h.alarm⟩ _

theorem judgeQuery_keepsShown {kind : Byte} {inRange : Bool} {answer : State → State} {s : State}
    (h : (answer s).outputs = s.outputs) : KeepsShown s (judgeQuery kind inRange answer s) := by
  obtain h' | ⟨-, h'⟩ := judgeQuery_cases kind inRange answer s <;> rw [h']
  · exact .of_eq rfl
  · exact .of_eq h

theorem effect_keepsShown {c : Instr} (hc : ¬TouchesShown c) (w : State) : KeepsShown w (effect c w) := by
  cases c with
  | countTelegram | lampPatternStep | statusLineToggle | alarmPatternStep | refusalPatternStep | debouncedLevelChange
  | confirmSweep | confirmDirect => exact absurd trivial hc
  | filteredChange dt a b => exact .of_eq (followPassage_outputs a b (takeFiltered a b w))
  | configReadEnd =>
    dsimp only [effect]
    split <;> exact .of_eq rfl
  | lineLoopTest | laneTest => exact selfTest_keepsShown (.of_eq rfl)
  | readBackTest => exact selfTest_keepsShown (enterSilence_keepsShown w)
  | silenceEnd =>
    dsimp only [effect]
    split
    · split <;> exact .of_eq (by simp)
    · split <;> exact .of_eq (by simp [enterRun])
  | spike | headFault =>
    dsimp only [effect]
    split <;> exact .of_eq (by simp)
  | receptionIdle =>
    dsimp only [effect]
    split
    · exact .of_eq rfl
    · exact takeVerdict_keepsShown (.of_eq (by rfl)) _
  | sectionQuery dt parameter =>
    obtain ⟨_, h⟩ := answerSection_eq parameter w
    exact judgeQuery_keepsShown (by rw [h])
  | peersQuery dt parameter => exact judgeQuery_keepsShown (answer := answerPeers parameter) rfl
  | logQuery dt parameter =>
    exact judgeQuery_keepsShown (answer := fun w => placeAnswer 4 (logData w parameter.toNat) w) rfl
  | clearDiag => exact judgeQuery_keepsShown (answer := fun w => placeAnswer 5 [] (clearCounters w)) rfl
  | lineWin fault =>
    obtain ⟨_, _, h⟩ := compareCopies_eq fault { w with line := { w.line with
      transmitter := .driving w.now, driven := frameOf (bodyAtWin w), quietSince := none
      receiver := { w.line.receiver with state := .skipping, badFirst := false } } }
    exact .of_eq (congrArg (·.outputs) h)
  | collision =>
    dsimp only [effect]
    split
    · obtain ⟨_, _, _, h⟩ := dropFrame_eq (countCollision (releaseLine w))
      exact .of_eq (congrArg (·.outputs) h)
    · exact .of_eq rfl
  | attemptCompletion | heartbeatExpiry =>
    dsimp only [effect]
    split <;> exact .of_eq (by simp)
  | lockdownTelegramTimer => exact .of_eq (by simp [effect])
  | peerLost n =>
    obtain ⟨_, h⟩ := peerLost_eq n w
    exact .of_eq (congrArg (·.outputs) h)
  | negativeBalance i => exact .of_eq (by simp [effect])
  | laneMismatch item => exact KeepsShown.lockdown (.of_eq (by rfl)) _
  | clockCheckPeriodEnd =>
    dsimp only [effect]
    split
    · exact KeepsShown.lockdown (.of_eq (by rfl)) _
    · exact .of_eq rfl
  | halfPeriodTick read => exact KeepsShown.setLevels (KeepsShown.judgeCounts (by constructor <;> rfl))
  | tickWatchExpiry => exact KeepsShown.judgeCounts (by constructor <;> rfl)
  | _ => exact .of_eq rfl

end Sys2Proof.Machine
end

section
/-! PROOFS. A telegram without an AGREEING view takes a lamp on in the order of the patterns, or leaves it (O54). -/

namespace Sys2Proof.Machine

/-- The lamp pattern of a slot state goes on in the order of the patterns. -/
def SlotState.Rises (a b : SlotState) : Prop := a.lamp.Rises b.lamp

namespace SlotState.Rises

theorem refl (a : SlotState) : a.Rises a := .inl rfl

theorem trans {a b c : SlotState} (h : a.Rises b) (h' : b.Rises c) : a.Rises c := LampPattern.Rises.trans h h'

theorem disturbed (a : SlotState) : a.Rises .disturbed := by
  cases a <;> simp [SlotState.Rises, LampPattern.Rises, SlotState.lamp, LampPattern.rank]

end SlotState.Rises

theorem disturb_rises (cause : Cause) (time : Word32) (station : Nat) (sl : Slot) :
    sl.state.Rises (disturb cause time station sl).state := by
  rw [disturb_state]
  exact .disturbed _

theorem judge_rises (s : State) (changed : Bool) (sl : Slot) : sl.state.Rises (judge s changed sl).state := by
  obtain h | ⟨-, hstate, h⟩ | ⟨-, -, -, h⟩ | ⟨hstate, -, h⟩ :=
    judgeClearing_cases s.now (s.clearingConditions sl) changed sl <;> rw [judge, h]
  · exact .refl _
  · obtain hstate | ⟨hstate, -⟩ := hstate <;> rw [hstate] <;>
      simp [SlotState.Rises, LampPattern.Rises, SlotState.lamp, LampPattern.rank, Slot.startClearing]
  · exact .refl _
  · obtain hstate | hstate := hstate <;> rw [hstate] <;>
      simp [SlotState.Rises, LampPattern.Rises, SlotState.lamp, LampPattern.rank, Slot.toOccupied]

theorem takeTotals_rises (s : State) (evaluating : Bool) (sl : Slot) : sl.state.Rises (takeTotals s evaluating sl).state := by
  have hjudged := judge_rises s true (recompute s { sl with settledSince := some s.now })
  unfold takeTotals
  dsimp only
  split
  · exact .trans hjudged (disturb_rises ..)
  · exact hjudged

theorem takeChanges_rises (before after : PeerRecord) (s : State) (evaluating : Bool) (sl : Slot) :
    sl.state.Rises (takeChanges before after s evaluating sl).state := by
  unfold takeChanges
  split
  · exact takeTotals_rises ..
  · exact judge_rises ..

theorem takeSlotItems_rises (order : TakingOrder) (before after : PeerRecord) (items : List Item) (s : State) (i : Nat)
    (sl : Slot) : sl.state.Rises (takeSlotItems order before after items s i sl).state := by
  suffices h : ∀ items : List Item, ∀ x : Slot, sl.state.Rises x.state →
      sl.state.Rises (items.foldl (Item.take before after s i sl) x).state from h _ sl (.refl _)
  intro items
  induction items with
  | nil => exact fun _ h => h
  | cons item items ih =>
    intro x hx
    refine ih _ ?_
    by_cases hitem : item = .changes
    · subst hitem
      dsimp only [Item.take]
      split
      · exact .trans hx (takeChanges_rises ..)
      · exact hx
    · exact cause_rule (P := fun x => sl.state.Rises x.state) hitem hx fun cause station _ =>
        .trans hx (disturb_rises ..)

theorem applyDemand_rises {sl : Slot} (h : sl.state = .agreeing) (s : State) (demand : Demand) :
    sl.state.Rises (applyDemand s demand sl).state := by
  refine .trans ?_ (judge_rises s false _)
  rw [h]
  cases hkind : demand.kind <;>
    simp [rebased, hkind, SlotState.Rises, LampPattern.Rises, SlotState.lamp, LampPattern.rank, recompute]

theorem setAgreement_rises {sl : Slot} (h : sl.state = .agreeing) (s : State) (demand : Demand) (members : List Nat) :
    sl.state.Rises (setAgreement s demand members sl).state := by
  obtain ⟨-, heq⟩ | ⟨-, heq⟩ := setAgreement_cases s demand members sl <;> rw [heq]
  · exact .refl _
  · exact applyDemand_rises (sl := { sl with reset := { sl.reset with agreement := some members } }) h s demand

theorem ViewTaken.rises {s : State} {sender : Nat} {view : Option View} {sl sl' : Slot} (h : ViewTaken s sender view sl sl')
    (hcalm : ∀ v, view = some v → v.state ≠ .agreeing) : sl.state.Rises sl'.state := by
  cases h with
  | nothing | leaves => exact .refl _
  | joins v demand members _ hstate => exact setAgreement_rises hstate s demand members
  | judged v d hview hagreeing | superseded v d hview hagreeing => exact absurd hagreeing (hcalm v hview)

theorem evaluatorTakes_rises (s : State) (judged : Bool) (view : Option View) (sl : Slot) :
    sl.state.Rises (evaluatorTakes s judged view sl).state := by
  have hseen := evaluateView_rule (P := fun x => sl.state.Rises x.state) (s := s) (view := view) (SlotState.Rises.refl _)
    fun cause station _ => disturb_rises ..
  unfold evaluatorTakes
  dsimp only
  split
  · exact hseen
  · exact .trans hseen (judge_rises ..)

theorem readView_rises {after : PeerRecord} (hcalm : ∀ n v, after.view? n = some v → v.state ≠ .agreeing)
    (order : TakingOrder) (first judged : Bool) (s : State) (i : Nat) (sl : Slot) :
    sl.state.Rises (readView order first after judged s i sl).state := by
  unfold readView
  dsimp only
  split
  · split
    · exact (takeView_taken s after.station _ sl).rises (hcalm _)
    · exact evaluatorTakes_rises ..
  · exact .refl _

theorem rangeAfter_rises (s : State) (before sl : Slot) : sl.state.Rises (rangeAfter s before sl).state :=
  rangeAfter_rule (P := fun x => sl.state.Rises x.state) (.refl _) fun _ => disturb_rises ..

/-- A telegram without an AGREEING view stores none. -/
theorem accept_calm {tel : Telegram} (h : Calm tel) (now : Tick) (own : Nat) (slots : List Slot) (j : Judgement)
    (r : PeerRecord) (n : Nat) (v : View) (hv : (r.accept now own slots j tel).view? n = some v) : v.state ≠ .agreeing := by
  have hmem : v ∈ storedViews tel := List.mem_of_find?_eq_some hv
  obtain ⟨part, hpart, hread⟩ := List.mem_filterMap.mp hmem
  have hcode := h part hpart
  have hstate : slotStateOf part.state = some v.state := by
    unfold ViewPart.read at hread
    split at hread
    next st hst =>
      split at hread
      · split at hread
        · cases hread; exact hst
        · split at hread
          · cases hread; exact hst
          · cases hread
      · cases hread
    next => cases hread
  intro hagreeing
  rw [hagreeing] at hstate
  unfold slotStateOf at hstate
  split at hstate <;> simp at hstate
  next hnat => exact hcode (by apply BitVec.eq_of_toNat_eq; simpa using hnat)

/-! ### The parts of a telegram -/

/-- Slots that each go on in the order of the patterns. -/
def SlotsRise (xs ys : List Slot) : Prop :=
  ys.length = xs.length ∧ ∀ (i : Nat) (x y : Slot), xs[i]? = some x → ys[i]? = some y → x.state.Rises y.state

theorem SlotsRise.mapIdx {g h : Nat → Slot → Slot} (hrise : ∀ (i : Nat) (sl : Slot), (g i sl).state.Rises (h i sl).state) (xs : List Slot) :
    SlotsRise (xs.mapIdx g) (xs.mapIdx h) := by
  refine ⟨by simp, fun i x y hx hy => ?_⟩
  simp only [List.getElem?_mapIdx, Option.map_eq_some_iff] at hx hy
  obtain ⟨sl, hsl, rfl⟩ := hx
  obtain ⟨sl', hsl', rfl⟩ := hy
  obtain rfl : sl = sl' := by rw [hsl] at hsl'; exact Option.some.inj hsl'
  exact hrise i sl

theorem SlotsRise.of_mapIdx {h : Nat → Slot → Slot} (hrise : ∀ (i : Nat) (sl : Slot), sl.state.Rises (h i sl).state) (xs : List Slot) :
    SlotsRise xs (xs.mapIdx h) := by
  have hself : xs.mapIdx (fun _ sl => sl) = xs := by apply List.ext_getElem <;> simp
  simpa only [hself] using SlotsRise.mapIdx (g := fun _ sl => sl) (h := h) hrise xs

theorem SlotsRise.lampCommand {u v : State} (h : SlotsRise u.slots v.slots) (hlockdown : v.lockdown = u.lockdown)
    (hphase : v.phase = u.phase) (i : Fin 4) : (u.lampCommand i).Rises (v.lampCommand i) := by
  unfold State.lampCommand
  rw [hlockdown, hphase]
  split
  · exact .inl rfl
  · split <;> try exact .inl rfl
    unfold State.slot?
    cases hu : u.slots[i.val]? with
    | none =>
      have : v.slots[i.val]? = none := by
        rw [List.getElem?_eq_none_iff] at hu ⊢
        rw [h.1]; exact hu
      rw [this]
      exact .inl rfl
    | some x =>
      cases hv : v.slots[i.val]? with
      | none =>
        rw [List.getElem?_eq_none_iff, h.1, ← List.getElem?_eq_none_iff, hu] at hv
        cases hv
      | some y => exact h.2 i x y hu hv

/-- The outputs after some parts of a telegram: they follow the state; status line and alarm are as before; and each lamp has
run on or started a pattern, without an AGREEING view one of higher rank. -/
structure Told (tel : Telegram) (w u : State) : Prop where
  now : u.now = w.now
  inService : u.inService = w.inService
  alarmCondition : u.alarmCondition = w.alarmCondition
  follows : OutputsFollow u
  moves : ∀ i : Fin 4, w.outputs.lamps[i].Moves w.now u.outputs.lamps[i]
  rises : Calm tel → ∀ i : Fin 4, w.outputs.lamps[i].Rises u.outputs.lamps[i]
  status : u.outputs.status = w.outputs.status
  alarm : u.outputs.alarm = w.outputs.alarm

theorem StatusLine.command_following {l : StatusLine} {inService : Bool} (hruns : l.since.isSome = inService)
    (hlow : inService = false → l.high = false) (now : Tick) : l.command now inService = l := by
  obtain ⟨high, since⟩ := l
  cases since <;> cases inService <;> simp_all [StatusLine.command]

theorem Alarm.command_following {a : Alarm} {condition : Option AlarmCondition}
    (h : ∀ c, a.shows = .standing c ↔ condition = some c) (now : Tick) : a.command now condition = a := by
  cases condition with
  | some c => exact Alarm.command_standing ((h c).mpr rfl) now
  | none => exact Alarm.command_none (fun c hc => by simpa using (h c).mp hc) now

theorem notice_lamp (b v : State) (i : Fin 4) :
    (notice b v).outputs.lamps[i] = v.outputs.lamps[i].command v.now (v.lampCommand i) := by
  obtain ⟨request, h⟩ := noteChange_eq b v
  rw [notice, h]
  simp only [showOutputs, Fin.getElem_fin, Vector.getElem_ofFn]
  rfl

theorem notice_status (b v : State) : (notice b v).outputs.status = v.outputs.status.command v.now v.inService := by
  obtain ⟨request, h⟩ := noteChange_eq b v
  rw [notice, h]
  rfl

theorem notice_alarm (b v : State) : (notice b v).outputs.alarm = v.outputs.alarm.command v.now v.alarmCondition := by
  obtain ⟨request, h⟩ := noteChange_eq b v
  rw [notice, h]
  rfl

theorem Told.part {tel : Telegram} {w u v : State} (h : Told tel w u) (b : State)
    (hv : v = { u with slots := v.slots }) (hrises : Calm tel → SlotsRise u.slots v.slots) : Told tel w (notice b v) := by
  have hnow : v.now = u.now := by rw [hv]
  have hservice : v.inService = u.inService := by rw [hv]; rfl
  have hcondition : v.alarmCondition = u.alarmCondition := by rw [hv]; rfl
  have houtputs : v.outputs = u.outputs := by rw [hv]
  have hstatus : (notice b v).outputs.status = u.outputs.status := by
    rw [notice_status, houtputs, hservice]
    exact StatusLine.command_following h.follows.status h.follows.statusLow _
  have halarm : (notice b v).outputs.alarm = u.outputs.alarm := by
    rw [notice_alarm, houtputs, hcondition]
    exact Alarm.command_following h.follows.alarm _
  have hpairs : (notice b v).outputs.pairs = u.outputs.pairs := by
    obtain ⟨_, _, _, _, hnotice⟩ := notice_eq b v
    rw [hnotice, ← houtputs]
  obtain ⟨_, _, _, _, hnotice⟩ := notice_eq b v
  have hservice' : (notice b v).inService = u.inService := by rw [hnotice, ← hservice]; rfl
  have hcondition' : (notice b v).alarmCondition = u.alarmCondition := by rw [hnotice, ← hcondition]; rfl
  have hcommand : (notice b v).lampCommand = v.lampCommand := by rw [hnotice]; rfl
  refine ⟨?_, hservice'.trans h.inService, hcondition'.trans h.alarmCondition, ⟨?_, fun i => ?_, ?_, ?_, ?_⟩, fun i => ?_,
    fun hcalm i => ?_, hstatus.trans h.status, halarm.trans h.alarm⟩
  · rw [hnotice, ← h.now, ← hnow]
  · rw [hpairs]; exact h.follows.pairs
  · rw [notice_lamp, hcommand]; exact Lamp.command_pattern ..
  · rw [hstatus, hservice']; exact h.follows.status
  · rw [hstatus, hservice']; exact h.follows.statusLow
  · rw [halarm, hcondition']; exact h.follows.alarm
  · rw [notice_lamp, houtputs, hnow, h.now]
    exact (h.moves i).command _
  · rw [notice_lamp, houtputs]
    refine (h.rises hcalm i).command ?_ _
    rw [h.follows.lamps i]
    exact (hrises hcalm).lampCommand (by rw [hv]) (by rw [hv]) i

theorem Told.round {tel : Telegram} {w u : State} (h : Told tel w u) {after : PeerRecord}
    (hcalm : Calm tel → ∀ n v, after.view? n = some v → v.state ≠ .agreeing) (order : TakingOrder) (first judged : Bool) :
    Told tel w (readRound order first after judged u) := by
  have hread : Told tel w (notice u (readViews order first after judged u)) :=
    h.part u rfl fun hc => .of_mapIdx (readView_rises (hcalm hc) order first judged u) _
  refine hread.part _ rfl fun _ => ?_
  rw [notice_slots]
  simp only [rangesAfter, notice_slots, readViews, zipWith_mapIdx]
  exact .mapIdx (fun i sl => rangeAfter_rises ..) _

theorem withRecord_told {tel : Telegram} {w : State} (hw : OutputsFollow w) (r : PeerRecord) (j : Judgement) :
    Told tel w (withRecord r j tel w) := by
  have hlamps : (withRecord r j tel w).lampCommand = w.lampCommand := by
    funext i
    have hslot : (withRecord r j tel w).slot? i =
        (w.slot? i).map (if j = .restart then forgetIdentity r.station else id) := by
      simp only [State.slot?, withRecord_slots, List.getElem?_map]
    have hstate : ∀ sl, ((if j = .restart then forgetIdentity r.station else id) sl).state = sl.state := by
      intro sl
      split
      · unfold forgetIdentity; split <;> rfl
      · rfl
    have hlockdown : (withRecord r j tel w).lockdown = w.lockdown := by unfold withRecord; split <;> rfl
    have hphase : (withRecord r j tel w).phase = w.phase := by unfold withRecord; split <;> rfl
    unfold State.lampCommand
    rw [hlockdown, hphase, hslot]
    cases w.slot? i with
    | none => rfl
    | some sl => simp only [Option.map_some, hstate]
  have houtputs : (withRecord r j tel w).outputs = w.outputs := by unfold withRecord; split <;> rfl
  have hservice : (withRecord r j tel w).inService = w.inService := by unfold withRecord; split <;> rfl
  have halarm : (withRecord r j tel w).alarmCondition = w.alarmCondition := by unfold withRecord; split <;> rfl
  exact ⟨by unfold withRecord; split <;> rfl, hservice, halarm, hw.of_eq houtputs hlamps hservice halarm,
    fun i => .inl (by rw [houtputs]), fun _ i => .inl (by rw [houtputs]), by rw [houtputs], by rw [houtputs]⟩

/-- An accepted telegram leaves the status line and the alarm, and takes the lamps on. -/
theorem acceptTelegram_told {tel : Telegram} {w : State} (hw : OutputsFollow w) (r : PeerRecord) (j : Judgement)
    (order : TakingOrder) : Told tel w (acceptTelegram r j tel order w) := by
  have hcalm := fun h : Calm tel => accept_calm h w.now w.own w.slots j r
  have htaken : Told tel w (notice w (takeItems order r (r.accept w.now w.own w.slots j tel) (itemsOf r j tel)
      (withRecord r j tel w))) :=
    (withRecord_told hw r j).part w rfl fun _ => .of_mapIdx (takeSlotItems_rises order r _ _ _) _
  exact (htaken.round hcalm order true _).round hcalm order false _

end Sys2Proof.Machine
end

section
/-! PROOFS. The patterns of the outputs run on in every step (O54, second part), and O54 from its three parts. -/

namespace Sys2Proof.Machine

/-- What the event of a command does to lamps, status line and alarm before its end. -/
structure OutputsEvent (c : Instr) (w u : State) : Prop where
  lamps : ∀ i, LampEvent c w u i
  status : StatusEvent c w u
  alarm : AlarmEvent c w u

theorem KeepsShown.outputsEvent {c : Instr} {w u : State} (h : KeepsShown w u) : OutputsEvent c w u :=
  ⟨fun _ => .kept (by rw [h.lamps]), .kept h.status, .kept h.alarm⟩

theorem countTelegram_outputsEvent {w : State} (hw : OutputsFollow w) (dt : Nat) (tel : Telegram) (order : TakingOrder) :
    OutputsEvent (.countTelegram dt tel order) w (effect (.countTelegram dt tel order) w) := by
  dsimp only [effect]
  split
  next r hr =>
    obtain h | ⟨-, -, h⟩ := judgeTelegram_cases r tel order w <;> rw [h]
    · exact (KeepsShown.of_eq rfl).outputsEvent
    · have htold := acceptTelegram_told (tel := tel) hw r (judgeSequence r tel.sequence) order
      exact ⟨fun i => .told dt tel order rfl (htold.follows.lamps i) (by rw [htold.now]; exact htold.moves i)
        fun hcalm => htold.rises hcalm i, .kept htold.status, .kept htold.alarm⟩
  next => exact (KeepsShown.of_eq rfl).outputsEvent

theorem lampPatternStep_outputsEvent (i : Fin 4) (w : State) :
    OutputsEvent (.lampPatternStep i) w (effect (.lampPatternStep i) w) := by
  refine ⟨fun k => ?_, .kept rfl, .kept rfl⟩
  by_cases hk : k = i
  · subst hk
    exact .stepped (by simp [effect]) rfl
  · exact .kept (by simp [effect, Fin.val_inj, Ne.symm hk])

theorem statusDue_some {s : State} {x : Tick} (h : statusDue s = some x) : s.outputs.status.since ≠ none := by
  intro hnone
  simp [statusDue, hnone, after] at h

theorem alarmDue_some {s : State} {x : Tick} (h : alarmDue s = some x) : ∃ c, s.outputs.alarm.shows = .standing c := by
  unfold alarmDue at h
  split at h
  next c hshows => exact ⟨c, hshows⟩
  next => cases h

theorem refusalDue_some {s : State} {x : Tick} (h : refusalDue s = some x) : s.outputs.alarm.shows = .refusal := by
  unfold refusalDue at h
  split at h
  next hshows => exact hshows
  next => cases h

theorem alarmPatternStep_outputsEvent {w : State} {condition : AlarmCondition}
    (h : w.outputs.alarm.shows = .standing condition) : OutputsEvent .alarmPatternStep w (effect .alarmPatternStep w) := by
  dsimp only [effect]
  rw [h]
  exact ⟨fun _ => .kept rfl, .kept rfl, .stepped condition h h rfl⟩

theorem refusalPatternStep_outputsEvent {w : State} (h : w.outputs.alarm.shows = .refusal) :
    OutputsEvent .refusalPatternStep w (effect .refusalPatternStep w) := by
  refine ⟨fun _ => .kept rfl, .kept rfl, .played h (fun condition => ?_) rfl⟩
  dsimp only [effect]
  split
  · simp [Alarm.silence]
  · simp [Alarm.step, h]

/-- A refusal pattern asked for plays if no condition stands. -/
theorem requestRefusal_cases (s : State) : (s.alarmCondition ≠ none ∧ requestRefusal s = s) ∨
    (s.alarmCondition = none ∧ requestRefusal s =
      { s with outputs := { s.outputs with alarm := { shows := .refusal, place := 0, sounding := true, since := s.now } } }) := by
  unfold requestRefusal
  cases s.alarmCondition <;> simp

theorem OutputsFollow.no_standing {s : State} (h : OutputsFollow s) (hnone : s.alarmCondition = none) (x : AlarmCondition) :
    s.outputs.alarm.shows ≠ .standing x := by
  intro hx
  rw [h.alarm x, hnone] at hx
  cases hx

theorem operatorSample_outputsEvent {c : Instr} {w : State} (hw : OutputsFollow w) (hc : Confirms c) (levels : OperatorLevels) :
    OutputsEvent c w (takeOperatorSample levels w) := by
  have hnow : (takeOperatorSample levels w).now = w.now := by
    obtain ⟨_, _, _, _, h⟩ := takeOperatorSample_eq levels w
    rw [h]
  have hkept : ∀ u : State, u.outputs = w.outputs → OutputsEvent c w u := fun u h => (KeepsShown.of_eq h).outputsEvent
  have hjudged := takeOperatorSample_judged levels w
  generalize takeOperatorSample levels w = u at hjudged hnow
  cases hjudged with
  | nothing | deselects | issues => exact hkept _ rfl
  | refuses i alarm hrefusal =>
    refine ⟨fun _ => .kept rfl, .kept rfl, ?_⟩
    obtain ⟨-, h⟩ | ⟨hnone, h⟩ := requestRefusal_cases (takeLevels levels w) <;>
      have halarm := congrArg (·.outputs.alarm) (hrefusal.symm.trans h)
    · exact .kept halarm
    · exact .asked (hw.no_standing hnone) halarm hc

theorem effect_outputsEvent {c : Instr} {s w : State} {x : Tick} (harises : Arises c s x) (hsame : w.outputs = s.outputs)
    (hw : OutputsFollow w) : OutputsEvent c w (effect c w) := by
  by_cases htouches : TouchesShown c
  · cases c <;> try exact htouches.elim
    case countTelegram dt tel order => exact countTelegram_outputsEvent hw dt tel order
    case lampPatternStep i => exact lampPatternStep_outputsEvent i w
    case statusLineToggle =>
      exact ⟨fun _ => .kept rfl, .toggled (by rw [hsame]; exact statusDue_some harises) rfl, .kept rfl⟩
    case alarmPatternStep =>
      obtain ⟨condition, hshows⟩ := alarmDue_some harises
      exact alarmPatternStep_outputsEvent (condition := condition) (by rw [hsame]; exact hshows)
    case refusalPatternStep => exact refusalPatternStep_outputsEvent (by rw [hsame]; exact refusalDue_some harises)
    case debouncedLevelChange => exact operatorSample_outputsEvent hw (by trivial) _
    case confirmSweep => exact operatorSample_outputsEvent hw (by trivial) _
    case confirmDirect => exact operatorSample_outputsEvent hw (by trivial) _
  · exact (effect_keepsShown htouches w).outputsEvent

theorem Idles.outputs {s t : State} (h : Idles s t) : t.outputs = s.outputs := by
  cases h with
  | raises => rfl
  | ticks => rfl
  | samples pending freeUses runA runB restartFrom runs sampled heq =>
    obtain ⟨_, _, hnote⟩ := noteRuns_eq s sampled
    rw [hnote, heq]

theorem step_patternsRunOn {s t : State} (hs : OutputsFollow s) (h : step s = .next t)
    (hstarts : ∀ c rest, s.pending = c :: rest → ¬Starts c) : PatternsRunOn s t := by
  cases step_steps h with
  | starts hpending hstart => exact absurd hstart (hstarts _ _ hpending)
  | @takes c rest _ hpending _ htaken =>
    cases htaken with
    | still => exact patternsRunOn_of_eq rfl
    | waits x =>
      obtain ⟨_, _, hreach⟩ := unhand_reach_eq c x rest s
      rw [hreach]
      exact patternsRunOn_of_eq rfl
    | event x harises =>
      have hreached : OutputsFollow ((State.unhand c { s with pending := rest }).reach x) ∧
          ((State.unhand c { s with pending := rest }).reach x).outputs = s.outputs := by
        obtain ⟨_, _, hreach⟩ := unhand_reach_eq c x rest s
        rw [hreach]
        exact ⟨hs.of_eq rfl rfl rfl rfl, rfl⟩
      generalize (State.unhand c { s with pending := rest }).reach x = w at hreached
      obtain ⟨hw, houtputs⟩ := hreached
      have hevent := effect_outputsEvent harises houtputs hw
      exact patternsRunOn_iff.mpr ⟨fun i => (hevent.lamps i).runsOn w hpending houtputs,
        hevent.status.runsOn w hpending houtputs, hevent.alarm.runsOn w hpending houtputs⟩
  | idles _ hidles => exact patternsRunOn_of_eq hidles.outputs

end Sys2Proof.Machine

namespace Sys2Proof.Proofs
open Sys2Proof.Machine

/-- Settles O54: every event ends by commanding lamps, status line and alarm anew, and lane Q by the invariant of its copies
still to come; a telegram without an AGREEING view takes a lamp on in one order of the patterns only, so that it cannot come
back to the pattern it had. -/
theorem outputsKeepFollowing : Obligations.OutputsKeepFollowing :=
  ⟨fun _ _ hs h => step_follows hs h, fun _ _ hs h hstarts => step_patternsRunOn hs h hstarts,
    fun _ _ hs h => step_lanesSound hs h⟩

end Sys2Proof.Proofs
end

section
/-! PROOFS. The queue, power-on and restart (O1, O4, O5, O58), and the station time (O11). -/

namespace Sys2Proof.Machine

/-! ### The conditions at reset -/

theorem reset_clearingSound : ClearingSound State.reset :=
  ⟨fun _ h => (List.not_mem_nil h).elim, fun _ h => (List.not_mem_nil h).elim⟩

theorem reset_balancesCurrent : BalancesCurrent State.reset :=
  ⟨fun _ h => (List.not_mem_nil h).elim, fun _ h => (List.not_mem_nil h).elim, fun _ h => (List.not_mem_nil h).elim,
    fun _ => ⟨rfl, rfl, rfl, rfl⟩⟩

theorem reset_holdsSound : HoldsSound State.reset :=
  ⟨fun _ h => (List.not_mem_nil h).elim, fun _ _ h => (List.not_mem_nil h).elim, fun _ h => (List.not_mem_nil h).elim,
    fun _ h => (List.not_mem_nil h).elim⟩

theorem reset_outputsFollow : OutputsFollow State.reset :=
  ⟨fun i => by simp [State.reset, Outputs.start], fun i => by simp [State.reset, Outputs.start, State.lampCommand], rfl,
    fun _ => rfl, fun c => by simp [State.reset, Outputs.start, State.alarmCondition, Line.start]⟩

theorem reset_accessSound : AccessSound State.reset where
  request h := by cases h
  working := ⟨fun _ => rfl, fun _ => rfl⟩
  telegram h := by cases h
  answer h := by cases h
  allowed h := absurd rfl h
  waits _ h := by cases h
  attempts := by decide

theorem reset_detectorSound : DetectorSound State.reset where
  levels h := by cases h
  sampled h := by cases h
  idle _ := rfl
  recovery h := absurd rfl h
  starting _ := rfl

theorem reset_inRange : InRange State.reset where
  log := by decide
  spikes := by decide
  counters := by decide
  gaps _ h := (List.not_mem_nil h).elim
  demandNumber := by decide
  slots _ h := (List.not_mem_nil h).elim
  mismatches i := by simp [State.reset, Outputs.start]

theorem reset_peersSound : PeersSound State.reset :=
  ⟨List.nodup_nil, fun _ h => (List.not_mem_nil h).elim, fun _ h => (List.not_mem_nil h).elim⟩

theorem reset_lanesSound : LanesSound State.reset :=
  (show alignLanes State.reset = State.reset by rfl) ▸ alignLanes_sound (s := State.reset) rfl rfl

theorem reset_receptionSound : ReceptionSound State.reset :=
  ⟨(nomatch ·), fun _ h => (List.not_mem_nil h).elim, fun _ _ h => (List.not_mem_nil h).elim⟩

/-! ### The release of the restart line -/

theorem exec_restartRelease_ends (dt : Nat) {s : State} (hheld : s.restartHeld = true) (hphase : s.phase = .configRead)
    (hlockdown : s.lockdown = false) : ∃ t, exec (.restartRelease dt) s = .next t ∧
      Ends { s with
        now := s.now + dt, restartHeld := false, restartFrom := none, reading := true
        pins := { s.pins with restart := false } } t := by
  have hexec : exec (.restartRelease dt) s = execRestartRelease dt s := rfl
  rw [hexec, execRestartRelease, onInput_arises (show (s.pass dt).restartHeld = true from hheld)]
  refine ⟨_, rfl, ?_⟩
  obtain ⟨_, _, _, hpass⟩ := pass_eq s dt
  have hreads : (s.phase == .configRead && !s.lockdown) = true := by simp [hphase, hlockdown]
  rw [hpass]
  dsimp only
  rw [hreads]
  exact (finish_ends _ _).of_lanes rfl

/-! ### The station time -/

/-- The next wrap lies within one span of the station time, on a multiple of it. -/
theorem wrapDue_bounds (s : State) : s.now < wrapDue s ∧ wrapDue s ≤ s.now + ms (2 ^ 32) ∧ ms (2 ^ 32) ∣ wrapDue s := by
  have hspan : 0 < ms (2 ^ 32) := by decide
  refine ⟨?_, ?_, Nat.dvd_mul_left ..⟩
  · rw [wrapDue, Nat.mul_comm]
    exact Nat.lt_mul_div_succ _ hspan
  · rw [wrapDue, Nat.add_mul, Nat.one_mul]
    exact Nat.add_le_add_right (Nat.div_mul_le_self _ _) _

theorem stationTime_of_dvd {s : State} (h : ms (2 ^ 32) ∣ s.now) : s.stationTime = 0 := by
  obtain ⟨k, hk⟩ := h
  apply BitVec.eq_of_toNat_eq
  have hspan : ms (2 ^ 32) * k / 100 = 2 ^ 32 * k := by
    rw [ms, Nat.mul_comm _ 100, Nat.mul_assoc, Nat.mul_div_cancel_left _ (by decide)]
  rw [State.stationTime, hk, hspan, BitVec.toNat_ofNat, Nat.mul_mod_right]
  rfl

end Sys2Proof.Machine

namespace Sys2Proof.Proofs
open Sys2Proof.Machine

/-- Settles O1: a step is the command's meaning on the rest of the queue. -/
theorem stepTakesTheFrontCommand : Obligations.StepTakesTheFrontCommand := fun _ _ _ => rfl

/-- Settles O4: power-on is a start with an empty log and no record. -/
theorem powerOnStartsAfresh : Obligations.PowerOnStartsAfresh :=
  fun _ _ => ⟨_, rfl, atStart_of_reset .., rfl, rfl, rfl, rfl, rfl⟩

/-- Settles O5: a restart is a start that keeps log and record; while the line is held it is not taken again. -/
theorem restartKeepsLogAndRecord : Obligations.RestartKeepsLogAndRecord := by
  refine ⟨fun s hreleased => ?_, fun s hheld => ?_, fun dt s => exec_restartRelease_ends dt⟩
  · have hexec : exec .restart s = execRestart s := rfl
    rw [hexec, execRestart, if_neg (by simp [hreleased])]
    exact ⟨_, rfl, atStart_of_reset .., rfl, rfl, rfl, rfl, rfl⟩
  · have hexec : exec .restart s = execRestart s := rfl
    rw [hexec, execRestart, if_pos hheld]

/-- Settles O11: the wrap is due at the next multiple of the span of the station time, and is an event without effect. -/
theorem stationTimeWraps : Obligations.StationTimeWraps := by
  intro s
  obtain ⟨hlater, hspan, hmultiple⟩ := wrapDue_bounds s
  have hnow : (finish (s.reach (wrapDue s)) (s.reach (wrapDue s))).now = wrapDue s := by
    rw [finish_now]
    exact Nat.max_eq_right (Nat.le_of_lt hlater)
  refine ⟨_, whenDue_some (f := id), stationTime_of_dvd (by rw [id, hnow]; exact hmultiple), ?_, ?_, ?_⟩
  · rw [id, hnow]; exact hlater
  · rw [id, hnow]; exact hspan
  · rw [id, hnow]
    obtain ⟨_, _, _, hreach⟩ := reach_eq s (wrapDue s)
    have hends := finish_ends (s.reach (wrapDue s)) (s.reach (wrapDue s))
    rw [hreach, Nat.max_eq_right (Nat.le_of_lt hlater)] at hends
    rw [hreach, Nat.max_eq_right (Nat.le_of_lt hlater)]
    exact hends.of_lanes rfl

/-- Settles O58: before the image is read there are no slots and no records, and every block is at its start value. -/
theorem invariantsHoldAtReset : Obligations.InvariantsHoldAtReset :=
  ⟨reset_clearingSound, reset_balancesCurrent, reset_outputsFollow, reset_accessSound, reset_detectorSound, reset_inRange,
    fun _ h => (List.not_mem_nil h).elim, reset_peersSound, reset_lanesSound, reset_holdsSound, reset_receptionSound⟩

end Sys2Proof.Proofs
end

section
/-! PROOFS. The timers of a slot and the ages of a peer, and a cause on a slot (O31, O32, O33, O40, O41, O42). -/

namespace Sys2Proof.Machine

/-! ### A timer of one slot -/

theorem slotDue_eq {s : State} {i : Fin 4} {sl : Slot} {x : Tick} {since : Slot → Option Tick} (hsl : s.slots[i.val]? = some sl)
    (hsince : since sl = some x) (limit : Tick) : slotDue s i since limit = some (x + limit) := by
  simp [slotDue, State.slot?, hsl, hsince, after]

/-- A timer of one slot that runs out changes that slot alone at its instant. -/
theorem slotTimer_ends {s : State} {i : Fin 4} {sl : Slot} {x : Tick} {due : Option Tick} (hdue : due = some x)
    (hsl : s.slots[i.val]? = some sl) {g : State → State} (f : Slot → Slot)
    (hg : g (s.reach x) = (s.reach x).modifySlot i f) :
    ∃ t, whenDue due s g = .next t ∧ t.now = max s.now x ∧
      Ends { s with now := max s.now x, slots := s.slots.set i.val (f sl) } t := by
  refine ⟨_, whenDue_of_eq hdue, ?_, ?_⟩
  · rw [finish_now, hg]; rfl
  · obtain ⟨_, _, _, hreach⟩ := reach_eq s x
    rw [hg, modifySlot_eq f (by exact hsl), hreach]
    exact (finish_ends _ _).of_lanes rfl

theorem exec_negativeBalance_ends {s : State} {i : Fin 4} {sl : Slot} {x : Tick} (hsl : s.slots[i.val]? = some sl)
    (hx : sl.negativeSince = some x) : ∃ t, exec (.negativeBalance i) s = .next t ∧
      Ends { s with
        now := max s.now (x + 150000)
        slots := s.slots.set i.val
          (if s.lockdown then { sl with negativeSince := none }
          else disturb .negativeBalance t.stationTime s.own { sl with negativeSince := none }) } t := by
  have hdue : negativeDue s i = some (x + 150000) := slotDue_eq hsl hx _
  obtain ⟨t, hexec, hnow, hends⟩ := slotTimer_ends hdue hsl
    (g := fun w => declareAt .negativeBalance i (w.modifySlot i fun sl => { sl with negativeSince := none }))
    (fun y => if s.lockdown then { y with negativeSince := none }
      else disturb .negativeBalance (s.reach (x + 150000)).stationTime s.own { y with negativeSince := none }) (by
    have hlocked : ((s.reach (x + 150000)).modifySlot i fun sl => { sl with negativeSince := none }).lockdown = s.lockdown := rfl
    unfold declareAt
    rw [hlocked]
    cases s.lockdown
    · simp only [Bool.false_eq_true, if_false, State.modifySlot, List.modify_modify_eq]
      rfl
    · rfl)
  refine ⟨t, hexec, ?_⟩
  have htime : t.stationTime = (s.reach (x + 150000)).stationTime := by rw [State.stationTime, hnow]; rfl
  rw [htime]
  exact hends

theorem exec_windowExpiry_ends {s : State} {i : Fin 4} {sl : Slot} {x : Tick} (hsl : s.slots[i.val]? = some sl)
    (hstate : sl.state = .agreeing) (hx : sl.reset.windowSince = some x) : ∃ t, exec (.windowExpiry i) s = .next t ∧
      Ends { s with
        now := max s.now (x + 1000000)
        slots := s.slots.set i.val (expireDemand (max s.now (x + 1000000)) sl) } t := by
  have hdue : windowDue s i = some (x + 1000000) := slotDue_eq (since := fun sl => _) hsl (by rw [if_pos hstate, hx]) _
  obtain ⟨t, hexec, -, hends⟩ := slotTimer_ends hdue hsl (g := fun w => w.modifySlot i (expireDemand w.now))
    (expireDemand (max s.now (x + 1000000))) rfl
  exact ⟨t, hexec, hends⟩

theorem expireDemand_eq (now : Tick) (sl : Slot) : expireDemand now sl = { sl with
    state := .disturbed
    reset := { sl.reset with
      demand := none, agreement := none, windowSince := none, outcome := .expired
      expiries := if 3 ≤ sl.reset.expiries then 0 else sl.reset.expiries + 1
      coolDownSince := if 3 ≤ sl.reset.expiries then some now else sl.reset.coolDownSince } } := by
  by_cases h : 3 ≤ sl.reset.expiries <;> simp [expireDemand, Slot.endDemand, SlotReset.countExpiry, h]

/-! ### The entry to CLEAR -/

theorem rebaseToTotals_eq (s : State) (b : Boundary) : rebaseToTotals s b = { b with
    inBase := match b.side with | .y => (s.totalsOf b.station).1 | .x => (s.totalsOf b.station).2
    outBase := match b.side with | .y => (s.totalsOf b.station).2 | .x => (s.totalsOf b.station).1 } := by
  unfold rebaseToTotals Boundary.rebase inTotal outTotal
  cases b.side <;> rfl

theorem rawContribution_rebased (s : State) (b : Boundary) :
    rawContribution s (rebaseToTotals s b) = { inward := 0, outward := 0 } := by
  simp [rebaseToTotals, Boundary.rebase, rawContribution]

/-- With every base at the current total of its point nothing has been counted (R115). -/
theorem enterClear_eq (s : State) (sl : Slot) : enterClear s sl = { sl with
    state := .clear, confirmSince := none, negativeSince := none, range := false, balance := 0
    contributions := sl.boundary.map (fun _ => { inward := 0, outward := 0 })
    boundary := sl.boundary.map (rebaseToTotals s) } := by
  have hcontributions : (enterClear s sl).contributions = sl.boundary.map (fun _ => { inward := 0, outward := 0 }) := by
    simp only [enterClear, recompute, usedContributions, List.map_map]
    refine List.map_congr_left fun b _ => ?_
    rw [Function.comp_apply, rawContribution_rebased]
    rfl
  have hrange : (enterClear s sl).range = false := by
    simp [enterClear, recompute, outOfRange, rawContribution_rebased, Contribution.outOfRange]
  have hbalance := enterClear_balance s sl
  have hnegative : (enterClear s sl).negativeSince = none := by
    change negativeHold _ _ (enterClear s sl).balance = none
    rw [hbalance]
    rfl
  have hentered : (enterClear s sl).entered = sl.entered := by simp [enterClear, recompute]
  calc enterClear s sl = { enterClear s sl with
        negativeSince := (enterClear s sl).negativeSince, range := (enterClear s sl).range
        balance := (enterClear s sl).balance, contributions := (enterClear s sl).contributions
        entered := (enterClear s sl).entered } := rfl
    _ = _ := by rw [hcontributions, hrange, hbalance, hnegative, hentered]; rfl

/-! ### The ages of a peer -/

theorem peerStaleDue_eq {s : State} {n : Nat} {r : PeerRecord} {a : Tick} (hr : s.peer? n = some r) (hstate : r.state = .fresh)
    (ha : r.acceptedAt = some a) : peerStaleDue s n = some (a + 60001) := by
  simp [peerStaleDue, hr, hstate, ha, after, ms]

theorem peerLostDue_eq {s : State} {n : Nat} {r : PeerRecord} {a : Tick} (hr : s.peer? n = some r) (hstate : r.state = .stale)
    (ha : r.acceptedAt = some a) : peerLostDue s n = some (a + 400001) := by
  simp [peerLostDue, hr, hstate, ha, after, ms]

/-- The slots that use a peer which is not FRESH do not meet their clearing conditions (R111). -/
theorem judge_of_peerDown {w : State} {n : Nat} {f : PeerRecord → PeerRecord} (hstation : ∀ r, (f r).station = r.station)
    (hdown : ∀ r, (f r).state ≠ .fresh) {sl : Slot} (huses : sl.uses w.own n = true) (changed : Bool) :
    judge (w.modifyPeer n f) changed sl = sl.unclear := by
  obtain ⟨hown, b, hb, rfl⟩ := uses_iff.mp huses
  have hfails : (w.modifyPeer b.station f).clearingConditions sl = false := by
    rw [Bool.eq_false_iff]
    intro hholds
    obtain ⟨r, _, hr, hfresh, -⟩ := (clearingConditions_iff.mp hholds).peers b hb hown
    rw [modifyPeer_peer? w b.station fun r _ => hstation r, if_pos rfl] at hr
    obtain ⟨r₀, -, rfl⟩ := Option.map_eq_some_iff.mp hr
    exact hdown r₀ hfresh
  rw [judge, hfails, judgeClearing_fails]

theorem uses_decide (sl : Slot) (own n : Nat) :
    sl.uses own n = decide (n ≠ own ∧ sl.boundary.any (fun b => b.station == n) = true) := by
  rw [Bool.eq_iff_iff]
  simp [Slot.uses, Slot.bounds]

theorem map_using {f g : Slot → Slot} {own n : Nat} (h : ∀ sl, sl.uses own n = true → f sl = g sl) (slots : List Slot) :
    (slots.map fun sl => if sl.uses own n = true then f sl else sl) =
      slots.map fun sl => if n ≠ own ∧ sl.boundary.any (fun b => b.station == n) = true then g sl else sl := by
  refine List.map_congr_left fun sl _ => ?_
  by_cases huses : sl.uses own n = true
  · rw [if_pos huses, if_pos (by simpa [uses_decide] using huses), h sl huses]
  · rw [if_neg huses, if_neg (by simpa [uses_decide] using huses)]

theorem modifyPeer_peers (s : State) (n : Nat) (f : PeerRecord → PeerRecord) :
    (s.modifyPeer n f).peers = s.peers.map fun r => if r.station = n then f r else r := by
  simp [State.modifyPeer]

theorem exec_peerStale_ends {s : State} {n : Nat} {r : PeerRecord} {a : Tick} (hr : s.peer? n = some r)
    (hstate : r.state = .fresh) (ha : r.acceptedAt = some a) : ∃ t, exec (.peerStale n) s = .next t ∧
      Ends { s with
        now := max s.now (a + 60001)
        peers := s.peers.map (fun x => if x.station = n then { x with state := .stale } else x)
        slots := s.slots.map (fun sl =>
          if n ≠ s.own ∧ sl.boundary.any (fun b => b.station == n) = true then sl.unclear else sl) } t := by
  have hexec : exec (.peerStale n) s = execPeerStale n s := rfl
  rw [hexec, execPeerStale, whenDue_of_eq (peerStaleDue_eq hr hstate ha)]
  refine ⟨_, rfl, ?_⟩
  have hslots : (judgeUsing n ((s.reach (a + 60001)).modifyPeer n fun r => { r with state := .stale })).slots =
      s.slots.map fun sl => if n ≠ s.own ∧ sl.boundary.any (fun b => b.station == n) = true then sl.unclear else sl := by
    rw [judgeUsing_slots]
    exact map_using (fun sl huses =>
      judge_of_peerDown (w := s.reach (a + 60001)) (fun _ => by rfl) (fun _ => by simp) huses false) s.slots
  have hstale : judgeUsing n ((s.reach (a + 60001)).modifyPeer n fun r => { r with state := .stale }) =
      { s.reach (a + 60001) with
        peers := s.peers.map (fun x => if x.station = n then { x with state := .stale } else x)
        slots := s.slots.map (fun sl =>
          if n ≠ s.own ∧ sl.boundary.any (fun b => b.station == n) = true then sl.unclear else sl) } := by
    rw [← hslots, ← modifyPeer_peers s n fun r => { r with state := .stale }]
    rfl
  rw [hstale]
  obtain ⟨_, _, _, hreach⟩ := reach_eq s (a + 60001)
  rw [hreach]
  exact (finish_ends _ _).of_lanes rfl

theorem lose_station (r : PeerRecord) : r.lose.station = r.station := rfl

theorem exec_peerLost_ends {s : State} {n : Nat} {r : PeerRecord} {a : Tick} (hr : s.peer? n = some r)
    (hstate : r.state = .stale) (ha : r.acceptedAt = some a) : ∃ t, exec (.peerLost n) s = .next t ∧
      t.peers = s.peers.map (fun x => if x.station = n then x.lose else x) ∧
      t.slots = s.slots.map (loseSlot ((s.reach (a + 400001)).modifyPeer n PeerRecord.lose) n) ∧
      Ends { s with now := max s.now (a + 400001), peers := t.peers, slots := t.slots } t := by
  have hexec : exec (.peerLost n) s = whenDue (peerLostDue s n) s (effect (.peerLost n)) := rfl
  rw [hexec, whenDue_of_eq (peerLostDue_eq hr hstate ha)]
  refine ⟨_, rfl, ?_, ?_, ?_⟩
  · obtain ⟨_, heffect⟩ := peerLost_eq n (s.reach (a + 400001))
    rw [finish_peers, heffect]
    exact modifyPeer_peers s n PeerRecord.lose
  · rw [finish_slots, peerLost_slots]
    rfl
  · obtain ⟨_, heffect⟩ := peerLost_eq n (s.reach (a + 400001))
    rw [finish_peers, finish_slots, heffect]
    obtain ⟨_, _, _, hreach⟩ := reach_eq s (a + 400001)
    rw [hreach]
    exact (finish_ends _ _).of_lanes rfl

end Sys2Proof.Machine

namespace Sys2Proof.Proofs
open Sys2Proof.Machine

/-- Settles O42: by the two cases of a cause on a slot. -/
theorem causesDisturb : Obligations.CausesDisturb := by
  refine fun cause time station sl => ⟨fun h => ?_, fun h => ?_⟩
  · rw [disturb, if_neg h]; rfl
  · rw [disturb, if_pos h]; rfl

/-- Settles O41: both run-outs change their one slot. -/
theorem lingersAndCoolDownsEnd : Obligations.LingersAndCoolDownsEnd := by
  refine ⟨fun i sl x s hsl hx => ?_, fun i sl x s hsl hx => ?_⟩
  · have hdue : lingerDue s i = some (x + 200000) := slotDue_eq (since := (·.reset.lingerSince)) hsl hx _
    obtain ⟨t, hexec, -, hends⟩ := slotTimer_ends hdue hsl
      (g := fun w => w.modifySlot i fun sl => { sl with reset := { sl.reset with demand := none, lingerSince := none } })
      (fun sl => { sl with reset := { sl.reset with demand := none, lingerSince := none } }) rfl
    exact ⟨t, hexec, hends⟩
  · have hdue : coolDownDue s i = some (x + 12000000) := slotDue_eq (since := (·.reset.coolDownSince)) hsl hx _
    obtain ⟨t, hexec, -, hends⟩ := slotTimer_ends hdue hsl
      (g := fun w => w.modifySlot i fun sl => { sl with reset := { sl.reset with coolDownSince := none } })
      (fun sl => { sl with reset := { sl.reset with coolDownSince := none } }) rfl
    exact ⟨t, hexec, hends⟩

/-- Settles O32: both run-outs change their one slot, the negative hold with its cause outside lockdown. -/
theorem slotTimersRunOut : Obligations.SlotTimersRunOut := by
  refine ⟨fun i sl x s hsl hx => exec_negativeBalance_ends hsl hx, fun i sl x s hsl hx => ?_⟩
  have hdue : settledDue s i = some (x + 120000) := slotDue_eq (since := (·.settledSince)) hsl hx _
  obtain ⟨t, hexec, -, hends⟩ := slotTimer_ends hdue hsl
    (g := fun w => w.modifySlot i fun sl => { sl with settledSince := none }) (fun sl => { sl with settledSince := none }) rfl
  exact ⟨t, hexec, hends⟩

/-- Settles O40: the window's run-out is an expiry of the one slot's demand. -/
theorem windowsExpire : Obligations.WindowsExpire := by
  intro i sl x s hsl hstate hx
  rw [← expireDemand_eq]
  exact exec_windowExpiry_ends hsl hstate hx

/-- Settles O31: a STALE peer fails the clearing conditions of the slots that use it, and a LOST one is a cause on them, in
lockdown a failed judgement alone. -/
theorem peersGrowStaleAndLost : Obligations.PeersGrowStaleAndLost := by
  refine ⟨fun n a r s hr hstate ha => exec_peerStale_ends hr hstate ha, fun n a r s hr hstate ha => ?_⟩
  obtain ⟨t, hexec, hpeers, hslots, hends⟩ := exec_peerLost_ends hr hstate ha
  have htime : t.stationTime = (s.reach (a + 400001)).stationTime := by rw [hends.rest]; rfl
  have hown : ((s.reach (a + 400001)).modifyPeer n PeerRecord.lose).own = s.own := rfl
  have hlockdown : ((s.reach (a + 400001)).modifyPeer n PeerRecord.lose).lockdown = s.lockdown := rfl
  refine ⟨t, hexec, hpeers, hends, fun hlocked => ?_, fun hlocked => ?_⟩
  · rw [hslots, htime, ← map_using fun _ _ => rfl]
    refine List.map_congr_left fun sl _ => ?_
    simp only [loseSlot, hown, hlockdown, hlocked, Bool.false_eq_true, if_false]
    rfl
  · have hjudged : ∀ sl, loseSlot ((s.reach (a + 400001)).modifyPeer n PeerRecord.lose) n sl =
        if sl.uses s.own n then judge ((s.reach (a + 400001)).modifyPeer n PeerRecord.lose) false sl else sl := by
      intro sl
      simp only [loseSlot, hown, hlockdown, hlocked, if_true]
    constructor <;>
    · rw [hslots, List.map_map]
      refine List.map_congr_left fun sl _ => ?_
      rw [Function.comp_apply, hjudged]
      obtain ⟨_, _, _, h⟩ := judge_eq ((s.reach (a + 400001)).modifyPeer n PeerRecord.lose) false sl
      rw [h]
      split <;> rfl

/-- Settles O33: at the entry to CLEAR every base is the current total of its point, so that nothing has been counted. -/
theorem confirmedSlotsClear : Obligations.ConfirmedSlotsClear := by
  intro i sl x s hsl hstate hx
  have hdue : confirmDue s i = some (x + 100000) := slotDue_eq (since := fun sl => _) hsl (by rw [if_pos hstate, hx]) _
  obtain ⟨t, hexec, -, hends⟩ := slotTimer_ends hdue hsl (g := fun w => w.modifySlot i (enterClear w))
    (enterClear (s.reach (x + 100000))) rfl
  rw [enterClear_eq, show rebaseToTotals (s.reach (x + 100000)) = rebaseToTotals s from rfl,
    funext (rebaseToTotals_eq s)] at hends
  exact ⟨t, hexec, hends⟩

end Sys2Proof.Proofs
end

section
/-! PROOFS. The verdict on the image, the self-tests and the end of SILENCE (O7, O8, O9, O10). -/

namespace Sys2Proof.Machine

/-! ### Judgements of the clearing conditions -/

theorem judge_evaluating (s : State) (changed : Bool) (sl : Slot) :
    (judge s changed sl).state.evaluating = sl.state.evaluating := by
  obtain h | ⟨-, hstate, h⟩ | ⟨-, -, -, h⟩ | ⟨hstate, -, h⟩ :=
    judgeClearing_cases s.now (s.clearingConditions sl) changed sl <;> rw [judge, h]
  · obtain hstate | ⟨hstate, -⟩ := hstate <;> rw [hstate] <;> rfl
  · obtain hstate | hstate := hstate <;> rw [hstate] <;> rfl

theorem judge_of_not_evaluating {sl : Slot} (h : sl.state.evaluating = false) (s : State) (changed : Bool) :
    judge s changed sl = sl := by
  unfold judge judgeClearing
  cases hstate : sl.state <;> first | rfl | (rw [hstate] at h; cases h)

theorem judgedOnly_refl (slots : List Slot) : JudgedOnly slots slots :=
  ⟨rfl, fun i sl sl' h h' => by
    obtain rfl : sl = sl' := Option.some.inj (h.symm.trans h')
    exact ⟨rfl, fun _ => rfl, rfl⟩⟩

theorem judgedOnly_judge (s : State) (changed : Bool) (slots : List Slot) :
    JudgedOnly slots (slots.map (judge s changed)) := by
  refine ⟨by simp, fun i sl sl' h h' => ?_⟩
  rw [List.getElem?_map, h] at h'
  obtain rfl : judge s changed sl = sl' := Option.some.inj h'
  obtain ⟨_, _, _, hjudged⟩ := judge_eq s changed sl
  exact ⟨by rw [hjudged], fun hidle => judge_of_not_evaluating hidle s changed, judge_evaluating s changed sl⟩

theorem judgeAll_slots (s : State) : (judgeAll s).slots = s.slots.map (judge s false) := by
  simp [judgeAll, judgeSlots]

theorem enterRun_judgedOnly (s : State) : JudgedOnly s.slots (enterRun s).slots := by
  obtain ⟨_, h⟩ := enterRun_eq s
  rw [h, judgeAll_slots]
  exact judgedOnly_judge ..

/-- What entry to RUN leaves. -/
theorem enterRun_leaves (s : State) : ∃ slots request, enterRun s = { s with
    phase := .run, silenceOver := true, slots := slots, builder := { s.builder with request := request } } := by
  obtain ⟨_, h⟩ := enterRun_eq s
  exact ⟨_, _, h⟩

/-- Entry to RUN with the telegram slot empty sets the request (R49, R72). -/
theorem enterRun_requests {s : State} (h : s.line.telegramSlot = false) : ∃ slots, enterRun s = { s with
    phase := .run, silenceOver := true, slots := slots, builder := { s.builder with request := true } } := by
  have hreason : takeReason { s with phase := .run, silenceOver := true } =
      { s with phase := .run, silenceOver := true, builder := { s.builder with request := true } } := if_neg (by simp [h])
  rw [enterRun, hreason]
  exact ⟨_, rfl⟩

/-! ### The verdict on the image -/

theorem passingImage_passes {memory : List Byte} {im : Image} (h : passingImage memory = some im) : im.passes = true := by
  unfold passingImage at h
  split at h
  · split at h
    next hpasses => cases h; exact hpasses
    next => cases h
  · cases h

/-- The stations of a passing image lie below 128. -/
theorem entries_below {im : Image} (h : im.passes = true) {e : ImageSlot} (he : e ∈ im.slots) {x : Nat × Side}
    (hx : x ∈ e.entries) : x.1 < 128 := by
  simp only [Image.passes, Bool.and_eq_true] at h
  obtain ⟨⟨⟨⟨⟨⟨⟨⟨-, -⟩, hrange⟩, -⟩, -⟩, -⟩, -⟩, -⟩, -⟩ := h
  simp only [Image.inRange, Bool.and_eq_true, List.all_eq_true, decide_eq_true_iff] at hrange
  exact Nat.lt_of_le_of_lt ((hrange.2 e he).2 x hx).2 (by decide)

theorem mem_peers_iff {im : Image} (h : im.passes = true) (n : Nat) :
    n ∈ im.peers ↔ n ≠ im.station ∧ ∃ e ∈ im.slots, ∃ x ∈ e.entries, x.1 = n := by
  simp only [Image.peers, List.mem_filter, List.mem_range, Bool.and_eq_true, bne_iff_ne, List.any_eq_true, beq_iff_eq]
  refine ⟨fun ⟨_, h⟩ => h, fun ⟨hown, e, he, x, hx, hn⟩ => ⟨?_, hown, e, he, x, hx, hn⟩⟩
  rw [← hn]
  exact entries_below h he hx

theorem exec_configReadEnd_verdict (dt : Nat) (memory : List Byte) (first : HeadLevels) {s : State} (hreading : s.reading = true)
    (hphase : s.phase = .configRead) (hlockdown : s.lockdown = false) : ∃ w c t b d, w = { s with
      now := s.now + dt, lanes := { s.lanes with copy := c, time := t, behind := b, differing := d } } ∧
    exec (.configReadEnd dt memory first) s = .next (finish w (match passingImage memory with
      | some im => passImage im first w
      | none => failImage w)) := by
  have hexec : exec (.configReadEnd dt memory first) s = execConfigReadEnd dt memory first s := rfl
  have harises : ((s.pass dt).reading && (s.pass dt).phase == .configRead && !(s.pass dt).lockdown) = true := by
    simp [hreading, hphase, hlockdown]
  obtain ⟨_, _, _, hpass⟩ := pass_eq s dt
  refine ⟨s.pass dt, _, _, _, _, hpass, ?_⟩
  refine (hexec.trans (onInput_arises harises)).trans ?_
  cases passingImage memory <;> rfl

theorem passImage_head (im : Image) (first : HeadLevels) (w : State) :
    (passImage im first w).head.a.filtered = some first.hca ∧ (passImage im first w).head.b.filtered = some first.hcb ∧
    (passImage im first w).head.a.diffFrom = none ∧ (passImage im first w).head.b.diffFrom = none ∧
    (passImage im first w).head.healthA.level = some first.hha ∧ (passImage im first w).head.healthB.level = some first.hhb ∧
    (passImage im first w).head.state = w.head.state := ⟨rfl, rfl, rfl, rfl, rfl, rfl, rfl⟩

theorem passImage_slot {im : Image} {first : HeadLevels} {w : State} {i : Nat} {sl : Slot} {e : ImageSlot}
    (hsl : (passImage im first w).slots[i]? = some sl) (he : im.slots[i]? = some e) :
    sl = buildSlot w.now w.stationTime im.station e := by
  have hbuilt : (im.slots.map (buildSlot w.now w.stationTime im.station))[i]? = some sl := hsl
  rw [List.getElem?_map, he] at hbuilt
  exact (Option.some.inj hbuilt).symm

theorem passImage_stations (im : Image) (first : HeadLevels) (w : State) :
    (passImage im first w).peers.map (·.station) = im.peers := by
  have hbuilt : (passImage im first w).peers = im.peers.map (buildPeer im.slots.length) := rfl
  rw [hbuilt, List.map_map]
  exact List.map_id' im.peers

theorem peers_ordered (im : Image) : im.peers.Pairwise (· < ·) := List.pairwise_lt_range.filter _

theorem Ends.of_request {u t : State} {request : Bool}
    (h : Ends { u with builder := { u.builder with request := request } } t) : Ends u t :=
  ⟨h.rest, h.slotKept, h.serviceKept⟩

/-! ### The self-tests -/

theorem loopTest_arises {s : State} (htest : s.selfTest = some .lineLoop) (hphase : s.phase = .selfTest)
    (hlockdown : s.lockdown = false) (dt : Nat) : (s.pass dt).inLoopTest = true := by
  change s.inLoopTest = true
  simp [State.inLoopTest, htest, hphase, hlockdown]

theorem exec_lineLoopTest (dt : Nat) (r : LoopResult) {s : State} (htest : s.selfTest = some .lineLoop)
    (hphase : s.phase = .selfTest) (hlockdown : s.lockdown = false) :
    exec (.lineLoopTest dt r) s = .next (finish (s.pass dt) (effect (.lineLoopTest dt r) (s.pass dt))) := by
  have hexec : exec (.lineLoopTest dt r) s = execLineLoopTest dt r s := rfl
  rw [hexec, execLineLoopTest, onInput_arises (loopTest_arises htest hphase hlockdown dt)]
  rfl

theorem loopTestPasses_iff {w : State} {r : LoopResult} : loopTestPasses w r = true ↔
    r.charactersMatch = true ∧ r.frameGood = true ∧ r.ticks ≤ 200 ∧ w.now ≤ w.selfTestSince + 200 := by
  simp only [loopTestPasses, Bool.and_eq_true, and_assoc]
  exact and_congr_right fun _ => and_congr_right fun _ => and_congr decide_eq_true_iff decide_eq_true_iff

theorem laneTestDue_eq {s : State} (htest : s.selfTest = some .lane) (hphase : s.phase = .selfTest)
    (hlockdown : s.lockdown = false) : laneTestDue s = some (s.selfTestSince + 1000) := if_pos ⟨htest, hphase, hlockdown⟩

theorem readBackTestDue_eq {s : State} (htest : s.selfTest = some .readBack) (hphase : s.phase = .selfTest)
    (hlockdown : s.lockdown = false) : readBackTestDue s = some (s.selfTestSince + 1000) := if_pos ⟨htest, hphase, hlockdown⟩

theorem exec_laneTest (agree : Bool) {s : State} (htest : s.selfTest = some .lane) (hphase : s.phase = .selfTest)
    (hlockdown : s.lockdown = false) : exec (.laneTest agree) s =
      .next (finish (s.reach (s.selfTestSince + 1000)) (effect (.laneTest agree) (s.reach (s.selfTestSince + 1000)))) := by
  have hexec : exec (.laneTest agree) s = whenDue (laneTestDue s) s (effect (.laneTest agree)) := rfl
  rw [hexec, whenDue_of_eq (laneTestDue_eq htest hphase hlockdown)]

theorem exec_readBackTest (readings : List Bool) {s : State} (htest : s.selfTest = some .readBack) (hphase : s.phase = .selfTest)
    (hlockdown : s.lockdown = false) : exec (.readBackTest readings) s =
      .next (finish (s.reach (s.selfTestSince + 1000)) (effect (.readBackTest readings) (s.reach (s.selfTestSince + 1000)))) := by
  have hexec : exec (.readBackTest readings) s = whenDue (readBackTestDue s) s (effect (.readBackTest readings)) := rfl
  rw [hexec, whenDue_of_eq (readBackTestDue_eq htest hphase hlockdown)]

/-- All forty readings are low (R46). -/
theorem readings_low_iff (readings : List Bool) :
    (readings.length = 40 ∧ readings.all (fun high => !high) = true) ↔ readings = List.replicate 40 false := by
  rw [List.eq_replicate_iff]
  simp

theorem exec_readBackTest_passes {s : State} (htest : s.selfTest = some .readBack) (hphase : s.phase = .selfTest)
    (hlockdown : s.lockdown = false) : exec (.readBackTest (List.replicate 40 false)) s =
      .next (finish (s.reach (s.selfTestSince + 1000)) (enterSilence (s.reach (s.selfTestSince + 1000)))) :=
  exec_readBackTest _ htest hphase hlockdown

theorem EntersLockdown.of_lanes {cause : LockdownCause} {u v t : State} (h : EntersLockdown cause v t)
    {c : Complement Evaluation} {x : Complement Tick} {b : List LaneEvent} {e : Nat} {d : List LaneDifference}
    (hv : v = { u with lanes := { u.lanes with copy := c, time := x, behind := b, events := e, differing := d } }) :
    EntersLockdown cause u t := by
  subst hv
  exact ⟨h.rest, h.joins, h.stays, h.cutOff, h.answers, h.telegram, h.lamps, h.alarm⟩

/-- An entry to lockdown at the instant of an event. -/
theorem enters_pass {cause : LockdownCause} {s : State} (h : s.lockdown = false) (b : State) (dt : Nat) :
    EntersLockdown cause { s with now := s.now + dt } (finish b (enterLockdown cause (s.pass dt))) := by
  obtain ⟨_, _, _, hpass⟩ := pass_eq s dt
  exact (enterLockdown_enters (w := s.pass dt) h).of_lanes hpass

theorem enters_reach {cause : LockdownCause} {s : State} (h : s.lockdown = false) (b : State) (x : Tick) :
    EntersLockdown cause { s with now := max s.now x } (finish b (enterLockdown cause (s.reach x))) := by
  obtain ⟨_, _, _, hreach⟩ := reach_eq s x
  exact (enterLockdown_enters (w := s.reach x) h).of_lanes hreach

/-- What entry to SILENCE, or to RUN at once, leaves (R47, R48). -/
theorem enterSilence_leaves (w : State) : ∃ slots request ended, enterSilence w = { w with
    phase := if w.now < 500000 then .silence else .run
    selfTest := none, silenceOver := ended, slots := slots, builder := { w.builder with request := request }
    outputs := { w.outputs with tickSince := some w.now, watch := 0 } } ∧ JudgedOnly w.slots slots := by
  obtain ⟨hnow, h⟩ | ⟨hnow, h⟩ := enterSilence_cases w <;> rw [h]
  · exact ⟨w.slots, w.builder.request, w.silenceOver, by rw [if_pos (show w.now < 500000 from hnow)], judgedOnly_refl _⟩
  · obtain ⟨slots, request, hrun⟩ := enterRun_leaves { w with
      phase := .silence, selfTest := none, outputs := { w.outputs with tickSince := some w.now, watch := 0 } }
    have hjudged := enterRun_judgedOnly { w with
      phase := .silence, selfTest := none, outputs := { w.outputs with tickSince := some w.now, watch := 0 } }
    rw [hrun] at hjudged
    exact ⟨slots, request, true, by rw [hrun, if_neg (show ¬w.now < 500000 from Nat.not_lt_of_le hnow)], hjudged⟩

/-! ### The end of SILENCE -/

/-- A telegram requested with an empty slot, no spacing time and no frame in service is taken into service (R60, R73). -/
theorem finish_serves {u : State} (hrequest : u.builder.request = true) (hspacing : u.builder.spacingSince = none)
    (hslot : u.line.telegramSlot = false) (hservice : u.line.service = none) (hserves : u.mayServe = true) (b : State) :
    (finish b u).builder = { u.builder with request := false } ∧ ∃ transmitter, (finish b u).line = { u.line with
      telegramSlot := true, service := some .telegram, attempt := 0, transmitter := transmitter } := by
  have hnoted : noteChange b u = u := by
    obtain h | h := noteChange_cases b u
    · exact h
    · rw [h, ← hrequest]
  have hfilled : fillSlot u = { u with
      builder := { u.builder with request := false }, line := { u.line with telegramSlot := true } } :=
    if_pos ⟨hrequest, hslot, hspacing⟩
  have hserved : serve (fillSlot u) = { fillSlot u with line := { u.line with
      telegramSlot := true, service := some .telegram, attempt := 0
      transmitter := if (fillSlot u).lineIsIdle then .slotDelay (fillSlot u).now else .awaitIdle } } := by
    rw [hfilled]
    exact if_pos ⟨hservice, hserves⟩
  obtain ⟨_, _, hfinish⟩ := finish_eq b u
  rw [hfinish, hnoted, hserved, hfilled]
  exact ⟨rfl, _, rfl⟩

theorem silenceEndDue_eq {s : State} (h : s.silenceOver = false) : silenceEndDue s = some 500000 := by
  simp [silenceEndDue, h, silenceTicks, ms]

theorem exec_silenceEnd {s : State} (h : s.silenceOver = false) :
    exec .silenceEnd s = .next (finish (s.reach 500000) (effect .silenceEnd (s.reach 500000))) := by
  have hexec : exec .silenceEnd s = whenDue (silenceEndDue s) s (effect .silenceEnd) := rfl
  rw [hexec, whenDue_of_eq (silenceEndDue_eq h)]

theorem finish_status_high {b u : State} (hservice : u.inService = true) (hsince : u.outputs.status.since = none) :
    (finish b u).outputs.status.high = true := by
  have hserves : (finish b u).inService = true := by
    rw [State.inService, finish_phase, finish_lockdown]; exact hservice
  rw [finish_status, hserves]
  simp [StatusLine.command, hsince]

end Sys2Proof.Machine

namespace Sys2Proof.Proofs
open Sys2Proof.Machine

/-- Settles O7: the two branches of the verdict; the records are built from the ordered stations of the image. -/
theorem imageVerdictIsTaken : Obligations.ImageVerdictIsTaken := by
  refine ⟨fun dt memory first s im hreading hphase hlockdown hpassing => ?_,
    fun dt memory first s hreading hphase hlockdown hfailing => ?_⟩
  · obtain ⟨w, _, _, _, _, hw, hexec⟩ := exec_configReadEnd_verdict dt memory first hreading hphase hlockdown
    rw [hpassing] at hexec
    have hpasses := passingImage_passes hpassing
    have hends := finish_ends w (passImage im first w)
    have hstations := passImage_stations im first w
    obtain ⟨ha, hb, hdiffA, hdiffB, hhealthA, hhealthB, hstate⟩ := passImage_head im first w
    refine ⟨_, hexec, ?_, ?_⟩
    · rw [finish_slots, finish_peers, finish_head]
      subst hw
      exact hends.of_lanes rfl
    · rw [finish_slots, finish_peers, finish_head]
      refine ⟨ha, hb, hdiffA, hdiffB, hhealthA, hhealthB, hstate.trans (by rw [hw]), by simp [passImage],
        fun i sl e hsl he => ?_, fun n => ?_, ?_, fun r hr => ?_⟩
      · have htime : (finish w (passImage im first w)).stationTime = w.stationTime := by
          rw [State.stationTime, finish_now]; rfl
        rw [passImage_slot hsl he, htime]
        exact ⟨rfl, rfl, rfl, rfl, rfl, rfl, rfl, rfl, rfl⟩
      · rw [← mem_peers_iff hpasses, ← hstations, List.mem_map]
      · rw [hstations]; exact peers_ordered im
      · obtain ⟨n, -, rfl⟩ := List.mem_map.mp hr
        exact ⟨rfl, rfl, rfl, rfl, rfl, rfl, rfl⟩
  · obtain ⟨w, _, _, _, _, rfl, hexec⟩ := exec_configReadEnd_verdict dt memory first hreading hphase hlockdown
    rw [hfailing] at hexec
    exact ⟨_, hexec, (finish_ends _ _).of_lanes rfl⟩

/-- Settles O8: each test that passes is an event of its own rule; the end of the last one is the entry to SILENCE. -/
theorem selfTestsPass : Obligations.SelfTestsPass := by
  refine ⟨fun dt r s htest hphase hlockdown hcharacters hframe hticks hnow => ?_, fun s htest hphase hlockdown => ?_,
    fun s htest hphase hlockdown => ?_⟩
  · have hpasses : loopTestPasses (s.pass dt) r = true := loopTestPasses_iff.mpr ⟨hcharacters, hframe, hticks, hnow⟩
    refine ⟨_, exec_lineLoopTest dt r htest hphase hlockdown, ?_⟩
    dsimp only [effect]
    rw [if_pos hpasses]
    obtain ⟨_, _, _, hpass⟩ := pass_eq s dt
    rw [hpass]
    exact (finish_ends _ _).of_lanes rfl
  · refine ⟨_, exec_laneTest true htest hphase hlockdown, ?_⟩
    obtain ⟨_, _, _, hreach⟩ := reach_eq s (s.selfTestSince + 1000)
    rw [hreach]
    exact (finish_ends _ _).of_lanes rfl
  · refine ⟨_, exec_readBackTest_passes htest hphase hlockdown, ?_⟩
    obtain ⟨slots, request, ended, hsilence, hjudged⟩ := enterSilence_leaves (s.reach (s.selfTestSince + 1000))
    have hends := finish_ends (s.reach (s.selfTestSince + 1000)) (enterSilence (s.reach (s.selfTestSince + 1000)))
    generalize finish (s.reach (s.selfTestSince + 1000)) (enterSilence (s.reach (s.selfTestSince + 1000))) = t at hends ⊢
    rw [hsilence] at hends
    rw [hends.rest]
    exact ⟨rfl, rfl, hlockdown, rfl, rfl, rfl, rfl, rfl, rfl, rfl, rfl, rfl, rfl, rfl, hjudged⟩

/-- Settles O9: each test that fails is an entry to lockdown at its instant. -/
theorem selfTestsFail : Obligations.SelfTestsFail := by
  refine ⟨fun dt r s htest hphase hlockdown hfails => ?_, fun s htest hphase hlockdown => ?_,
    fun readings s htest hphase hlockdown hfails => ?_⟩
  · have hpasses : ¬loopTestPasses (s.pass dt) r = true := by
      rw [loopTestPasses_iff]
      rintro ⟨hcharacters, hframe, hticks, hnow⟩
      have hnow : s.now + dt ≤ s.selfTestSince + 200 := hnow
      rw [hcharacters, hframe] at hfails
      simp only [Bool.true_eq_false, false_or] at hfails
      exact hfails.elim (Nat.not_lt_of_le hticks) (Nat.not_lt_of_le hnow)
    refine ⟨_, exec_lineLoopTest dt r htest hphase hlockdown, ?_⟩
    dsimp only [effect]
    rw [if_neg hpasses]
    exact enters_pass hlockdown _ dt
  · refine ⟨_, exec_laneTest false htest hphase hlockdown, ?_⟩
    exact enters_reach hlockdown _ _
  · refine ⟨_, exec_readBackTest readings htest hphase hlockdown, ?_⟩
    dsimp only [effect]
    rw [if_neg fun h => hfails ((readings_low_iff readings).mp h)]
    exact enters_reach hlockdown _ _

/-- Settles O10: at 5000 ms SILENCE is an entry to RUN, whose request finds the line free; in lockdown it is the request of
the first LOCKDOWN telegram. -/
theorem silenceEnds : Obligations.SilenceEnds := by
  refine ⟨fun s hover hphase hlockdown hspacing hslot hservice => ?_, fun s hover hphase hlockdown => ?_⟩
  · have heffect : effect .silenceEnd (s.reach 500000) = enterRun { s.reach 500000 with silenceOver := true } := by
      simp [effect, hphase, hlockdown]
    obtain ⟨slots, hrun⟩ := enterRun_requests (s := { s.reach 500000 with silenceOver := true }) hslot
    have hjudged := enterRun_judgedOnly { s.reach 500000 with silenceOver := true }
    rw [hrun] at heffect hjudged
    obtain ⟨hbuilder, transmitter, hline⟩ := finish_serves (u := effect .silenceEnd (s.reach 500000)) (by rw [heffect])
      (by rw [heffect]; exact hspacing) (by rw [heffect]; exact hslot) (by rw [heffect]; exact hservice)
      (by rw [heffect]; rfl) (s.reach 500000)
    have hhigh := finish_status_high (b := s.reach 500000) (u := effect .silenceEnd (s.reach 500000))
      (by rw [heffect, State.inService]; exact congrArg (true && !·) hlockdown)
    have hends := finish_ends (s.reach 500000) (effect .silenceEnd (s.reach 500000))
    refine ⟨_, exec_silenceEnd hover, ?_⟩
    generalize finish (s.reach 500000) (effect .silenceEnd (s.reach 500000)) = t at *
    generalize effect .silenceEnd (s.reach 500000) = u at *
    have hrest := hends.rest
    subst heffect
    exact ⟨congrArg (·.now) hrest, congrArg (·.phase) hrest, congrArg (·.silenceOver) hrest, hbuilder, by rw [hline]; rfl,
      congrArg (·.outputs.pairs) hrest, hhigh, congrArg (·.head) hrest, congrArg (·.detector) hrest,
      congrArg (·.txy) hrest, congrArg (·.tyx) hrest, congrArg (·.log) hrest, congrArg (·.peers) hrest,
      by rw [hrest]; exact hjudged⟩
  · have heffect : effect .silenceEnd (s.reach 500000) = takeReason { s.reach 500000 with silenceOver := true } := by
      obtain hphase | hphase := hphase <;> simp [effect, hphase, hlockdown]
    refine ⟨_, exec_silenceEnd hover, ?_⟩
    rw [heffect]
    refine ⟨finish_requests (takeReason_requests _), ?_⟩
    obtain ⟨request, h⟩ := takeReason_eq { s.reach 500000 with silenceOver := true }
    rw [h]
    refine Ends.of_request (request := request) ?_
    obtain ⟨_, _, _, hreach⟩ := reach_eq s 500000
    rw [hreach]
    exact (finish_ends _ _).of_lanes rfl

end Sys2Proof.Proofs
end

section
/-! PROOFS. The passage automaton and what a passage that ends brings about (O12, O13, O14, O15). -/

namespace Sys2Proof.Machine

/-! ### The event of a filtered change -/

/-- A filtered change is an event at an instant of its own, no earlier than the time that has passed (R2). -/
theorem exec_filteredChange_reach (dt : Nat) {a b : Bool} {s : State} (hconfigured : s.configured = true)
    (hchange : (a || b) = true) : ∃ x, s.now + dt ≤ x ∧ exec (.filteredChange dt a b) s =
      .next (finish (s.reach x) (effect (.filteredChange dt a b) (s.reach x))) := by
  dsimp only [exec, execFilteredChange]
  rw [onInput_arises (by rw [hchange, Bool.and_true]; exact hconfigured), State.reach_of_wait]
  exact ⟨_, Nat.le_max_left .., rfl⟩

/-- What a filtered change does to the head and the pins; the passage that ends writes slots, totals and log (R2, R16, R18). -/
theorem effect_filteredChange_eq (dt : Nat) (a b : Bool) (w : State) : ∃ detector slots txy tyx log,
    effect (.filteredChange dt a b) w = { takeFiltered a b w with
      detector := detector, slots := slots, txy := txy, tyx := tyx, log := log } := by
  dsimp only [effect, followPassage]
  split
  · obtain ⟨_, _, _, _, h⟩ := endPassage_eq ((takeFiltered a b w).detector.take (takeFiltered a b w).now
      (takeFiltered a b w).passageTicks a b (takeFiltered a b w).head.a.level (takeFiltered a b w).head.b.level).2
      { takeFiltered a b w with detector := ((takeFiltered a b w).detector.take (takeFiltered a b w).now
          (takeFiltered a b w).passageTicks a b (takeFiltered a b w).head.a.level (takeFiltered a b w).head.b.level).1 }
    exact ⟨_, _, _, _, _, h⟩
  · exact ⟨_, _, _, _, _, rfl⟩

/-- From `s` to `t` a filtered change has been taken at `w`, with `u` what it does before its end. -/
structure ChangeTaken (a b : Bool) (s w u t : State) : Prop where
  later : ∃ x, w = s.reach x
  now : t.now = w.now
  head : t.head = (takeFiltered a b w).head
  detector : t.detector = u.detector
  slots : t.slots = u.slots
  txy : t.txy = u.txy
  tyx : t.tyx = u.tyx
  log : t.log = u.log
  event : Ends { s with
    now := t.now, head := t.head, pins := t.pins, detector := t.detector, txy := t.txy, tyx := t.tyx, log := t.log,
    slots := t.slots } t

theorem exec_filteredChange_taken (dt : Nat) {a b : Bool} {s : State} (hconfigured : s.configured = true)
    (hchange : (a || b) = true) : ∃ t w, exec (.filteredChange dt a b) s = .next t ∧ s.now + dt ≤ t.now ∧
      ChangeTaken a b s w (followPassage a b (takeFiltered a b w)) t := by
  obtain ⟨x, hx, hexec⟩ := exec_filteredChange_reach dt hconfigured hchange
  refine ⟨_, s.reach x, hexec, ?_, ?_⟩
  · obtain ⟨_, _, _, _, _, heffect⟩ := effect_filteredChange_eq dt a b (s.reach x)
    rw [heffect, finish_now]
    exact Nat.le_trans hx (Nat.le_max_right s.now x)
  · obtain ⟨_, _, _, _, _, heffect⟩ := effect_filteredChange_eq dt a b (s.reach x)
    refine ⟨⟨x, rfl⟩, ?_, ?_, finish_detector .., finish_slots .., finish_txy .., finish_tyx .., finish_log .., ?_⟩
    · rw [heffect, finish_now]; rfl
    · rw [heffect, finish_head]
    · rw [heffect]
      obtain ⟨_, _, _, hreach⟩ := reach_eq s x
      simp only [finish_now, finish_head, finish_pins, finish_detector, finish_txy, finish_tyx, finish_log, finish_slots]
      rw [hreach]
      exact (finish_ends _ _).of_lanes rfl

/-! ### The tables of the automaton (R10, R12, R13) -/

/-- What a row does to the detector at `now`, with the passage tick count `ticks`. -/
def TableRow.take (row : TableRow) (now ticks : Nat) (d : Detector) : Detector :=
  match row.mark with
  | .plain => { d with state := row.next }
  | .lead => { d with state := row.next, leadAt := some now, trail := none }
  | .trail => { d with state := row.next, trail := some ticks }
  | .rocks => { d with state := row.next, rocked := true }
  | .drawsBack => { d with state := .idle, leadAt := none, heldCount := ticks, rocked := false }
  | .completes => { d with state := .idle, leadAt := none, heldCount := ticks, rocked := false }

/-- Every row of the tables is taken as it stands, and ends no passage but where it completes one. -/
theorem take_of_row {row : TableRow} (hrow : row ∈ automatonTable) {d : Detector} (hstate : d.state = row.state) {a b : Bool}
    (hlevel : (match row.channel with | .a => a | .b => b) = row.rises) (now ticks : Nat) :
    (d.take now ticks (row.channel == .a) (row.channel == .b) a b).1 = row.take now ticks d ∧
      (row.mark ≠ .completes → (d.take now ticks (row.channel == .a) (row.channel == .b) a b).2 = .goesOn ∨
        (d.take now ticks (row.channel == .a) (row.channel == .b) a b).2 = .drawnBack) := by
  revert hstate hlevel
  revert row
  simp only [automatonTable, List.forall_mem_cons]
  refine ⟨?_, ?_, ?_, ?_, ?_, ?_, ?_, ?_, ?_, ?_, ?_, ?_, ?_, ?_, fun _ h => (List.not_mem_nil h).elim⟩ <;>
  · intro hstate hlevel
    subst hlevel
    have hab : (Channel.a == Channel.b) = false := rfl
    have hba : (Channel.b == Channel.a) = false := rfl
    simp [hab, hba, Detector.take, Detector.changeA, Detector.changeB, hstate, TableRow.take, Detector.lead, Detector.stampTrail,
      Detector.rock, Detector.toIdle, Detector.complete]

/-- The event of a filtered change with the head COUNTING outside lockdown: the automaton takes it, and what ends follows. -/
theorem followPassage_eq {a b : Bool} {w : State} (hcounting : w.head.state = .counting) (hlockdown : w.lockdown = false) :
    followPassage a b (takeFiltered a b w) = endPassage
      (w.detector.take w.now w.passageTicks a b (w.head.a.change a).level (w.head.b.change b).level).2
        { takeFiltered a b w with
          detector := (w.detector.take w.now w.passageTicks a b (w.head.a.change a).level (w.head.b.change b).level).1 } :=
  if_pos (State.follows_iff.mpr ⟨hcounting, hlockdown⟩)

theorem change_level {ch : HeadChannel} {level : Bool} (h : ch.filtered = some level) (changed : Bool) :
    (ch.change changed).level = (level != changed) := by
  cases changed <;> cases level <;> simp [HeadChannel.change, HeadChannel.level, h]

/-- The filtered level that a row's change brings. -/
theorem changed_filtered {c : Channel} {level : Bool} {w : State} (h : (w.head.channel c).filtered = some (!level)) :
    ((takeFiltered (c == .a) (c == .b) w).head.channel c).filtered = some level := by
  cases c
  · have hchange : (w.head.a.change true).filtered = some level := by
      rw [HeadChannel.change, if_pos rfl, show w.head.a.filtered = some (!level) from h]
      simp
    exact hchange
  · have hchange : (w.head.b.change true).filtered = some level := by
      rw [HeadChannel.change, if_pos rfl, show w.head.b.filtered = some (!level) from h]
      simp
    exact hchange

/-! ### What a passage that ends brings about (R16, R18) -/

/-- A double change, and any change in UNRESOLVED, is followed by the check of the levels (R16). -/
theorem take_checks {d : Detector} {changedA changedB : Bool} (h : changedA = true ∧ changedB = true ∨
    (changedA || changedB) = true ∧ d.state = .unresolved) (now ticks : Nat) (a b : Bool) :
    d.take now ticks changedA changedB a b = d.checkUnresolved ticks a b := by
  obtain ⟨rfl, rfl⟩ | ⟨hchange, hstate⟩ := h
  · rfl
  · cases changedA <;> cases changedB <;> simp_all [Detector.take, Detector.changeA, Detector.changeB]

/-- Outside lockdown a cause on every slot disturbs every slot, which then waits for no judgement. -/
theorem judgeAll_declareAll {s : State} (h : s.lockdown = false) (cause : Cause) :
    judgeAll (declareAll cause s) = { s with slots := s.slots.map (disturb cause s.stationTime s.own) } := by
  have hdeclared : declareAll cause s = { s with slots := s.slots.map (disturb cause s.stationTime s.own) } := by
    simp [declareAll, declareOn, h]
  have hjudged : (judgeAll (declareAll cause s)).slots = s.slots.map (disturb cause s.stationTime s.own) := by
    rw [judgeAll_slots, hdeclared, List.map_map]
    exact List.map_congr_left fun sl _ => judge_disturb ..
  rw [← hjudged, hdeclared]
  rfl

/-- With the automaton not IDLE no slot meets the clearing conditions (R111). -/
theorem judgeAll_of_moving {s : State} (h : s.detector.state ≠ .idle) :
    judgeAll s = { s with slots := s.slots.map Slot.unclear } := by
  have hfails : ∀ sl, s.clearingConditions sl = false := fun sl =>
    Bool.eq_false_iff.mpr fun hholds => h (clearingConditions_iff.mp hholds).detector
  simp [judgeAll, judgeSlots, judge, hfails, judgeClearing_fails]

/-- A log entry of a passage that is not counted, with its cause on every slot. -/
theorem judgeAll_unresolved {s : State} (h : s.lockdown = false) (speed : Nat) (rocked : Bool) :
    judgeAll (declareAll .passageUnresolved (logPassage .unresolved speed rocked s)) =
      { s with
        log := appendEntry s.log { kind := .unresolved, time := s.stationTime, speed := some speed, rocked := rocked }
        slots := s.slots.map (disturb .passageUnresolved s.stationTime s.own) } :=
  judgeAll_declareAll (s := logPassage .unresolved speed rocked s) h .passageUnresolved

theorem passageTicks_eq {w : State} : w.passageTicks =
    (match w.detector.leadAt with | some lead => min 65535 (w.now - lead) | none => w.detector.heldCount) := rfl

theorem ChangeTaken.stationTime {a b : Bool} {s w u t : State} (h : ChangeTaken a b s w u t) : t.stationTime = w.stationTime := by
  rw [State.stationTime, h.now]; rfl

/-- The change that completes a passage in the last state of its direction. -/
theorem taken_completes {d : Direction} {s : State} (dt : Nat) (hconfigured : s.configured = true)
    (hcounting : s.head.state = .counting) (hlockdown : s.lockdown = false)
    (hlast : match d with
      | .xy => s.detector.state = .x3 ∧ s.head.a.filtered = some false ∧ s.head.b.filtered = some true
      | .yx => s.detector.state = .y3 ∧ s.head.a.filtered = some true ∧ s.head.b.filtered = some false) :
    ∃ t w, exec (.filteredChange dt (d == .yx) (d == .xy)) s = .next t ∧
      ChangeTaken (d == .yx) (d == .xy) s w
        (endPassage (.completes d (s.detector.trail.getD 0) s.detector.rocked)
          { takeFiltered (d == .yx) (d == .xy) w with detector := s.detector.toIdle w.passageTicks }) t := by
  obtain ⟨t, w, hexec, -, htaken⟩ := exec_filteredChange_taken dt (a := d == .yx) (b := d == .xy) hconfigured
    (by cases d <;> rfl)
  refine ⟨t, w, hexec, ?_⟩
  obtain ⟨x, rfl⟩ := htaken.later
  have hlevels : s.detector.state = d.last ∧ (s.head.a.change (d == .yx)).level = false ∧
      (s.head.b.change (d == .xy)).level = false := by
    cases d <;> obtain ⟨hstate, ha, hb⟩ := hlast <;> exact ⟨hstate, change_level ha _, change_level hb _⟩
  obtain ⟨hstate, ha, hb⟩ := hlevels
  rw [followPassage_eq (by exact hcounting) (by exact hlockdown)] at htaken
  have htake : (s.reach x).detector.take (s.reach x).now (s.reach x).passageTicks (d == .yx) (d == .xy)
      ((s.reach x).head.a.change (d == .yx)).level ((s.reach x).head.b.change (d == .xy)).level =
        s.detector.complete (s.reach x).passageTicks d :=
    Detector.take_of_last (d := s.detector) hstate ha hb _ _
  rw [htake] at htaken
  exact htaken

/-- The change that the check of the levels follows, with the levels after it. -/
theorem taken_checks {s : State} {a b changedA changedB : Bool} (dt : Nat) (hconfigured : s.configured = true)
    (hcounting : s.head.state = .counting) (hlockdown : s.lockdown = false) (ha : s.head.a.filtered = some a)
    (hb : s.head.b.filtered = some b) (hchange : changedA = true ∧ changedB = true ∨
      (changedA || changedB) = true ∧ s.detector.state = .unresolved) :
    ∃ t w, exec (.filteredChange dt changedA changedB) s = .next t ∧ ChangeTaken changedA changedB s w
      (endPassage (s.detector.checkUnresolved w.passageTicks (a != changedA) (b != changedB)).2
        { takeFiltered changedA changedB w with
          detector := (s.detector.checkUnresolved w.passageTicks (a != changedA) (b != changedB)).1 }) t := by
  obtain ⟨t, w, hexec, -, htaken⟩ := exec_filteredChange_taken dt (a := changedA) (b := changedB) hconfigured (by
    obtain ⟨rfl, rfl⟩ | ⟨h, -⟩ := hchange
    · rfl
    · exact h)
  refine ⟨t, w, hexec, ?_⟩
  obtain ⟨x, rfl⟩ := htaken.later
  have hlevelA : ((s.reach x).head.a.change changedA).level = (a != changedA) := change_level (ch := s.head.a) ha _
  have hlevelB : ((s.reach x).head.b.change changedB).level = (b != changedB) := change_level (ch := s.head.b) hb _
  rw [followPassage_eq (by exact hcounting) (by exact hlockdown), hlevelA, hlevelB,
    take_checks (d := (s.reach x).detector) hchange] at htaken
  exact htaken

/-- The check that leaves a level at 1 leads to UNRESOLVED or leaves it, and takes every slot out of CLEARING and CLEAR. -/
theorem taken_unresolved {s w t : State} {a b changedA changedB : Bool} (hlevel : (a || b) = true)
    (h : ChangeTaken changedA changedB s w (endPassage (s.detector.checkUnresolved w.passageTicks a b).2
      { takeFiltered changedA changedB w with detector := (s.detector.checkUnresolved w.passageTicks a b).1 }) t) :
    Ends { s with
      now := t.now, head := t.head, pins := t.pins, detector := { s.detector with state := .unresolved }
      slots := s.slots.map Slot.unclear } t := by
  obtain ⟨x, rfl⟩ := h.later
  have hchecked : s.detector.checkUnresolved (s.reach x).passageTicks a b = ({ s.detector with state := .unresolved }, .goesOn) :=
    if_pos hlevel
  rw [hchecked] at h
  have hjudged : endPassage .goesOn { takeFiltered changedA changedB (s.reach x) with
      detector := { s.detector with state := .unresolved } } = _ := judgeAll_of_moving (by simp)
  rw [hjudged] at h
  have hends := h.event
  rw [h.detector, h.txy, h.tyx, h.log, h.slots] at hends
  exact hends

/-- The check that finds both levels 0 ends UNRESOLVED with an entry of speed 0 and a cause on every slot. -/
theorem taken_resolved {s w t : State} {changedA changedB : Bool} (hlockdown : s.lockdown = false)
    (h : ChangeTaken changedA changedB s w (endPassage (s.detector.checkUnresolved w.passageTicks false false).2
      { takeFiltered changedA changedB w with detector := (s.detector.checkUnresolved w.passageTicks false false).1 }) t) :
    t.detector.state = .idle ∧ t.detector.rocked = false ∧ t.detector.trail = s.detector.trail ∧
      Ends { s with
        now := t.now, head := t.head, pins := t.pins, detector := t.detector
        log := appendEntry s.log { kind := .unresolved, time := t.stationTime, speed := some 0, rocked := s.detector.rocked }
        slots := s.slots.map (disturb .passageUnresolved t.stationTime s.own) } t := by
  obtain ⟨x, rfl⟩ := h.later
  have hchecked : s.detector.checkUnresolved (s.reach x).passageTicks false false =
      (s.detector.toIdle (s.reach x).passageTicks, .unresolved s.detector.rocked) := rfl
  rw [hchecked] at h
  have hended : endPassage (.unresolved s.detector.rocked) { takeFiltered changedA changedB (s.reach x) with
      detector := s.detector.toIdle (s.reach x).passageTicks } = _ := judgeAll_unresolved (by exact hlockdown) 0 _
  rw [hended] at h
  have hends := h.event
  rw [h.txy, h.tyx, h.log, h.slots] at hends
  rw [h.stationTime]
  refine ⟨?_, ?_, ?_, hends⟩ <;> rw [h.detector] <;> rfl

/-! ### A counted passage on a slot (R26, R106, R107, R144) -/

/-- The state with a total advanced. -/
def countedTotals (d : Direction) (s : State) : State :=
  match d with
  | .xy => { s with txy := s.txy + 1 }
  | .yx => { s with tyx := s.tyx + 1 }

theorem outOfRange_of_totals {t u : State} (htxy : t.txy = u.txy) (htyx : t.tyx = u.tyx) (hconfig : t.config = u.config)
    (hpeers : t.peers = u.peers) (sl : Slot) : outOfRange t sl = outOfRange u sl := by
  have htotals : t.totalsOf = u.totalsOf := by
    funext n
    simp only [State.totalsOf, State.own, State.peer?, htxy, htyx, hconfig, hpeers]
    rfl
  simp only [outOfRange, rawContribution, htotals]

/-- What a count does to a slot, with `u` the state that holds the new total. -/
def countSlot (u : State) (sl : Slot) : Slot := abandonPassage (takeTotals u sl.state.evaluating sl)

theorem count_slots (d : Direction) (s : State) : (count d s).slots = s.slots.map (countSlot (countedTotals d s)) := by
  cases d <;> rfl

theorem abandonPassage_of_ne {sl : Slot} (h : sl.state ≠ .agreeing) : abandonPassage sl = sl := if_neg h

theorem takeTotals_of_calm {u : State} {sl : Slot} (h : sl.state.evaluating = true → sl.range = true ∨ outOfRange u sl = false) :
    takeTotals u sl.state.evaluating sl = judge u true (recompute u { sl with settledSince := some u.now }) := by
  have hcalm : (rangeRises u sl.state.evaluating sl && !u.lockdown) = false := by
    unfold rangeRises
    cases hev : sl.state.evaluating
    · rfl
    · obtain hrange | hrange := h hev <;> simp [hrange]
  rw [takeTotals, hcalm]
  rfl

theorem agreeing_of_judge {s : State} {changed : Bool} {sl : Slot} (h : (judge s changed sl).state = .agreeing) :
    sl.state = .agreeing := by
  refine Classical.byContradiction fun hne => ?_
  obtain hj | ⟨-, -, hj⟩ | ⟨-, -, hstate, hj⟩ | ⟨-, -, hj⟩ :=
    judgeClearing_cases s.now (s.clearingConditions sl) changed sl <;> rw [judge, hj] at h
  · exact hne h
  · simp [Slot.startClearing] at h
  · exact hne h
  · simp [Slot.toOccupied] at h

theorem countSlot_settledSince (u : State) (sl : Slot) : (countSlot u sl).settledSince = some u.now := by
  unfold countSlot abandonPassage
  split <;> exact takeTotals_settledSince ..

theorem countSlot_boundary (u : State) (sl : Slot) : (countSlot u sl).boundary = sl.boundary := by
  have htaken : (takeTotals u sl.state.evaluating sl).boundary = sl.boundary := by
    obtain ⟨_, _, _, h⟩ := judge_eq u true (recompute u { sl with settledSince := some u.now })
    unfold takeTotals
    dsimp only
    split
    · rw [disturb_boundary, h]; rfl
    · rw [h]; rfl
  unfold countSlot abandonPassage
  split <;> exact htaken

theorem countSlot_of_disturbed {u : State} {sl : Slot} (h : sl.state = .disturbed) :
    (countSlot u sl).state = .disturbed ∧ (countSlot u sl).record = sl.record ∧ (countSlot u sl).reset = sl.reset := by
  have hjudged : countSlot u sl = recompute u { sl with settledSince := some u.now } := by
    rw [countSlot, takeTotals_of_calm (by rw [h]; nofun), judge_of_disturbed u true (by exact h), abandonPassage_of_ne]
    rw [show (recompute u { sl with settledSince := some u.now }).state = .disturbed from h]
    nofun
  rw [hjudged]
  exact ⟨h, rfl, rfl⟩

theorem countSlot_of_agreeing {u : State} {sl : Slot} (h : sl.state = .agreeing) :
    (countSlot u sl).state = .disturbed ∧ (countSlot u sl).record = sl.record ∧
      (countSlot u sl).reset = { sl.reset with
        demand := none, agreement := none, windowSince := none, outcome := .abandonedPassage } := by
  have hjudged : countSlot u sl = (recompute u { sl with settledSince := some u.now }).endDemand .abandonedPassage := by
    rw [countSlot, takeTotals_of_calm (by rw [h]; nofun), judge_of_not_evaluating (by rw [show
      (recompute u { sl with settledSince := some u.now }).state = .agreeing from h]; rfl), abandonPassage, if_pos (by exact h)]
  rw [hjudged]
  exact ⟨rfl, rfl, rfl⟩

theorem not_agreeing_of_evaluating {sl : Slot} (h : sl.state.evaluating = true) : sl.state ≠ .agreeing := by
  intro hagreeing
  rw [hagreeing] at h
  cases h

/-- A count that takes an evaluating slot out of its range disturbs it. -/
theorem countSlot_of_range {u : State} {sl : Slot} (hlockdown : u.lockdown = false) (hev : sl.state.evaluating = true)
    (hrange : sl.range = false) (hout : outOfRange u sl = true) :
    (countSlot u sl).state = .disturbed ∧ (countSlot u sl).record = {
      firstCause := some .countRange, firstTime := some u.stationTime, firstStation := some u.own, further := false
      lastFurther := none, count := min 255 (sl.record.count + 1) } := by
  have hrises : (rangeRises u sl.state.evaluating sl && !u.lockdown) = true := by simp [rangeRises, hev, hrange, hout, hlockdown]
  have hne : (judge u true (recompute u { sl with settledSince := some u.now })).state ≠ .disturbed := by
    intro h
    have hjudged := judge_evaluating u true (recompute u { sl with settledSince := some u.now })
    rw [h, show (recompute u { sl with settledSince := some u.now }).state = sl.state from rfl, hev] at hjudged
    cases hjudged
  have htotals : takeTotals u sl.state.evaluating sl = disturb .countRange u.stationTime u.own
      (judge u true (recompute u { sl with settledSince := some u.now })) := if_pos hrises
  have htaken : countSlot u sl = disturb .countRange u.stationTime u.own
      (judge u true (recompute u { sl with settledSince := some u.now })) := by
    rw [countSlot, htotals, abandonPassage_of_ne (by rw [disturb_state]; nofun)]
  obtain ⟨_, _, _, hjudged⟩ := judge_eq u true (recompute u { sl with settledSince := some u.now })
  rw [htaken]
  refine ⟨disturb_state .., ?_⟩
  rw [disturb, if_neg hne, hjudged]
  rfl

/-- Any other count leaves an evaluating slot evaluating, its records unchanged. -/
theorem countSlot_of_calm {u : State} {sl : Slot} (hev : sl.state.evaluating = true)
    (hcalm : sl.range = true ∨ outOfRange u sl = false) :
    (countSlot u sl).state.evaluating = true ∧ (countSlot u sl).record = sl.record ∧ (countSlot u sl).reset = sl.reset := by
  have hjudged : countSlot u sl = judge u true (recompute u { sl with settledSince := some u.now }) := by
    rw [countSlot, takeTotals_of_calm fun _ => hcalm, abandonPassage_of_ne]
    exact fun h => not_agreeing_of_evaluating hev
      (agreeing_of_judge (sl := recompute u { sl with settledSince := some u.now }) h)
  rw [hjudged]
  refine ⟨(judge_evaluating ..).trans hev, ?_⟩
  obtain ⟨_, _, _, h⟩ := judge_eq u true (recompute u { sl with settledSince := some u.now })
  rw [h]
  exact ⟨rfl, rfl⟩

/-- After a count a slot that was CLEAR is OCCUPIED or DISTURBED. -/
theorem countSlot_of_clear {u : State} {sl : Slot} (h : sl.state = .clear) :
    (countSlot u sl).state = .occupied ∨ (countSlot u sl).state = .disturbed := by
  have hjudged : (judge u true (recompute u { sl with settledSince := some u.now })).state = .occupied := by
    unfold judge judgeClearing
    rw [show (recompute u { sl with settledSince := some u.now }).state = .clear from h]
    simp [Slot.toOccupied]
  have htaken : (takeTotals u sl.state.evaluating sl).state = .occupied ∨
      (takeTotals u sl.state.evaluating sl).state = .disturbed := by
    unfold takeTotals
    dsimp only
    split
    · exact .inr (disturb_state ..)
    · exact .inl hjudged
  rwa [countSlot, abandonPassage_of_ne (by obtain h | h := htaken <;> rw [h] <;> nofun)]

theorem spacing_of_config {s : State} {k : StationConfig} (h : s.config = some k) : s.spacing = k.spacing := by
  simp [State.spacing, h]

end Sys2Proof.Machine

namespace Sys2Proof.Proofs
open Sys2Proof.Machine

/-- Settles O12: row by row through the tables. -/
theorem automatonFollowsItsTables : Obligations.AutomatonFollowsItsTables := by
  intro dt s row hrow hconfigured hcounting hlockdown hstate hlevel
  obtain ⟨t, w, hexec, hnow, htaken⟩ := exec_filteredChange_taken dt (a := row.channel == .a) (b := row.channel == .b)
    hconfigured (by cases row.channel <;> rfl)
  obtain ⟨x, rfl⟩ := htaken.later
  have hrises : (match row.channel with
      | .a => (s.head.a.change (row.channel == .a)).level
      | .b => (s.head.b.change (row.channel == .b)).level) = row.rises := by
    cases hchannel : row.channel <;> rw [hchannel] at hlevel
    · exact (change_level (ch := s.head.a) hlevel true).trans (by simp)
    · exact (change_level (ch := s.head.b) hlevel true).trans (by simp)
  obtain ⟨hdetector, hending⟩ := take_of_row hrow (d := (s.reach x).detector)
    (a := ((s.reach x).head.a.change (row.channel == .a)).level) (b := ((s.reach x).head.b.change (row.channel == .b)).level)
    (by exact hstate) (by exact hrises) (s.reach x).now (s.reach x).passageTicks
  rw [followPassage_eq (by exact hcounting) (by exact hlockdown)] at htaken
  have hmoved : t.detector = row.take t.now (s.reach x).passageTicks s.detector := by
    rw [htaken.detector, endPassage_detector, htaken.now]
    exact hdetector
  refine ⟨t, (s.reach x).passageTicks, hexec, hnow, by rw [htaken.now]; exact passageTicks_eq, ?_, ?_, fun hmark => ?_⟩
  · rw [htaken.head]
    exact changed_filtered (by exact hlevel)
  · rw [hmoved]
    unfold TableRow.take
    cases row.mark <;> rfl
  · have hjudged : ∀ ending, (ending = .goesOn ∨ ending = .drawnBack) → endPassage ending = judgeAll := by
      rintro _ (rfl | rfl) <;> rfl
    rw [hjudged _ (hending hmark)] at htaken
    have hends := htaken.event
    rw [htaken.txy, htaken.tyx, htaken.log] at hends
    refine ⟨hends, ?_⟩
    rw [htaken.slots, judgeAll_slots]
    exact judgedOnly_judge ..

/-- Settles O13: the count reaches every slot with the new total. -/
theorem plausiblePassageIsCounted : Obligations.PlausiblePassageIsCounted := by
  intro dt skew s k d hconfigured hcounting hlockdown hconfig htrail hplausible hlast
  obtain ⟨t, w, hexec, htaken⟩ := taken_completes dt hconfigured hcounting hlockdown hlast
  obtain ⟨x, rfl⟩ := htaken.later
  rw [htrail, Option.getD_some, endPassage_of_plausible (implausible_eq_false.mpr (by
    rw [← spacing_of_config hconfig] at hplausible
    exact hplausible))] at htaken
  have hspeed : passageSpeed s.spacing skew = min 999 (k.spacing * 360 / skew) := by rw [spacing_of_config hconfig]; rfl
  have hlog : t.log = appendEntry s.log { kind := d.logKind, time := t.stationTime
                                          speed := some (passageSpeed s.spacing skew), rocked := s.detector.rocked } := by
    rw [htaken.log, htaken.stationTime, count_log]
    rfl
  obtain ⟨u, hu, hslots⟩ : ∃ u, u = countedTotals d _ ∧ t.slots = s.slots.map (countSlot u) :=
    ⟨_, rfl, by rw [htaken.slots, count_slots]; rfl⟩
  have hunow : u.now = t.now := by rw [hu, htaken.now]; cases d <;> rfl
  have hutime : u.stationTime = t.stationTime := by rw [State.stationTime, hunow]; rfl
  have huown : u.own = s.own := by rw [hu]; cases d <;> rfl
  have hulockdown : u.lockdown = false := by rw [hu]; cases d <;> exact hlockdown
  have hrange : ∀ sl, outOfRange t sl = outOfRange u sl := outOfRange_of_totals
    (by rw [htaken.txy, hu]; cases d <;> rfl) (by rw [htaken.tyx, hu]; cases d <;> rfl)
    ((congrArg (·.config) htaken.event.rest).trans (by rw [hu]; cases d <;> rfl))
    ((congrArg (·.peers) htaken.event.rest).trans (by rw [hu]; cases d <;> rfl))
  refine ⟨t, hexec, ?_, ?_, ?_, ?_, ?_, fun i sl sl' hsl hsl' => ?_, htaken.event⟩
  · cases d
    · exact ⟨htaken.txy, htaken.tyx⟩
    · exact ⟨htaken.tyx, htaken.txy⟩
  · rw [hlog, hspeed]
    cases d <;> rfl
  · rw [htaken.detector, count_detector]; rfl
  · rw [htaken.detector, count_detector]; rfl
  · rw [hslots, List.length_map]
  · rw [hslots, List.getElem?_map, hsl] at hsl'
    obtain rfl : countSlot u sl = sl' := Option.some.inj hsl'
    rw [hrange, ← hunow, ← hutime, ← huown]
    exact ⟨countSlot_boundary u sl, countSlot_settledSince u sl, fun h => countSlot_of_disturbed h,
      fun h => countSlot_of_clear h, fun h => countSlot_of_agreeing h, fun hev hr hout => countSlot_of_range hulockdown hev hr hout,
      fun hev hcalm => countSlot_of_calm hev hcalm⟩

/-- Settles O15: a double change, and any change in UNRESOLVED, is the check of the levels. -/
theorem doubleChangesAreUnresolved : Obligations.DoubleChangesAreUnresolved := by
  intro dt s a b hconfigured hcounting hlockdown ha hb
  refine ⟨fun hlevels => ?_, fun changedA changedB hsingle hstate hlevels => ?_,
    fun changedA changedB hchange hlevelA hlevelB hchecks => ?_⟩
  · obtain ⟨t, w, hexec, htaken⟩ := taken_checks dt hconfigured hcounting hlockdown ha hb (.inl ⟨rfl, rfl⟩)
    exact ⟨t, hexec, taken_unresolved (by cases a <;> cases b <;> simp_all) htaken⟩
  · obtain ⟨t, w, hexec, htaken⟩ := taken_checks (changedA := changedA) (changedB := changedB) dt hconfigured hcounting
      hlockdown ha hb (.inr ⟨by cases changedA <;> cases changedB <;> simp_all, hstate⟩)
    refine ⟨t, hexec, ?_⟩
    have hends := taken_unresolved hlevels htaken
    rw [← hstate] at hends
    exact hends
  · obtain ⟨t, w, hexec, htaken⟩ := taken_checks dt hconfigured hcounting hlockdown ha hb
      (hchecks.imp_right fun hstate => ⟨hchange, hstate⟩)
    rw [hlevelA, hlevelB] at htaken
    exact ⟨t, hexec, taken_resolved hlockdown htaken⟩

/-- Settles O14: an implausible passage is an entry and a cause on every slot. -/
theorem implausiblePassageDisturbs : Obligations.ImplausiblePassageDisturbs := by
  intro dt skew s k d hconfigured hcounting hlockdown hconfig htrail himplausible hlast
  obtain ⟨t, w, hexec, htaken⟩ := taken_completes dt hconfigured hcounting hlockdown hlast
  obtain ⟨x, rfl⟩ := htaken.later
  have hended : endPassage (.completes d (s.detector.trail.getD 0) s.detector.rocked)
      { takeFiltered (d == .yx) (d == .xy) (s.reach x) with detector := s.detector.toIdle (s.reach x).passageTicks } = _ :=
    (if_pos (by
      simp only [implausible, htrail, Option.getD_some]
      exact decide_eq_true (by rw [← spacing_of_config hconfig] at himplausible; exact himplausible))).trans
      (judgeAll_unresolved (by exact hlockdown) _ _)
  rw [hended] at htaken
  have hends := htaken.event
  rw [htaken.txy, htaken.tyx, htaken.log, htaken.slots] at hends
  refine ⟨t, hexec, by rw [htaken.detector]; rfl, by rw [htaken.detector]; rfl, ?_⟩
  rw [htaken.stationTime]
  rw [htrail] at hends
  have hspeed : min 999 (k.spacing * 360 / skew) = passageSpeed s.spacing skew := by rw [spacing_of_config hconfig]; rfl
  rw [hspeed]
  exact hends

end Sys2Proof.Proofs
end

section
/-! PROOFS. The head: changes that nothing follows, spikes, low health and recovery (O16, O17, O19). -/

namespace Sys2Proof.Machine

/-! ### The recovery time (R8) -/

theorem quiet_iff (h : Head) : h.quiet = true ↔ h.a.filtered = some false ∧ h.b.filtered = some false ∧
    h.healthA.level = some true ∧ h.healthB.level = some true := Head.quiet_iff

theorem recover_none {h : Head} (hrest : h.state = .counting ∨ ¬h.quiet = true) (first : Tick) :
    (Head.recover first h).recoverFrom = none := by
  unfold Head.recover
  obtain hcounting | hquiet := hrest
  · exact if_pos hcounting
  · simp [hquiet]

theorem recover_quiet {h : Head} (hstate : h.state ≠ .counting) (hquiet : h.quiet = true) (first : Tick) :
    (Head.recover first h).recoverFrom = some (h.recoverFrom.getD first) := by
  simp only [Head.recover, if_neg hstate, if_pos hquiet]
  cases h.recoverFrom <;> rfl

/-- A recovery time that was set back to zero starts at the instant given, or not at all. -/
theorem recover_started (h : Head) (hnone : h.recoverFrom = none) (first : Tick) :
    (Head.recover first h).recoverFrom = none ∨ (Head.recover first h).recoverFrom = some first := by
  unfold Head.recover
  rw [hnone]
  dsimp only
  split
  · exact .inl rfl
  · split
    · exact .inr rfl
    · exact .inl rfl

theorem firstQuiet_eq (now : Tick) (h : Head) :
    h.firstQuiet now = if h.a.quietSince = some now ∨ h.b.quietSince = some now then now + 1 else now := by
  simp [Head.firstQuiet, Head.spikedOn]

/-! ### A change that nothing follows (R9) -/

theorem exec_filteredChange_unfollowed (dt : Nat) {a b : Bool} {s : State} (hconfigured : s.configured = true)
    (hchange : (a || b) = true) (hunfollowed : s.head.state ≠ .counting ∨ s.lockdown = true) :
    ∃ t, exec (.filteredChange dt a b) s = .next t ∧
      t.head = Head.recover (s.head.firstQuiet t.now) { s.head with a := s.head.a.change a, b := s.head.b.change b } ∧
      Ends { s with now := t.now, head := t.head, pins := t.pins } t := by
  obtain ⟨t, w, hexec, -, htaken⟩ := exec_filteredChange_taken dt hconfigured hchange
  obtain ⟨x, rfl⟩ := htaken.later
  have hfollows : (takeFiltered a b (s.reach x)).follows = false := by
    rw [Bool.eq_false_iff]
    intro h
    obtain ⟨hcounting, hlockdown⟩ := State.follows_iff.mp h
    obtain h | h := hunfollowed
    · exact h hcounting
    · exact absurd (h.symm.trans hlockdown) (by decide)
  have hkept : followPassage a b (takeFiltered a b (s.reach x)) = takeFiltered a b (s.reach x) :=
    if_neg (Bool.eq_false_iff.mp hfollows)
  rw [hkept] at htaken
  have hends := htaken.event
  rw [htaken.detector, htaken.txy, htaken.tyx, htaken.log, htaken.slots] at hends
  refine ⟨t, hexec, ?_, hends⟩
  rw [htaken.head, htaken.now]
  rfl

/-! ### Spikes (R3, R5) -/

theorem exec_spike (dt : Nat) (c : Channel) {s : State} (h : s.configured = true) :
    exec (.spike dt c) s = .next (finish (s.pass dt) (effect (.spike dt c) (s.pass dt))) := by
  have hexec : exec (.spike dt c) s = execSpike dt c s := rfl
  rw [hexec, execSpike, onInput_arises (show (s.pass dt).configured = true from h)]
  rfl

theorem reachesLimit_iff {c : Channel} {s : State} : reachesLimit c s = true ↔
    s.detector.state = .idle ∧ (s.head.channel c).spikes = 7 ∧ s.head.state ≠ .faulty := by
  simp [reachesLimit, and_assoc]

theorem takeSpike_health (c c' : Channel) (s : State) : (takeSpike c s).head.health c' = s.head.health c' := by
  cases c <;> cases c' <;> rfl

theorem takeSpike_other {c other : Channel} (h : other ≠ c) (s : State) :
    (takeSpike c s).head.channel other = s.head.channel other := by
  cases c <;> cases other <;> first | rfl | exact absurd rfl h

/-- A cause on every slot, or in lockdown a failed judgement. -/
theorem judgeAll_cause (cause : Cause) (v : State) : judgeAll (declareAll cause v) =
    { v with slots := if v.lockdown then v.slots.map Slot.unclear else v.slots.map (disturb cause v.stationTime v.own) } := by
  by_cases h : v.lockdown = true
  · have hdeclared : declareAll cause v = v := if_pos h
    rw [hdeclared, if_pos h]
    exact judgeAll_of_lockdown h
  · rw [if_neg h]
    exact judgeAll_declareAll (Bool.eq_false_iff.mpr h) cause

/-- The event of a spike: its channel and the pins; at the limit a cause on every slot. -/
theorem effect_spike_eq (dt : Nat) (c : Channel) (w : State) : effect (.spike dt c) w = { takeSpike c w with
    slots := if reachesLimit c w then
        (if w.lockdown then w.slots.map Slot.unclear else w.slots.map (disturb .headInterference w.stationTime w.own))
      else w.slots } := by
  dsimp only [effect]
  by_cases hlimit : reachesLimit c w = true
  · rw [if_pos hlimit, if_pos hlimit, judgeAll_cause]
    rfl
  · rw [if_neg hlimit, if_neg hlimit]
    rfl

/-- An event at the time that has passed that writes the head, the pins and the slots. -/
theorem ends_pass_head (s : State) (dt : Nat) (b : State) (head : Head) (pins : Pins) (slots : List Slot) :
    Ends { s with now := s.now + dt, head := head, pins := pins, slots := slots }
      (finish b { s.pass dt with head := head, pins := pins, slots := slots }) := by
  obtain ⟨_, _, _, hpass⟩ := pass_eq s dt
  rw [hpass]
  exact (finish_ends _ _).of_lanes rfl

/-- What a spike leaves. -/
theorem exec_spike_ends (dt : Nat) (c : Channel) {s : State} (h : s.configured = true) : ∃ t,
    exec (.spike dt c) s = .next t ∧ t.now = s.now + dt ∧ t.head = (takeSpike c (s.pass dt)).head ∧
      Ends { s with
        now := t.now, head := t.head, pins := t.pins
        slots := if reachesLimit c s then
            (if s.lockdown then s.slots.map Slot.unclear else s.slots.map (disturb .headInterference t.stationTime s.own))
          else s.slots } t := by
  refine ⟨_, exec_spike dt c h, ?_⟩
  have hends := ends_pass_head s dt (s.pass dt) (takeSpike c (s.pass dt)).head (takeSpike c (s.pass dt)).pins
    (if reachesLimit c s then
        (if s.lockdown then s.slots.map Slot.unclear
          else s.slots.map (disturb .headInterference (s.pass dt).stationTime s.own)) else s.slots)
  have heffect := effect_spike_eq dt c (s.pass dt)
  have htime : (finish (s.pass dt) (effect (.spike dt c) (s.pass dt))).stationTime = (s.pass dt).stationTime := by
    rw [State.stationTime, finish_now, heffect]; rfl
  rw [htime, finish_now, finish_head, finish_pins, heffect]
  exact ⟨rfl, rfl, hends⟩

/-! ### Low health (R7, R19) -/

theorem headFaultDue_eq {s : State} {c : Channel} {first : Tick} (hconfigured : s.configured = true)
    (hlow : (s.head.health c).lowFrom = some first) : headFaultDue s c = some (first + 1999) := by
  simp [headFaultDue, hconfigured, hlow, after]

theorem exec_headFault {s : State} {c : Channel} {first : Tick} (hconfigured : s.configured = true)
    (hlow : (s.head.health c).lowFrom = some first) : exec (.headFault c) s =
      .next (finish (s.reach (first + 1999)) (effect (.headFault c) (s.reach (first + 1999)))) := by
  have hexec : exec (.headFault c) s = whenDue (headFaultDue s c) s (effect (.headFault c)) := rfl
  rw [hexec, whenDue_of_eq (headFaultDue_eq hconfigured hlow)]

/-- What a head that fails leaves of head and detector (R19). -/
theorem failHead_leaves (w : State) : ∃ head detector, failHead w = { w with head := head, detector := detector } ∧
    head.state = .faulty ∧ head.a = w.head.a ∧ head.b = w.head.b ∧ head.healthA = w.head.healthA ∧
    head.healthB = w.head.healthB ∧ detector.state = .idle ∧ (w.detector.state = .idle → detector = w.detector) ∧
    (w.detector.state ≠ .idle → detector.rocked = false) := by
  unfold failHead
  by_cases hidle : w.detector.state = .idle
  · simp only [if_pos hidle]
    exact ⟨_, w.detector, rfl, rfl, rfl, rfl, rfl, rfl, hidle, fun _ => rfl, fun h => absurd hidle h⟩
  · simp only [if_neg hidle]
    exact ⟨_, _, rfl, rfl, rfl, rfl, rfl, rfl, rfl, fun h => absurd h hidle, fun _ => rfl⟩

/-! ### Recovery and the health levels (R7, R8) -/

theorem headRecoveryDue_eq {s : State} {first : Tick} (hconfigured : s.configured = true) (hstate : s.head.state ≠ .counting)
    (hrecover : s.head.recoverFrom = some first) : headRecoveryDue s = some (first + 199999) := by
  simp [headRecoveryDue, hconfigured, hstate, hrecover, after]

theorem exec_healthLevelChange (dt : Nat) (c : Channel) (high : Bool) {s : State} (h : s.configured = true) :
    ∃ t, exec (.healthLevelChange dt c high) s = .next t ∧ t.now = s.now + dt ∧
      t.head = Head.recover (s.head.firstQuiet t.now) (s.head.setHealth c (·.take t.now high)) ∧
      Ends { s with now := s.now + dt, head := t.head, pins := t.pins } t := by
  have hexec : exec (.healthLevelChange dt c high) s = execHealthLevelChange dt c high s := rfl
  rw [hexec, execHealthLevelChange, onInput_arises (show (s.pass dt).configured = true from h)]
  refine ⟨_, rfl, ?_⟩
  rw [finish_now, finish_head, finish_pins]
  exact ⟨rfl, rfl, ends_pass_head s dt _ _ _ s.slots⟩

theorem setHealth_health (c : Channel) (f : HealthInput → HealthInput) (h : Head) :
    (h.setHealth c f).health c = f (h.health c) := by cases c <;> rfl

theorem setHealth_other {c other : Channel} (hne : other ≠ c) (f : HealthInput → HealthInput) (h : Head) :
    (h.setHealth c f).health other = h.health other := by
  cases c <;> cases other <;> first | rfl | exact absurd rfl hne

theorem setHealth_leaves (c : Channel) (f : HealthInput → HealthInput) (h : Head) :
    (h.setHealth c f).a = h.a ∧ (h.setHealth c f).b = h.b ∧ (h.setHealth c f).state = h.state ∧
      (h.setHealth c f).recoverFrom = h.recoverFrom := by
  cases c <;> exact ⟨rfl, rfl, rfl, rfl⟩

@[simp] theorem recover_health (first : Tick) (h : Head) (c : Channel) : (Head.recover first h).health c = h.health c := by
  cases c <;> rfl

/-- All inputs at rest, in terms of the health input `c` and the other one. -/
theorem quiet_of_health {h : Head} {c : Channel} (hc : (h.health c).level = some true)
    (hother : ∀ other, other ≠ c → (h.health other).level = some true) (ha : h.a.filtered = some false)
    (hb : h.b.filtered = some false) : h.quiet = true := by
  rw [quiet_iff]
  cases c
  · exact ⟨ha, hb, hc, hother .b (by decide)⟩
  · exact ⟨ha, hb, hother .a (by decide), hc⟩

theorem not_quiet_of_health {h : Head} {c : Channel} (hc : (h.health c).level = some false) : ¬h.quiet = true := by
  rw [quiet_iff]
  rintro ⟨-, -, ha, hb⟩
  cases c
  · exact absurd (ha.symm.trans hc) (by decide)
  · exact absurd (hb.symm.trans hc) (by decide)

end Sys2Proof.Machine

namespace Sys2Proof.Proofs
open Sys2Proof.Machine

/-- Settles O16: with nothing to follow the change is one of the head and its pins. -/
theorem unfollowedChangesMoveLevelsOnly : Obligations.UnfollowedChangesMoveLevelsOnly := by
  intro dt a b s hconfigured hchange hunfollowed
  obtain ⟨t, hexec, hhead, hends⟩ := exec_filteredChange_unfollowed dt hconfigured hchange hunfollowed
  have ha : t.head.a = s.head.a.change a := by rw [hhead]; rfl
  have hb : t.head.b = s.head.b.change b := by rw [hhead]; rfl
  refine ⟨t, hexec, ha, hb, by rw [hhead]; rfl, by rw [hhead]; rfl, by rw [hhead]; rfl, fun rest hrest => ?_, hends⟩
  rw [ha, hb] at hrest
  have hquiet := hrest.trans (quiet_iff { s.head with a := s.head.a.change a, b := s.head.b.change b }).symm
  refine ⟨fun hnone => ?_, fun hstate h => ?_⟩
  · rw [hhead]
    exact recover_none (hnone.imp_right fun h => mt hquiet.mpr h) _
  · rw [hhead, recover_quiet (by exact hstate) (hquiet.mp h), firstQuiet_eq]
    cases s.head.recoverFrom <;> rfl

/-- Settles O17: a spike stamps its channel; at the limit it is a cause on every slot. -/
theorem spikesAreCounted : Obligations.SpikesAreCounted := by
  intro dt c s hconfigured
  obtain ⟨t, hexec, hnow, hhead, hends⟩ := exec_spike_ends dt c hconfigured
  have htime : t.stationTime = (s.pass dt).stationTime := by rw [State.stationTime, hnow]; rfl
  have hstate : t.head.state = if reachesLimit c s then .faulty else s.head.state := by rw [hhead]; rfl
  refine ⟨t, hexec, hnow, ?_, fun other hother => ?_, fun c' => ?_, ?_, fun hbelow => ?_, fun hidle hseven hfaulty => ?_⟩
  · rw [hhead, takeSpike_channel, htime, hnow]
    simp only [HeadChannel.spike, beq_iff_eq]
    rfl
  · rw [hhead]; exact takeSpike_other hother _
  · rw [hhead]; exact takeSpike_health ..
  · rw [hhead, hnow]; exact recover_started _ rfl _
  · rw [← reachesLimit_iff] at hbelow
    rw [if_neg hbelow] at hends hstate
    exact ⟨hstate, hends⟩
  · have hlimit := reachesLimit_iff.mpr ⟨hidle, hseven, hfaulty⟩
    rw [if_pos hlimit] at hends hstate
    exact ⟨hstate, hends⟩

/-- Settles O19: a head that fails is a cause on every slot and drops the passage; the recovery and the health levels are
changes of the head. -/
theorem headFaultsAndRecovers : Obligations.HeadFaultsAndRecovers := by
  refine ⟨fun c first s hconfigured hlow hstate => ?_, fun c first s hconfigured hlow hstate => ?_,
    fun first s hconfigured hstate hrecover => ?_, fun dt c high s hconfigured => ?_⟩
  · obtain ⟨head, detector, hfailed, hfaulty, ha, hb, hhealthA, hhealthB, hidle, hkept, hrocked⟩ :=
      failHead_leaves (s.reach (first + 1999))
    have heffect : effect (.headFault c) (s.reach (first + 1999)) = _ := (if_neg (by exact hstate)).trans (judgeAll_cause ..)
    rw [hfailed] at heffect
    refine ⟨_, exec_headFault hconfigured hlow, ?_⟩
    have htime : (finish (s.reach (first + 1999)) (effect (.headFault c) (s.reach (first + 1999)))).stationTime =
        (s.reach (first + 1999)).stationTime := by
      rw [State.stationTime, finish_now, heffect]; rfl
    rw [htime, finish_head, finish_detector, heffect]
    refine ⟨hfaulty, ha, hb, hhealthA, hhealthB, hidle, hkept, hrocked, ?_⟩
    obtain ⟨_, _, _, hreach⟩ := reach_eq s (first + 1999)
    rw [hreach]
    exact (finish_ends _ _).of_lanes rfl
  · have heffect : effect (.headFault c) (s.reach (first + 1999)) = s.reach (first + 1999) := if_pos (by exact hstate)
    refine ⟨_, exec_headFault hconfigured hlow, ?_⟩
    rw [heffect]
    obtain ⟨_, _, _, hreach⟩ := reach_eq s (first + 1999)
    rw [hreach]
    exact (finish_ends _ _).of_lanes rfl
  · have hexec : exec .headRecovery s = whenDue (headRecoveryDue s) s (effect .headRecovery) := rfl
    rw [hexec, whenDue_of_eq (headRecoveryDue_eq hconfigured hstate hrecover)]
    refine ⟨_, rfl, ?_, ?_⟩
    · rw [finish_slots]
      dsimp only [effect]
      rw [judgeAll_slots]
      exact judgedOnly_judge ..
    · rw [finish_slots]
      obtain ⟨_, _, _, hreach⟩ := reach_eq s (first + 199999)
      rw [hreach]
      exact (finish_ends _ _).of_lanes rfl
  · obtain ⟨t, hexec, hnow, hhead, hends⟩ := exec_healthLevelChange dt c high hconfigured
    obtain ⟨ha, hb, hstate, hrecover⟩ := setHealth_leaves c (·.take t.now high) s.head
    have hlevel : ((s.head.setHealth c (·.take t.now high)).health c).level = some high := by rw [setHealth_health]; rfl
    refine ⟨t, hexec, ?_, fun other hother => ?_, ?_, ?_, ?_, fun hlow => ?_, fun hhigh hothers hfa hfb hc hnone => ?_, hends⟩
    · rw [hhead, recover_health, setHealth_health]
      cases high
      · unfold HealthInput.take
        cases (s.head.health c).lowFrom <;> rfl
      · rfl
    · rw [hhead, recover_health, setHealth_other hother]
    · rw [hhead]; exact ha
    · rw [hhead]; exact hb
    · rw [hhead]; exact hstate
    · rw [hhead]
      exact recover_none (.inr (not_quiet_of_health (c := c) (by rw [hlevel, hlow]))) _
    · have hquiet : (s.head.setHealth c (·.take t.now high)).quiet = true :=
        quiet_of_health (c := c) (by rw [hlevel, hhigh]) (fun other hother => by rw [setHealth_other hother]; exact hothers other hother)
          (by rw [ha]; exact hfa) (by rw [hb]; exact hfb)
      rw [hhead, recover_quiet (by rw [hstate]; exact hc) hquiet, hrecover, hnone, firstQuiet_eq, Option.getD_none]

end Sys2Proof.Proofs
end

section
/-! PROOFS. The end of an attempt, a drop, and the Builder's timers (O25, O26, O27). -/

namespace Sys2Proof.Machine

/-! ### The end of an event with no frame in service -/

/-- A slot that the event leaves empty is filled at its end only with a request and no spacing time (R73). -/
theorem fillSlot_of_waiting {v : State} (h : v.builder.request = false ∨ v.builder.spacingSince ≠ none) : fillSlot v = v := by
  refine if_neg fun ⟨hrequest, _, hspacing⟩ => ?_
  obtain h | h := h
  · rw [hrequest] at h; cases h
  · exact h hspacing

theorem finish_telegramSlot_of_spacing {u : State} (h : u.builder.spacingSince ≠ none) (b : State) :
    (finish b u).line.telegramSlot = u.line.telegramSlot ∧ (u.builder.request = true → (finish b u).builder.request = true) := by
  obtain ⟨_, _, hfinish⟩ := finish_eq b u
  have hnote : ∃ request, noteChange b u = { u with builder := { u.builder with request := request } } ∧
      (u.builder.request = true → request = true) := by
    obtain h' | h' := noteChange_cases b u
    · exact ⟨u.builder.request, h', id⟩
    · exact ⟨true, h', fun _ => rfl⟩
  obtain ⟨request, hnote, hrequest⟩ := hnote
  rw [hfinish, fillSlot_of_waiting (.inr (by rw [hnote]; exact h)), hnote]
  obtain hserve | ⟨-, -, _, -, hserve⟩ := serve_cases { u with builder := { u.builder with request := request } } <;>
    rw [hserve] <;> exact ⟨rfl, hrequest⟩

/-- In lockdown nothing is noted, so that without a request none comes at the end of the event. -/
theorem finish_of_unrequested {u : State} (hlockdown : u.lockdown = true) (hrequest : u.builder.request = false) (b : State) :
    (finish b u).builder.request = false ∧ (finish b u).line.telegramSlot = u.line.telegramSlot := by
  obtain ⟨_, _, hfinish⟩ := finish_eq b u
  rw [hfinish, noteChange_of_lockdown hlockdown, fillSlot_of_waiting (.inl hrequest)]
  obtain hserve | ⟨-, -, _, -, hserve⟩ := serve_cases u <;> rw [hserve] <;> exact ⟨hrequest, rfl⟩

/-- A frame is taken into service with the attempt counter at 0 (R60). -/
theorem finish_attempt_zero {u : State} (h : u.line.attempt = 0) (b : State) : (finish b u).line.attempt = 0 := by
  obtain ⟨_, _, hfinish⟩ := finish_eq b u
  have hfilled : (fillSlot (noteChange b u)).line.attempt = 0 := by
    obtain ⟨_, hnote⟩ := noteChange_eq b u
    obtain h' | ⟨-, h'⟩ := fillSlot_cases (noteChange b u) <;> rw [h', hnote] <;> exact h
  rw [hfinish]
  obtain hserve | ⟨-, -, _, -, hserve⟩ := serve_cases (fillSlot (noteChange b u)) <;> rw [hserve]
  exact hfilled

/-- A telegram is taken into service only from its filled slot (R60). -/
theorem finish_no_telegram {u : State} (hservice : u.line.service = none) (b : State)
    (hslot : (finish b u).line.telegramSlot = false) : (finish b u).line.service ≠ some .telegram := by
  obtain ⟨_, _, hfinish⟩ := finish_eq b u
  have hfilled : (fillSlot (noteChange b u)).line.service = none := by
    obtain ⟨_, hnote⟩ := noteChange_eq b u
    rw [(fillSlot_line _).1, hnote]
    exact hservice
  rw [hfinish] at hslot ⊢
  obtain hserve | ⟨-, -, frame, hframe, hserve⟩ := serve_cases (fillSlot (noteChange b u)) <;> rw [hserve] at hslot ⊢
  · change (fillSlot (noteChange b u)).line.service ≠ _
    rw [hfilled]
    nofun
  · have hempty : (fillSlot (noteChange b u)).line.telegramSlot = false := hslot
    obtain ⟨rfl, -⟩ := nextService_some hframe
    rw [hempty]
    nofun

/-- A request with an empty slot and no spacing time is moved into the slot (R73). -/
theorem finish_fills {u : State} (hrequest : u.builder.request = true) (hslot : u.line.telegramSlot = false)
    (hspacing : u.builder.spacingSince = none) (b : State) :
    (finish b u).builder.request = false ∧ (finish b u).line.telegramSlot = true := by
  have hnoted : noteChange b u = u := by
    obtain h | h := noteChange_cases b u
    · exact h
    · rw [h, ← hrequest]
  have hfilled : fillSlot u = { u with
      builder := { u.builder with request := false }, line := { u.line with telegramSlot := true } } :=
    if_pos ⟨hrequest, hslot, hspacing⟩
  obtain ⟨_, _, hfinish⟩ := finish_eq b u
  rw [hfinish, hnoted, hfilled]
  obtain hserve | ⟨-, -, _, -, hserve⟩ := serve_cases { u with
      builder := { u.builder with request := false }, line := { u.line with telegramSlot := true } } <;>
    rw [hserve] <;> exact ⟨rfl, rfl⟩

/-- A request with the slot filled stays. -/
theorem finish_keepsRequest {u : State} (hrequest : u.builder.request = true) (hslot : u.line.telegramSlot = true) (b : State) :
    (finish b u).builder.request = true := by
  have hnoted : noteChange b u = u := by
    obtain h | h := noteChange_cases b u
    · exact h
    · rw [h, ← hrequest]
  have hfilled : fillSlot u = u := if_neg (by simp [hslot])
  obtain ⟨_, _, hfinish⟩ := finish_eq b u
  rw [hfinish, hnoted, hfilled]
  obtain hserve | ⟨-, -, _, -, hserve⟩ := serve_cases u <;> rw [hserve] <;> exact hrequest

/-! ### A collision (R65, R67) -/

theorem readBackDue_eq {s : State} {since : Tick} (h : s.line.transmitter = .driving since) (n : Nat) :
    readBackDue s n = some (since + 2 * max 1 (min n s.line.driven.length)) := by
  simp [readBackDue, h, characters]

theorem exec_collision {s : State} {since : Tick} (h : s.line.transmitter = .driving since) (n : Nat) :
    exec (.collision n) s = .next (finish (s.reach (since + 2 * max 1 (min n s.line.driven.length)))
      (effect (.collision n) (s.reach (since + 2 * max 1 (min n s.line.driven.length))))) := by
  have hexec : exec (.collision n) s = whenDue (readBackDue s n) s (effect (.collision n)) := rfl
  rw [hexec, whenDue_of_eq (readBackDue_eq h n)]

/-- The line after a drop (R66, R67, R68). -/
def Line.afterDrop (now : Tick) (l : Line) : Line :=
  { l with
    collisions := min 65535 (l.collisions + 1), dropped := min 65535 (l.dropped + 1)
    consecutiveDrops := min 255 (l.consecutiveDrops + 1)
    lineFault := l.lineFault || l.consecutiveDrops == 2
    attempt := 0, service := none, transmitter := .noService, quietSince := some now }

/-- The frame of the eighth attempt leaves the service, and the drop counters rise. -/
theorem leaveService_dropped (w : State) : leaveService (countDrop (countCollision (releaseLine w))) = { w with
    line := { w.line.afterDrop w.now with
      telegramSlot := w.line.telegramSlot && w.line.service != some .telegram
      answerSlot := if w.line.service = some .answer then none else w.line.answerSlot } } := by
  have hthird : (w.line.consecutiveDrops + 1 == 3) = (w.line.consecutiveDrops == 2) := by
    rw [Bool.eq_iff_iff, beq_iff_eq, beq_iff_eq]
    omega
  simp only [leaveService, countDrop, countCollision, releaseLine, Line.afterDrop, hthird, countUp]

theorem effect_collision_dropped {w : State} (h : w.line.attempt = 7) (n : Nat) :
    effect (.collision n) w = dropFrame (countCollision (releaseLine w)) :=
  if_pos (show 8 ≤ w.line.attempt + 1 by omega)

theorem effect_collision_again {w : State} (h : w.line.attempt < 7) (n : Nat) :
    effect (.collision n) w = countCollision (releaseLine w) :=
  if_neg (show ¬8 ≤ w.line.attempt + 1 by omega)

/-- The third drop in a row is a cause on every slot outside lockdown (R68). -/
theorem thirdDrop_eq (drops : Nat) (v : State) : (if drops + 1 = 3 then declareAll .lineFault v else v) = { v with
    slots := if drops = 2 ∧ v.lockdown = false then v.slots.map (disturb .lineFault v.stationTime v.own) else v.slots } := by
  by_cases hthird : drops = 2
  · rw [if_pos (by rw [hthird])]
    by_cases hlockdown : v.lockdown = true
    · rw [if_neg (by simp [hlockdown])]
      exact if_pos hlockdown
    · rw [if_pos ⟨hthird, Bool.eq_false_iff.mpr hlockdown⟩]
      simp [declareAll, declareOn, hlockdown]
  · rw [if_neg fun h => hthird (Nat.succ.inj h), if_neg fun h => hthird h.1]

/-- What a drop does: the frame leaves, the Builder is told of a telegram, and the third in a row is a cause. -/
theorem dropFrame_collided (w : State) : dropFrame (countCollision (releaseLine w)) =
    if w.line.consecutiveDrops + 1 = 3 then
      declareAll .lineFault (if w.line.service = some .telegram then
        telegramDropped (leaveService (countDrop (countCollision (releaseLine w))))
        else leaveService (countDrop (countCollision (releaseLine w))))
    else if w.line.service = some .telegram then
        telegramDropped (leaveService (countDrop (countCollision (releaseLine w))))
      else leaveService (countDrop (countCollision (releaseLine w))) := rfl

/-- A dropped telegram in RUN outside lockdown (R67, R68, R79). -/
theorem dropFrame_telegram {w : State} (hservice : w.line.service = some .telegram) (hrun : w.phase = .run)
    (hlockdown : w.lockdown = false) : dropFrame (countCollision (releaseLine w)) = { w with
      line := { w.line.afterDrop w.now with telegramSlot := false }
      builder := { w.builder with request := true }
      slots := if w.line.consecutiveDrops = 2 then w.slots.map (disturb .lineFault w.stationTime w.own) else w.slots } := by
  have hleft : leaveService (countDrop (countCollision (releaseLine w))) =
      { w with line := { w.line.afterDrop w.now with telegramSlot := false } } := by
    rw [leaveService_dropped, hservice]
    simp [Line.afterDrop]
  have htold : telegramDropped { w with line := { w.line.afterDrop w.now with telegramSlot := false } } = { w with
      line := { w.line.afterDrop w.now with telegramSlot := false }, builder := { w.builder with request := true } } := by
    rw [telegramDropped, if_neg (by simp [hlockdown]), if_pos (by simp [State.inService, hrun, hlockdown])]
    exact if_neg (by simp)
  rw [dropFrame_collided, if_pos hservice, hleft, htold, thirdDrop_eq]
  simp [hlockdown]
  rfl

/-- A dropped LOCKDOWN telegram (R67, R85). -/
theorem dropFrame_locked {w : State} (hservice : w.line.service = some .telegram) (hlockdown : w.lockdown = true) :
    dropFrame (countCollision (releaseLine w)) = { w with
      line := { w.line.afterDrop w.now with telegramSlot := false }
      builder := { w.builder with lockdownSince := some w.now } } := by
  have hleft : leaveService (countDrop (countCollision (releaseLine w))) =
      { w with line := { w.line.afterDrop w.now with telegramSlot := false } } := by
    rw [leaveService_dropped, hservice]
    simp [Line.afterDrop]
  have htold : telegramDropped { w with line := { w.line.afterDrop w.now with telegramSlot := false } } = { w with
      line := { w.line.afterDrop w.now with telegramSlot := false }
      builder := { w.builder with lockdownSince := some w.now } } := if_pos hlockdown
  rw [dropFrame_collided, if_pos hservice, hleft, htold, thirdDrop_eq]
  simp [hlockdown]

/-- A dropped answer (R67, R68, R77). -/
theorem dropFrame_answer {w : State} (hservice : w.line.service = some .answer) :
    dropFrame (countCollision (releaseLine w)) = { w with
      line := { w.line.afterDrop w.now with answerSlot := none }
      slots := if w.line.consecutiveDrops = 2 ∧ w.lockdown = false then
          w.slots.map (disturb .lineFault w.stationTime w.own) else w.slots } := by
  have hleft : leaveService (countDrop (countCollision (releaseLine w))) =
      { w with line := { w.line.afterDrop w.now with answerSlot := none } } := by
    rw [leaveService_dropped, hservice]
    simp [Line.afterDrop]
  rw [dropFrame_collided, if_neg (c := w.line.service = some .telegram) (by simp [hservice]), hleft, thirdDrop_eq]
  rfl

/-- An event at an instant that writes line, Builder and slots. -/
theorem ends_reach_line (s : State) (x : Tick) (b : State) (line : Line) (builder : Builder) (slots : List Slot) :
    Ends { s with now := max s.now x, line := line, builder := builder, slots := slots }
      (finish b { s.reach x with line := line, builder := builder, slots := slots }) := by
  obtain ⟨_, _, _, hreach⟩ := reach_eq s x
  rw [hreach]
  exact (finish_ends _ _).of_lanes rfl

/-- The instant of the read-back that brings the collision. -/
def State.readBackAt (s : State) (since n : Nat) : Tick := since + 2 * max 1 (min n s.line.driven.length)

theorem finish_stationTime (b u : State) : (finish b u).stationTime = u.stationTime := by
  rw [State.stationTime, finish_now]
  rfl

theorem collision_again {s : State} {since : Tick} (hdriving : s.line.transmitter = .driving since) (n : Nat)
    (hattempt : s.line.attempt < 7) (hservice : s.line.service ≠ none) : ∃ t, exec (.collision n) s = .next t ∧
      t.line.transmitter = .awaitIdle ∧ t.line.service = s.line.service ∧
      Ends { s with
        now := max s.now (s.readBackAt since n)
        line := { s.line with
          collisions := min 65535 (s.line.collisions + 1), attempt := s.line.attempt + 1, transmitter := .awaitIdle
          quietSince := some (max s.now (s.readBackAt since n)) } } t := by
  have hends := ends_reach_line s (s.readBackAt since n) (s.reach (s.readBackAt since n)) { s.line with
    collisions := min 65535 (s.line.collisions + 1), attempt := s.line.attempt + 1, transmitter := .awaitIdle
    quietSince := some (max s.now (s.readBackAt since n)) } s.builder s.slots
  have hexec := exec_collision hdriving n
  rw [effect_collision_again (by exact hattempt)] at hexec
  obtain ⟨hkept, htransmitter, -⟩ := hends.serviceKept hservice
  exact ⟨_, hexec, htransmitter, hkept, hends⟩

theorem drop_telegram {s : State} {since : Tick} (hdriving : s.line.transmitter = .driving since) (n : Nat)
    (hattempt : s.line.attempt = 7) (hservice : s.line.service = some .telegram) (hrun : s.phase = .run)
    (hlockdown : s.lockdown = false) : ∃ t, exec (.collision n) s = .next t ∧ t.line.attempt = 0 ∧
      (t.builder.request = true ∨ t.line.telegramSlot = true) ∧
      Ends { s with
        now := max s.now (s.readBackAt since n)
        line := { s.line.afterDrop (max s.now (s.readBackAt since n)) with telegramSlot := false }
        slots := if s.line.consecutiveDrops = 2 then s.slots.map (disturb .lineFault t.stationTime s.own)
          else s.slots } t := by
  have hends := ends_reach_line s (s.readBackAt since n) (s.reach (s.readBackAt since n))
    { s.line.afterDrop (max s.now (s.readBackAt since n)) with telegramSlot := false } { s.builder with request := true }
    (if s.line.consecutiveDrops = 2 then s.slots.map (disturb .lineFault (s.reach (s.readBackAt since n)).stationTime s.own)
      else s.slots)
  have hexec := exec_collision hdriving n
  rw [effect_collision_dropped (by exact hattempt), dropFrame_telegram (by exact hservice) (by exact hrun)
    (by exact hlockdown)] at hexec
  refine ⟨_, hexec, finish_attempt_zero rfl _, finish_requests (.inl rfl), ?_⟩
  rw [finish_stationTime]
  exact Ends.of_request hends

theorem drop_locked {s : State} {since : Tick} (hdriving : s.line.transmitter = .driving since) (n : Nat)
    (hattempt : s.line.attempt = 7) (hservice : s.line.service = some .telegram) (hlockdown : s.lockdown = true) :
    ∃ t, exec (.collision n) s = .next t ∧ t.line.attempt = 0 ∧
      (s.builder.request = false → t.builder.request = false ∧ t.line.telegramSlot = false) ∧
      Ends { s with
        now := max s.now (s.readBackAt since n)
        line := { s.line.afterDrop (max s.now (s.readBackAt since n)) with telegramSlot := false }
        builder := { s.builder with lockdownSince := some (max s.now (s.readBackAt since n)) } } t := by
  have hends := ends_reach_line s (s.readBackAt since n) (s.reach (s.readBackAt since n))
    { s.line.afterDrop (max s.now (s.readBackAt since n)) with telegramSlot := false }
    { s.builder with lockdownSince := some (max s.now (s.readBackAt since n)) } s.slots
  have hexec := exec_collision hdriving n
  rw [effect_collision_dropped (by exact hattempt), dropFrame_locked (by exact hservice) (by exact hlockdown)] at hexec
  exact ⟨_, hexec, finish_attempt_zero rfl _,
    fun hrequest => finish_of_unrequested (by exact hlockdown) (by exact hrequest) _, hends⟩

theorem drop_answer {s : State} {since : Tick} (hdriving : s.line.transmitter = .driving since) (n : Nat)
    (hattempt : s.line.attempt = 7) (hservice : s.line.service = some .answer) :
    ∃ t, exec (.collision n) s = .next t ∧ t.line.attempt = 0 ∧
      Ends { s with
        now := max s.now (s.readBackAt since n)
        line := { s.line.afterDrop (max s.now (s.readBackAt since n)) with answerSlot := none }
        slots := if s.line.consecutiveDrops = 2 ∧ s.lockdown = false then
            s.slots.map (disturb .lineFault t.stationTime s.own) else s.slots } t := by
  have hends := ends_reach_line s (s.readBackAt since n) (s.reach (s.readBackAt since n))
    { s.line.afterDrop (max s.now (s.readBackAt since n)) with answerSlot := none } s.builder
    (if s.line.consecutiveDrops = 2 ∧ s.lockdown = false then
      s.slots.map (disturb .lineFault (s.reach (s.readBackAt since n)).stationTime s.own) else s.slots)
  have hexec := exec_collision hdriving n
  rw [effect_collision_dropped (by exact hattempt), dropFrame_answer (by exact hservice)] at hexec
  refine ⟨_, hexec, finish_attempt_zero rfl _, ?_⟩
  rw [finish_stationTime]
  exact hends

/-! ### A completed attempt (R66) -/

theorem exec_attemptCompletion {s : State} {since : Tick} (h : s.line.transmitter = .driving since) :
    exec .attemptCompletion s = .next (finish (s.reach (since + 2 * max 1 s.line.driven.length))
      (effect .attemptCompletion (s.reach (since + 2 * max 1 s.line.driven.length)))) := by
  have hexec : exec .attemptCompletion s =
    whenDue (readBackDue s s.line.driven.length) s (effect .attemptCompletion) := rfl
  rw [hexec, whenDue_of_eq (readBackDue_eq h _), Nat.min_self]

/-- The line after a completed attempt, but for the slot that is emptied. -/
def Line.afterAttempt (now : Tick) (l : Line) : Line :=
  { l with
    service := none, attempt := 0, transmitter := .noService, quietSince := some now
    consecutiveDrops := 0, lineFault := false }

theorem effect_completed_telegram {w : State} (h : w.line.service = some .telegram) : effect .attemptCompletion w = { w with
    line := { w.line.afterAttempt w.now with telegramSlot := false }
    builder := { w.builder with
      sequence := if w.builder.sequence = 65535 then 1 else w.builder.sequence + 1
      spacingSince := some w.now
      heartbeatSince := if w.lockdown then none else some w.now
      lockdownSince := if w.lockdown then some w.now else none } } := by
  have hleft : endLineFault (leaveService (releaseLine w)) = { w with
      line := { w.line.afterAttempt w.now with telegramSlot := false } } := by
    simp [endLineFault, leaveService, releaseLine, Line.afterAttempt, h]
  dsimp only [effect]
  rw [if_pos h, hleft]
  rfl

theorem effect_completed_answer {w : State} (h : w.line.service = some .answer) : effect .attemptCompletion w = { w with
    line := { w.line.afterAttempt w.now with answerSlot := none } } := by
  dsimp only [effect]
  rw [if_neg (by simp [h])]
  simp [endLineFault, leaveService, releaseLine, Line.afterAttempt, h]

/-! ### The Builder's timers -/

/-- What the expiry of a timer of the Builder requests, with the Builder as the expiry leaves it. -/
theorem reason_ends (s : State) (x : Tick) (builder : Builder) : ∃ t,
    t = finish (s.reach x) (takeReason { s.reach x with builder := builder }) ∧
      (t.builder.request = true ∨ t.line.telegramSlot = true) ∧
      (∀ won, s.line.telegramSlot = true → s.line.service = some .telegram → s.line.transmitter = .driving won →
        t.builder.request = true) ∧
      Ends { s with now := max s.now x, builder := builder } t := by
  refine ⟨_, rfl, finish_requests (takeReason_requests _), fun won hslot hservice hdriving => ?_, ?_⟩
  · rw [takeReason_driving (u := { s.reach x with builder := builder }) (by exact hservice) (by exact hdriving)]
    exact finish_keepsRequest rfl (by exact hslot) _
  · obtain ⟨request, h⟩ := takeReason_eq { s.reach x with builder := builder }
    rw [h]
    refine Ends.of_request (request := request) ?_
    obtain ⟨_, _, _, hreach⟩ := reach_eq s x
    rw [hreach]
    exact (finish_ends _ _).of_lanes rfl

/-- The expiry of a timer of the Builder that is no reason. -/
theorem builder_ends (s : State) (x : Tick) (builder : Builder) :
    Ends { s with now := max s.now x, builder := builder } (finish (s.reach x) { s.reach x with builder := builder }) := by
  obtain ⟨_, _, _, hreach⟩ := reach_eq s x
  rw [hreach]
  exact (finish_ends _ _).of_lanes rfl

theorem completes_telegram {s : State} {since : Tick} (hdriving : s.line.transmitter = .driving since)
    (hservice : s.line.service = some .telegram) (x : Tick) (hx : x = since + 2 * max 1 s.line.driven.length) :
    ∃ t, exec .attemptCompletion s = .next t ∧ t.line.telegramSlot = false ∧ t.line.attempt = 0 ∧
      t.line.service ≠ some .telegram ∧ (s.builder.request = true → t.builder.request = true) ∧
      Ends { s with
        now := max s.now x
        line := { s.line.afterAttempt (max s.now x) with telegramSlot := false }
        builder := { s.builder with
          sequence := if s.builder.sequence = 65535 then 1 else s.builder.sequence + 1
          spacingSince := some (max s.now x)
          heartbeatSince := if s.lockdown then none else some (max s.now x)
          lockdownSince := if s.lockdown then some (max s.now x) else none } } t := by
  have hexec := exec_attemptCompletion hdriving
  rw [← hx, effect_completed_telegram (by exact hservice)] at hexec
  obtain ⟨u, hu⟩ : ∃ u, u = { s.reach x with
      line := { s.line.afterAttempt (max s.now x) with telegramSlot := false }
      builder := { s.builder with
        sequence := if s.builder.sequence = 65535 then 1 else s.builder.sequence + 1
        spacingSince := some (max s.now x)
        heartbeatSince := if s.lockdown then none else some (max s.now x)
        lockdownSince := if s.lockdown then some (max s.now x) else none } } := ⟨_, rfl⟩
  have hends := ends_reach_line s x (s.reach x) u.line u.builder s.slots
  have hexec : exec .attemptCompletion s = .next (finish (s.reach x) u) := by rw [hexec, hu]; rfl
  obtain ⟨hslot, hrequest⟩ := finish_telegramSlot_of_spacing (u := u) (by rw [hu]; nofun) (s.reach x)
  have hempty : (finish (s.reach x) u).line.telegramSlot = false := hslot.trans (by rw [hu])
  refine ⟨_, hexec, hempty, finish_attempt_zero (by rw [hu]; rfl) _, finish_no_telegram (by rw [hu]; rfl) _ hempty,
    fun h => hrequest (by rw [hu]; exact h), ?_⟩
  rw [hu] at hends ⊢
  exact hends

theorem completes_answer {s : State} {since : Tick} (hdriving : s.line.transmitter = .driving since)
    (hservice : s.line.service = some .answer) (x : Tick) (hx : x = since + 2 * max 1 s.line.driven.length) :
    ∃ t, exec .attemptCompletion s = .next t ∧ t.line.attempt = 0 ∧
      Ends { s with
        now := max s.now x, line := { s.line.afterAttempt (max s.now x) with answerSlot := none } } t := by
  have hexec := exec_attemptCompletion hdriving
  rw [← hx, effect_completed_answer (by exact hservice)] at hexec
  exact ⟨_, hexec, finish_attempt_zero rfl _, ends_reach_line
    s x (s.reach x) { s.line.afterAttempt (max s.now x) with answerSlot := none } s.builder s.slots⟩

end Sys2Proof.Machine

namespace Sys2Proof.Proofs
open Sys2Proof.Machine

/-- Settles O25: below eight attempts the collision is one of the line; the eighth is a drop, by what was in service. -/
theorem collisionsAndDrops : Obligations.CollisionsAndDrops := by
  intro n s since hdriving now hnow dropped hdropped
  subst hdropped hnow
  exact ⟨collision_again hdriving n, drop_telegram hdriving n, drop_locked hdriving n, drop_answer hdriving n⟩

/-- Settles O26: a completed telegram starts the spacing timer, so that no other one is filled in behind it. -/
theorem attemptsComplete : Obligations.AttemptsComplete := by
  intro s since hdriving now hnow
  subst hnow
  exact ⟨fun hservice => completes_telegram hdriving hservice _ rfl, fun hservice => completes_answer hdriving hservice _ rfl⟩

/-- Settles O27: each expiry stops its timer, and is a reason where the statement names one. -/
theorem builderTimersRunOut : Obligations.BuilderTimersRunOut := by
  refine ⟨fun s since hsince => ?_, fun s since hsince => ?_, fun s since hlockdown hsince => ?_⟩
  · have hexec : exec .spacingEnd s = whenDue (spacingDue s) s (effect .spacingEnd) := rfl
    rw [hexec, whenDue_of_eq (x := since + 2000) (by simp [spacingDue, hsince, after, ms])]
    exact ⟨_, rfl, fun hrequest hslot => finish_fills (by exact hrequest) (by exact hslot) rfl _, builder_ends s _ _⟩
  · have hexec : exec .heartbeatExpiry s = whenDue (heartbeatDue s) s (effect .heartbeatExpiry) := rfl
    rw [hexec, whenDue_of_eq (x := since + 20000) (by simp [heartbeatDue, hsince, after, ms])]
    by_cases hservice : (s.reach (since + 20000)).inService = true
    · have heffect : effect .heartbeatExpiry (s.reach (since + 20000)) = _ := if_pos hservice
      obtain ⟨t, ht, hrequest, hdriving, hends⟩ := reason_ends s (since + 20000) { s.builder with heartbeatSince := none }
      exact ⟨t, by rw [heffect, ht]; rfl, fun _ _ => hrequest, fun won _ _ => hdriving won, hends⟩
    · have heffect : effect .heartbeatExpiry (s.reach (since + 20000)) = _ := if_neg hservice
      have hnot : ¬(s.phase = .run ∧ s.lockdown = false) := fun ⟨hrun, hlockdown⟩ =>
        hservice (show s.inService = true by simp [State.inService, hrun, hlockdown])
      rw [heffect]
      exact ⟨_, rfl, fun hrun hl => absurd ⟨hrun, hl⟩ hnot, fun _ hrun hl => absurd ⟨hrun, hl⟩ hnot,
        builder_ends s _ { s.builder with heartbeatSince := none }⟩
  · have hexec : exec .lockdownTelegramTimer s = whenDue (lockdownTelegramDue s) s (effect .lockdownTelegramTimer) := rfl
    rw [hexec, whenDue_of_eq (x := since + 20000) (by simp [lockdownTelegramDue, hlockdown, hsince, after, ms])]
    obtain ⟨t, ht, hrequest, hdriving, hends⟩ := reason_ends s (since + 20000) { s.builder with lockdownSince := none }
    exact ⟨t, by rw [ht]; rfl, hrequest, hdriving, hends⟩

end Sys2Proof.Proofs
end

section
/-! PROOFS. The waits before a frame may be driven (O23) and the frame driven at the win (O24). -/

namespace Sys2Proof.Machine

/-! ### Reception idle and line idle -/

theorem isDriving_of_not {l : Line} (h : ∀ since, l.transmitter ≠ .driving since) : l.isDriving = false := by
  unfold Line.isDriving
  cases ht : l.transmitter with
  | driving since => exact absurd ht (h since)
  | _ => rfl

/-- The receiver is WAITING and every other field of the line as it was. -/
def Line.idleReception (l : Line) : Line := { l with receiver := l.receiver.toWaiting }

theorem receptionIdle_held {dt : Nat} {s : State} {q : Tick} (hconnected : s.line.connected = true)
    (hdriving : ∀ since, s.line.transmitter ≠ .driving since) (hquiet : s.line.quietSince = some q) :
    ∃ t, exec (.receptionIdle dt []) s = .next t ∧ t.now = max (s.now + dt) (q + 4) ∧
      Ends { s with now := t.now, line := s.line.idleReception } t := by
  have hexec : exec (.receptionIdle dt []) s = onInput 0 ((s.wait dt).upTo (quietDue (s.wait dt))) (idleArises [])
      fun w => { w with line := w.line.idleReception } := rfl
  have hdue : quietDue (s.wait dt) = q + 4 := by
    have hline : (s.wait dt).line.quietSince = some q := hquiet
    simp only [quietDue, hline]
    rfl
  obtain ⟨_, _, _, hreach⟩ := reach_eq s (max (s.now + dt) (q + 4))
  have hnow : ∀ n x : Nat, max n (max (n + dt) x) = max (n + dt) x := by omega
  have harises : idleArises [] (((s.wait dt).upTo (quietDue (s.wait dt))).pass 0) = true := by
    rw [hdue, State.reach_of_wait, hreach]
    simp [idleArises, hconnected, isDriving_of_not hdriving, hquiet]
  rw [hexec, onInput_arises harises, hdue, State.reach_of_wait]
  refine ⟨_, rfl, ?_, ?_⟩
  · rw [finish_now, hreach]
    exact hnow _ _
  · rw [finish_now, hreach]
    exact (finish_ends _ _).of_lanes rfl

theorem receptionIdle_character {dt : Nat} {s : State} (hquiet : s.line.quietSince = none) :
    ∃ t, exec (.receptionIdle dt []) s = .next t ∧ Ends { s with now := s.now + dt } t := by
  have hexec : exec (.receptionIdle dt []) s = onInput 0 ((s.wait dt).upTo (quietDue (s.wait dt))) (idleArises [])
      fun w => { w with line := w.line.idleReception } := rfl
  have hdue : quietDue (s.wait dt) = s.now + dt := by
    have hline : (s.wait dt).line.quietSince = none := hquiet
    simp only [quietDue, hline]
    rfl
  obtain ⟨_, _, _, hreach⟩ := reach_eq s (max (s.now + dt) (s.now + dt))
  have harises : idleArises [] (((s.wait dt).upTo (quietDue (s.wait dt))).pass 0) = false := by
    rw [hdue, State.reach_of_wait, hreach]
    simp [idleArises, hquiet]
  have hnow : ∀ n : Nat, max n (max (n + dt) (n + dt)) = n + dt := by omega
  rw [hexec, onInput_not harises, hdue, State.reach_of_wait, hreach]
  refine ⟨_, rfl, ?_⟩
  rw [show max s.now (max (s.now + dt) (s.now + dt)) = s.now + dt from hnow _]
  exact ⟨rfl, id, fun _ => ⟨rfl, rfl, rfl⟩⟩

theorem exec_lineIdle {s : State} {q : Tick} (hconnected : s.line.connected = true)
    (hawait : s.line.transmitter = .awaitIdle) (hservice : s.line.service ≠ none) (hquiet : s.line.quietSince = some q) :
    ∃ t, exec .lineIdle s = .next t ∧ t.now = max s.now (q + 8) ∧ t.line.transmitter = .slotDelay t.now ∧
      Ends { s with now := t.now, line := { s.line with transmitter := .slotDelay t.now } } t := by
  have hexec : exec .lineIdle s = whenDue (lineIdleDue s) s (effect .lineIdle) := rfl
  have hdue : lineIdleDue s = some (q + 8) := by simp [lineIdleDue, hconnected, hawait, hquiet, after, accessGap, characters]
  have hends := ends_reach_line s (q + 8) (s.reach (q + 8)) { s.line with transmitter := .slotDelay (max s.now (q + 8)) }
    s.builder s.slots
  have heffect : effect .lineIdle (s.reach (q + 8)) = { s.reach (q + 8) with
      line := { s.line with transmitter := .slotDelay (max s.now (q + 8)) }, builder := s.builder, slots := s.slots } := by
    obtain ⟨_, _, _, hreach⟩ := reach_eq s (q + 8)
    rw [hreach]
    rfl
  rw [hexec, whenDue_of_eq hdue, heffect]
  have hnow := congrArg State.now hends.rest
  refine ⟨_, rfl, hnow, ?_, ?_⟩
  · rw [(hends.serviceKept hservice).2.1]
    exact congrArg Transmitter.slotDelay hnow.symm
  · rw [show (finish _ _).now = max s.now (q + 8) from hnow]
    exact hends

/-! ### A start bit -/

/-- With a character on the line no frame begins its slot delay. -/
theorem finish_awaits {u : State} (hquiet : u.line.quietSince = none) (h : ∀ since, u.line.transmitter ≠ .slotDelay since)
    (b : State) (since : Tick) : (finish b u).line.transmitter ≠ .slotDelay since := by
  have hfilled : (fillSlot (noteChange b u)).line.quietSince = none ∧
      (fillSlot (noteChange b u)).line.transmitter = u.line.transmitter := by
    obtain ⟨_, hnote⟩ := noteChange_eq b u
    obtain hfill | ⟨-, hfill⟩ := fillSlot_cases (noteChange b u) <;> rw [hfill, hnote] <;> exact ⟨hquiet, rfl⟩
  have hline : (finish b u).line = (serve (fillSlot (noteChange b u))).line := rfl
  have hidle : (fillSlot (noteChange b u)).lineIsIdle = false := by simp [State.lineIsIdle, hfilled.1]
  rw [hline]
  obtain h3 | ⟨_, _, _, _, h3⟩ := serve_cases (fillSlot (noteChange b u))
  · rw [h3, hfilled.2]
    exact h since
  · rw [h3]
    simp [hidle]

theorem exec_deferral {dt : Nat} {s : State} (hconnected : s.line.connected = true) (hdriving : s.line.isDriving = false) :
    exec (.deferral dt) s = .next (finish (s.pass dt) (startBit (s.pass dt))) := by
  have hexec : exec (.deferral dt) s = onInput dt s (fun s => s.line.connected && !s.line.isDriving) startBit := rfl
  obtain ⟨_, _, _, hpass⟩ := pass_eq s dt
  rw [hexec, onInput_arises (by rw [hpass]; simp [hconnected, hdriving])]

/-- The receiver at a start bit. -/
def State.receiverAtStartBit (s : State) : Receiver :=
  if s.receptionIsIdle then s.line.receiver.toWaiting else s.line.receiver

/-- The line at a start bit. -/
def Line.atStartBit (l : Line) (receiver : Receiver) : Line := { l.defer with quietSince := none, receiver := receiver }

theorem startBit_ends (s : State) (dt : Nat) : ∃ t, finish (s.pass dt) (startBit (s.pass dt)) = t ∧
    t.line.receiver = (s.wait dt).receiverAtStartBit ∧
    Ends { s with now := s.now + dt, line := s.line.atStartBit (s.wait dt).receiverAtStartBit } t := by
  obtain ⟨_, _, _, hpass⟩ := pass_eq s dt
  have hends : Ends { s with now := s.now + dt, line := s.line.atStartBit (s.wait dt).receiverAtStartBit }
      (finish (s.pass dt) (startBit (s.pass dt))) := by
    rw [hpass]
    exact (finish_ends _ _).of_lanes rfl
  exact ⟨_, rfl, congrArg (·.line.receiver) hends.rest, hends⟩

/-- After reception idle the receiver takes the character as the first of a burst. -/
theorem receiver_at_startBit {s : State} {dt : Nat} {q : Tick} (hquiet : s.line.quietSince = some q) (h : q + 4 ≤ s.now + dt) :
    (s.wait dt).receiverAtStartBit.state = .waiting ∧ (s.wait dt).receiverAtStartBit.idleSeen = true := by
  have hidle : (s.wait dt).receptionIsIdle = true := by
    have hline : (s.wait dt).line.quietSince = some q := hquiet
    simp only [State.receptionIsIdle, hline, decide_eq_true_eq]
    exact h
  rw [State.receiverAtStartBit, if_pos hidle]
  exact ⟨rfl, rfl⟩

theorem deferral_defers {dt : Nat} {s : State} {since : Tick} (hconnected : s.line.connected = true)
    (hdelay : s.line.transmitter = .slotDelay since) (hservice : s.line.service ≠ none) :
    ∃ t, exec (.deferral dt) s = .next t ∧ t.line.service = s.line.service ∧ t.line.attempt = s.line.attempt ∧
      t.line.transmitter = .awaitIdle ∧
      (∀ q, s.line.quietSince = some q → q + 4 ≤ s.now + dt →
        t.line.receiver.state = .waiting ∧ t.line.receiver.idleSeen = true) ∧
      Ends { s with
        now := s.now + dt
        line := { s.line with transmitter := .awaitIdle, quietSince := none, receiver := t.line.receiver } } t := by
  obtain ⟨t, ht, hreceiver, hends⟩ := startBit_ends s dt
  have hline : s.line.atStartBit (s.wait dt).receiverAtStartBit =
      { s.line with transmitter := .awaitIdle, quietSince := none, receiver := (s.wait dt).receiverAtStartBit } := by
    simp [Line.atStartBit, Line.defer, hdelay]
  rw [hline] at hends
  obtain ⟨hkept, htransmitter, hattempt⟩ := hends.serviceKept hservice
  refine ⟨t, ?_, hkept, hattempt, htransmitter, fun q hq hle => ?_, ?_⟩
  · rw [exec_deferral hconnected (by simp [Line.isDriving, hdelay]), ht]
  · rw [hreceiver]
    exact receiver_at_startBit hq hle
  · rw [hreceiver]
    exact hends

theorem deferral_holds {dt : Nat} {s : State} (hconnected : s.line.connected = true)
    (hwait : s.line.transmitter = .noService ∨ s.line.transmitter = .awaitIdle) :
    ∃ t, exec (.deferral dt) s = .next t ∧ (∀ since, t.line.transmitter ≠ .slotDelay since) ∧
      (∀ q, s.line.quietSince = some q → q + 4 ≤ s.now + dt →
        t.line.receiver.state = .waiting ∧ t.line.receiver.idleSeen = true) ∧
      Ends { s with
        now := s.now + dt, line := { s.line with quietSince := none, receiver := t.line.receiver } } t := by
  obtain ⟨t, ht, hreceiver, hends⟩ := startBit_ends s dt
  have hdefer : s.line.defer = s.line := by
    obtain h | h := hwait <;> simp [Line.defer, h]
  have hstart : (startBit (s.pass dt)).line.quietSince = none ∧
      (startBit (s.pass dt)).line.transmitter = s.line.transmitter := by
    obtain ⟨_, _, _, hpass⟩ := pass_eq s dt
    rw [hpass]
    exact ⟨rfl, congrArg (·.transmitter) hdefer⟩
  rw [Line.atStartBit, hdefer] at hends
  refine ⟨t, ?_, fun since => ?_, fun q hq hle => ?_, ?_⟩
  · rw [exec_deferral hconnected (by obtain h | h := hwait <;> simp [Line.isDriving, h]), ht]
  · rw [← ht]
    refine finish_awaits hstart.1 (fun since hdelay => ?_) _ since
    rw [hstart.2] at hdelay
    obtain h | h := hwait <;> rw [h] at hdelay <;> cases hdelay
  · rw [hreceiver]
    exact receiver_at_startBit hq hle
  · rw [hreceiver]
    exact hends

/-! ### The telegram at a win -/

theorem View.toPart_viewOf (s : State) (sl : Slot) : View.toPart (s.viewOf sl) =
    { sectionNumber := BitVec.ofNat 16 sl.sectionNumber, state := SlotState.code sl.state, settled := s.settled sl
      balance := BitVec.ofInt 16 sl.balance
      demand := sl.reset.demand.map fun d =>
        { originator := BitVec.ofNat 8 d.identity.originator
          number := BitVec.ofNat 8 (if d.kind = .sweep then d.identity.number else d.identity.number + 128)
          baseTxy := d.baseTxy, baseTyx := d.baseTyx } } := by
  have hdemand : sl.viewDemand.map ViewDemand.toPart = sl.reset.demand.map fun d =>
      { originator := BitVec.ofNat 8 d.identity.originator
        number := BitVec.ofNat 8 (if d.kind = .sweep then d.identity.number else d.identity.number + 128)
        baseTxy := d.baseTxy, baseTyx := d.baseTyx } := by
    unfold Slot.viewDemand
    cases sl.reset.demand with
    | none => rfl
    | some d => cases hkind : d.kind <;> simp [ViewDemand.toPart, demandNumberCode, char8, hkind]
  rw [View.toPart, State.viewOf, hdemand]

theorem telegramAtWin_eq (s : State) : telegramAtWin s =
    if s.lockdown then
      { sender := BitVec.ofNat 8 s.own, sequence := s.builder.sequence, status := .lockdown, txy := 0, tyx := 0
        viewCount := 0, views := [], partialView := false }
    else
      { sender := BitVec.ofNat 8 s.own, sequence := s.builder.sequence, status := s.headStatus, txy := s.txy
        tyx := s.tyx, viewCount := BitVec.ofNat 8 s.slots.length, partialView := false
        views := s.slots.map fun sl =>
          { sectionNumber := BitVec.ofNat 16 sl.sectionNumber, state := SlotState.code sl.state
            settled := s.settled sl, balance := BitVec.ofInt 16 sl.balance
            demand := sl.reset.demand.map fun d =>
              { originator := BitVec.ofNat 8 d.identity.originator
                number := BitVec.ofNat 8 (if d.kind = .sweep then d.identity.number else d.identity.number + 128)
                baseTxy := d.baseTxy, baseTyx := d.baseTyx } } } := by
  simp only [telegramAtWin, lockdownTelegram, ownTelegram, View.toPart_viewOf, char8]

/-- What an event ends with changes nothing that a telegram carries. -/
theorem Ends.telegramAtWin {u t : State} (h : Ends u t) : telegramAtWin t = telegramAtWin u := by
  rw [h.rest]
  rfl

/-! ### The comparison of a telegram's content -/

theorem differsIn_content {p : Compared} {l : Lanes} : l.DiffersIn p .telegramContent ↔
    .telegramContent ∈ l.faulty ∨ l.laneQ.content ≠ p.content.map (fun c => ~~~c) := by
  simp [Lanes.DiffersIn, Compared.inverts]

/-- The lanes' comparison is the last of an event, and nothing before it touches the lanes. -/
theorem finish_noteLanes (b u : State) : ∃ v, finish b u = noteLanes v ∧ v.lanes = u.lanes := by
  refine ⟨_, rfl, ?_⟩
  obtain ⟨_, hnote⟩ := noteChange_eq b u
  have hserve : (serve (fillSlot (noteChange b u))).lanes = (fillSlot (noteChange b u)).lanes := by
    obtain h | ⟨-, -, _, -, h⟩ := serve_cases (fillSlot (noteChange b u)) <;> rw [h]
  have hfill : (fillSlot (noteChange b u)).lanes = (noteChange b u).lanes := by
    obtain h | ⟨-, h⟩ := fillSlot_cases (noteChange b u) <;> rw [h]
  exact (hserve.trans hfill).trans (by rw [hnote])

theorem finish_laneQ (b u : State) : (finish b u).lanes.laneQ = u.lanes.laneQ := by
  obtain ⟨v, hfinish, hlanes⟩ := finish_noteLanes b u
  rw [hfinish, ← hlanes]
  rfl

/-- The comparison at the end of an event finds the content as the win found it. -/
theorem finish_content {u : State} (b : State)
    (h : (∃ d ∈ u.lanes.differing, d.item = .telegramContent) ↔ u.lanes.DiffersIn (finish b u).laneP .telegramContent) :
    (∃ d ∈ (finish b u).lanes.differing, d.item = .telegramContent) ↔
      u.lanes.DiffersIn (finish b u).laneP .telegramContent := by
  obtain ⟨v, hfinish, hlanes⟩ := finish_noteLanes b u
  have hP : (noteLanes v).laneP = v.laneP := rfl
  rw [hfinish, hP] at h ⊢
  have hheld := noteDifferences_item (x := v.now) (differs := (v.lanes.enqueue v.now v.evaluation).differs v.laneP)
    (other := .telegramContent) ((v.lanes.enqueue v.now v.evaluation).live v.comparedItems) v.lanes.differing
  refine hheld.trans ?_
  split
  · rw [← hlanes]
    exact differs_iff
  · rw [hlanes]
    exact h

/-- A win compares the content of its telegram, whatever the comparator held. -/
theorem atWin_content {now : Tick} {q : Bool} {p : Compared} {l : Lanes} :
    (∃ d ∈ (l.atWin now q p).differing, d.item = .telegramContent) ↔ (l.atWin now q p).DiffersIn p .telegramContent := by
  have hheld := noteDifference_item (x := now) (item := .telegramContent) (other := .telegramContent)
    (differs := (l.atWin now q p).differs p .telegramContent) (ds := l.differing)
  rw [if_pos rfl] at hheld
  exact hheld.trans differs_iff

theorem atWin_faulty (now : Tick) (q : Bool) (p : Compared) (l : Lanes) : (l.atWin now q p).faulty =
    l.faulty.filter (fun i => i != .telegramContent) ++ (if q then [.telegramContent] else []) := by
  cases q with
  | false => exact (List.append_nil _).symm
  | true => rfl

theorem mem_atWin_faulty {now : Tick} {q : Bool} {p : Compared} {l : Lanes} :
    .telegramContent ∈ (l.atWin now q p).faulty ↔ q = true := by
  rw [atWin_faulty]
  cases q <;> simp

/-! ### Driving -/

/-- The line from the win on. -/
def Line.won (now : Tick) (driven : List Byte) (l : Line) : Line :=
  { l with
    transmitter := .driving now, quietSince := none, driven := driven
    receiver := { l.receiver with state := .skipping, badFirst := false } }

/-- The instant of the win: the slot delay is (station + 7 × attempt) mod 32 character times (R62). -/
def State.winAt (s : State) (since : Tick) : Tick := since + 2 * ((s.own + 7 * s.line.attempt) % 32)

theorem exec_lineWin {s : State} {since : Tick} (hdelay : s.line.transmitter = .slotDelay since) (q : Bool) :
    exec (.lineWin q) s =
      .next (finish (s.reach (s.winAt since)) (effect (.lineWin q) (s.reach (s.winAt since)))) := by
  have hexec : exec (.lineWin q) s = whenDue (lineWinDue s) s (effect (.lineWin q)) := rfl
  have hdue : lineWinDue s = some (s.winAt since) := by
    unfold lineWinDue
    rw [hdelay]
    rfl
  rw [hexec, whenDue_of_eq hdue]

theorem compareCopies_telegram {s : State} (h : s.line.service = some .telegram) (q : Bool) :
    compareCopies q s = { s with lanes := s.lanes.atWin s.now q s.laneP } := by simp only [compareCopies, h]

theorem compareCopies_answer {s : State} (h : s.line.service = some .answer) (q : Bool) : compareCopies q s = s := by
  simp only [compareCopies, h]

theorem effect_lineWin_telegram {w : State} (hservice : w.line.service = some .telegram) (q : Bool) :
    effect (.lineWin q) w = { w with
      line := w.line.won w.now (frameOf (encodeTelegram (telegramAtWin w)))
      lanes := w.lanes.atWin w.now q w.laneP } := by
  have hcopies : effect (.lineWin q) w =
      compareCopies q { w with line := w.line.won w.now (frameOf (bodyAtWin w)) } := rfl
  have hbody : bodyAtWin w = encodeTelegram (telegramAtWin w) := by simp only [bodyAtWin, hservice]
  rw [hcopies, compareCopies_telegram (by exact hservice), hbody]
  rfl

theorem effect_lineWin_answer {w : State} (hservice : w.line.service = some .answer) (q : Bool) :
    effect (.lineWin q) w = { w with line := w.line.won w.now (frameOf (w.line.answerSlot.getD [])) } := by
  have hcopies : effect (.lineWin q) w =
      compareCopies q { w with line := w.line.won w.now (frameOf (bodyAtWin w)) } := rfl
  have hbody : bodyAtWin w = w.line.answerSlot.getD [] := by simp only [bodyAtWin, hservice]
  rw [hcopies, compareCopies_answer (by exact hservice), hbody]

/-- The characters driven carry the bits of R53. -/
theorem drivenBits_eq {l : Line} {now : Tick} {driven : List Byte} {bits : Byte → CharBits}
    (hbits : ∀ c, bits c = { start := .driven, data := .ofFn (fun i => c.getLsbD i), stop := .idle })
    (htransmitter : l.transmitter = .driving now) (hdriven : l.driven = driven) : l.drivenBits = driven.map bits := by
  have hchar : charBits = bits := funext fun c => (hbits c).symm
  have hdriving : l.isDriving = true := by simp [Line.isDriving, htransmitter]
  rw [Line.drivenBits, if_pos hdriving, hdriven, hchar]

theorem lineWin_telegram {s : State} {since : Tick} (hdelay : s.line.transmitter = .slotDelay since)
    (hservice : s.line.service = some .telegram) (q : Bool) :
    ∃ t, exec (.lineWin q) s = .next t ∧
      Ends { s with
        now := max s.now (s.winAt since)
        line := s.line.won (max s.now (s.winAt since)) (frameOf (encodeTelegram (telegramAtWin s)))
        lanes := { s.lanes with
          faulty := s.lanes.faulty.filter (fun i => i != .telegramContent) ++ (if q then [.telegramContent] else []) } }
        t ∧
      ((∃ d ∈ t.lanes.differing, d.item = .telegramContent) ↔
        q = true ∨ t.lanes.laneQ.content ≠ (encodeTelegram (telegramAtWin s)).map (fun c => ~~~c)) := by
  obtain ⟨w, hw⟩ : ∃ w, w = s.reach (s.winAt since) := ⟨_, rfl⟩
  obtain ⟨copy, behind, differing, hreach⟩ := reach_eq s (s.winAt since)
  have hservicew : w.line.service = some .telegram := by rw [hw, hreach]; exact hservice
  have htelegram : telegramAtWin w = telegramAtWin s := by rw [hw, hreach]; rfl
  obtain ⟨u, hu⟩ : ∃ u, u = effect (.lineWin q) w := ⟨_, rfl⟩
  have heffect := hu.trans (effect_lineWin_telegram hservicew q)
  have hcontent : ∀ t, Ends u t → t.laneP.content = encodeTelegram (telegramAtWin s) := fun t hends => by
    change encodeTelegram (telegramAtWin t) = _
    rw [hends.telegramAtWin, heffect, ← htelegram]
    rfl
  refine ⟨finish w u, ?_, ?_, ?_⟩
  · rw [exec_lineWin hdelay, ← hw, ← hu]
  · rw [← atWin_faulty (max s.now (s.winAt since)) q w.laneP s.lanes]
    refine (finish_ends w u).of_lanes (c := copy) (x := ⟨s.lanes.time.value + (s.winAt since - s.now)⟩) (b := behind)
      (e := s.lanes.events) (d := u.lanes.differing) ?_
    rw [heffect, htelegram, hw, hreach]
    rfl
  · have hlanes : u.lanes = w.lanes.atWin w.now q w.laneP := congrArg State.lanes heffect
    have hP : w.laneP.content = (finish w u).laneP.content :=
      (congrArg encodeTelegram htelegram).trans (hcontent _ (finish_ends w u)).symm
    have hheld : (∃ d ∈ u.lanes.differing, d.item = .telegramContent) ↔
        u.lanes.DiffersIn (finish w u).laneP .telegramContent := by
      rw [differsIn_content, ← hP, ← differsIn_content, hlanes]
      exact atWin_content
    rw [finish_content w hheld, differsIn_content, hcontent _ (finish_ends w u), finish_laneQ, hlanes, mem_atWin_faulty]

theorem lineWin_answer {s : State} {since : Tick} {body : List Byte} (hdelay : s.line.transmitter = .slotDelay since)
    (hservice : s.line.service = some .answer) (hbody : s.line.answerSlot = some body) (q : Bool) :
    ∃ t, exec (.lineWin q) s = .next t ∧
      Ends { s with
        now := max s.now (s.winAt since), line := s.line.won (max s.now (s.winAt since)) (frameOf body) } t := by
  obtain ⟨_, _, _, hreach⟩ := reach_eq s (s.winAt since)
  have hends := ends_reach_line s (s.winAt since) (s.reach (s.winAt since))
    (s.line.won (max s.now (s.winAt since)) (frameOf body)) s.builder s.slots
  have heffect : effect (.lineWin q) (s.reach (s.winAt since)) = { s.reach (s.winAt since) with
      line := s.line.won (max s.now (s.winAt since)) (frameOf body), builder := s.builder, slots := s.slots } := by
    rw [effect_lineWin_answer (by rw [hreach]; exact hservice), hreach]
    dsimp only
    rw [hbody]
    rfl
  rw [exec_lineWin hdelay, heffect]
  exact ⟨_, rfl, hends⟩

end Sys2Proof.Machine

namespace Sys2Proof.Proofs
open Sys2Proof.Machine

/-- Settles O23: each command's event at its instant; a start bit leaves the quiet time held, so that no frame taken into
service then finds the line idle. -/
theorem accessWaits : Obligations.AccessWaits :=
  ⟨fun _ _ hconnected hdriving => ⟨fun _ hquiet => receptionIdle_held hconnected hdriving hquiet, receptionIdle_character⟩,
    fun s hconnected hawait hservice => ⟨fun _ hquiet => exec_lineIdle hconnected hawait hservice hquiet, fun hquiet => by
      have hdue : lineIdleDue s = none := by simp [lineIdleDue, hquiet, after]
      exact (congrArg (fun d => whenDue d s (effect .lineIdle)) hdue).trans whenDue_none⟩,
    fun _ _ hconnected => ⟨fun _ hdelay hservice => deferral_defers hconnected hdelay hservice,
      fun hwait => deferral_holds hconnected hwait⟩⟩

/-- Settles O24: the win assembles the telegram of the state it stands in, and the comparison that ends the event judges
its content again only where the win found it to differ. -/
theorem frameIsDrivenAtTheWin : Obligations.FrameIsDrivenAtTheWin := by
  intro s since q bits hdelay hbits now hnow
  subst hnow
  constructor
  · intro tel hservice htel
    obtain rfl : tel = telegramAtWin s := htel.trans (telegramAtWin_eq s).symm
    obtain ⟨t, hexec, hends, hcontent⟩ := lineWin_telegram hdelay hservice q
    have htransmitter := (hends.serviceKept (show s.line.service ≠ none by rw [hservice]; nofun)).2.1
    exact ⟨t, hexec, htransmitter, drivenBits_eq hbits htransmitter (congrArg (·.line.driven) hends.rest), hends, hcontent⟩
  · intro body hservice hbody
    obtain ⟨t, hexec, hends⟩ := lineWin_answer hdelay hservice hbody q
    have htransmitter := (hends.serviceKept (show s.line.service ≠ none by rw [hservice]; nofun)).2.1
    exact ⟨t, hexec, htransmitter, drivenBits_eq hbits htransmitter (congrArg (·.line.driven) hends.rest), hends⟩

end Sys2Proof.Proofs
end

section
/-! PROOFS. Frames and the bodies of count telegrams are read back from what they carry (O60). -/

namespace Sys2Proof.Machine

/-! ### Words and frames -/

@[simp] theorem word_high_low (w : Word16) : word (high w) (low w) = w := by
  refine BitVec.eq_of_getLsbD_eq fun i hi => ?_
  simp only [word, high, low, BitVec.getLsbD_append, BitVec.getLsbD_extractLsb']
  split
  · simp_all
  · simp_all; omega

theorem char8_toNat {n : Nat} (h : n < 256) : (char8 n).toNat = n := by
  simp [char8, Nat.mod_eq_of_lt h]

/-- The body of a frame is found in it. -/
theorem frameBody_frameOf {body : List Byte} (h1 : 1 ≤ body.length) (h64 : body.length ≤ 64) :
    frameBody (frameOf body) = some body := by
  have hlen : (char8 body.length).toNat = body.length := char8_toNat (by omega)
  have hcrc : (chars16 (crc16 (char8 body.length :: body))).length = 2 := rfl
  simp only [frameOf, frameBody, List.cons_append, hlen, List.take_left, List.drop_left, List.length_append, hcrc]
  exact if_pos ⟨trivial, h1, h64, trivial, trivial⟩

/-! ### Views -/

/-- The flags character of a view is in 0..3, and its bits tell the settled flag and a demand part (11.2). -/
theorem flags_eq (v : ViewPart) : (ViewPart.flags v).toNat ≤ 3 ∧ (ViewPart.flags v).getLsbD 0 = v.settled ∧
    (ViewPart.flags v).getLsbD 1 = v.demand.isSome := by
  have h : ∀ settled demand : Bool, (char8 (flag settled 1 + flag demand 2)).toNat ≤ 3 ∧
      (char8 (flag settled 1 + flag demand 2)).getLsbD 0 = settled ∧
      (char8 (flag settled 1 + flag demand 2)).getLsbD 1 = demand := by decide
  exact h v.settled v.demand.isSome

/-- The views of a body, one view after another. -/
theorem parseViews_encode (v : ViewPart) (rest : List Byte) :
    parseViews (ViewPart.encode v ++ rest) = (parseViews rest).map fun p => (v :: p.1, p.2) := by
  obtain ⟨hrange, hsettled, hdemand⟩ := flags_eq v
  obtain ⟨sectionNumber, state, settled, balance, demand⟩ := v
  cases demand with
  | none =>
    simp only [ViewPart.encode, chars16, List.cons_append, List.nil_append, List.append_nil]
    rw [parseViews.eq_def]
    dsimp only
    rw [if_neg (by omega), if_neg (by rw [hdemand]; nofun), hsettled, word_high_low, word_high_low]
    cases parseViews rest <;> rfl
  | some d =>
    obtain ⟨originator, number, baseTxy, baseTyx⟩ := d
    simp only [ViewPart.encode, DemandPart.encode, chars16, List.cons_append, List.nil_append]
    rw [parseViews, if_neg (by omega), if_pos (by rw [hdemand]; rfl), hsettled]
    simp only [word_high_low]
    cases parseViews rest <;> rfl

theorem parseViews_flatMap (views : List ViewPart) : parseViews (views.flatMap ViewPart.encode) = some (views, false) := by
  induction views with
  | nil => simp [parseViews]
  | cons v views ih => rw [List.flatMap_cons, parseViews_encode, ih]; rfl

/-! ### Telegrams -/

theorem headStatusOf_code (st : HeadStatus) : headStatusOf (HeadStatus.code st) = some st := by
  cases st <;> rfl

theorem parseBody_telegram (sender : Byte) (fields : List Byte) :
    parseBody (bodyHeader 1 sender 0 ++ fields) = parseTelegram sender fields := by
  simp [parseBody, bodyHeader, lineMark]

/-- What the characters after the own fields of a telegram's body are taken for is all that its views are read from. -/
theorem parseBody_encodeTelegram_append (t : Telegram) (more : List Byte) :
    parseBody (encodeTelegram t ++ more) = match parseViews (t.views.flatMap ViewPart.encode ++ more) with
      | some (vs, rest) => .telegram { t with views := vs, partialView := rest }
      | none => .unlisted := by
  have hbody : encodeTelegram t ++ more = bodyHeader 1 t.sender 0 ++ (high t.sequence :: low t.sequence ::
      HeadStatus.code t.status :: high t.txy :: low t.txy :: high t.tyx :: low t.tyx :: t.viewCount ::
      (t.views.flatMap ViewPart.encode ++ more)) := by
    simp [encodeTelegram, chars16]
  rw [hbody, parseBody_telegram]
  simp only [parseTelegram, headStatusOf_code, word_high_low]
  cases parseViews (t.views.flatMap ViewPart.encode ++ more) <;> rfl

theorem parseBody_encodeTelegram {t : Telegram} (h : t.partialView = false) :
    parseBody (encodeTelegram t) = .telegram t := by
  have happend := parseBody_encodeTelegram_append t []
  rw [List.append_nil, List.append_nil, parseViews_flatMap] at happend
  rw [happend, ← h]

end Sys2Proof.Machine

namespace Sys2Proof.Proofs
open Sys2Proof.Machine

/-- Settles O60, by reading each view back in front of those behind it. -/
theorem telegramsReadBack : Obligations.TelegramsReadBack :=
  ⟨fun _ => parseBody_encodeTelegram, fun _ => frameBody_frameOf⟩

end Sys2Proof.Proofs
end

section
/-! PROOFS. The bursts the receiver takes: good frames (O20), bad bursts (O21) and the own number (O22). -/

namespace Sys2Proof.Machine

/-! ### The characters of a burst -/

/-- Data bits from the least significant one on make the number whose bits they are. -/
theorem testBit_foldr (bits : List Bool) (i : Nat) :
    (bits.foldr (fun (bit : Bool) n => bit.toNat + 2 * n) 0).testBit i = bits[i]?.getD false := by
  induction bits generalizing i with
  | nil => simp
  | cons bit bits ih =>
    rw [List.foldr_cons]
    cases i with
    | zero => cases bit <;> simp
    | succ i =>
      have hhalf : ∀ n : Nat, (bit.toNat + 2 * n) / 2 = n := fun n => by
        have hbit := Bool.toNat_lt bit
        omega
      rw [Nat.testBit_succ, hhalf, ih]
      rfl

/-- A character carries its eight data bits, the least significant one first (R53). -/
theorem CharBits.value_getLsbD (c : CharBits) (i : Fin 8) : c.value.getLsbD i = c.data[i] := by
  rw [CharBits.value, BitVec.getLsbD_ofNat, testBit_foldr]
  simp

/-- The bits a station drives for a character carry it. -/
theorem charBits_value (c : Byte) : (charBits c).value = c := by
  refine BitVec.eq_of_getLsbD_eq fun i hi => ?_
  have h := CharBits.value_getLsbD (charBits c) ⟨i, hi⟩
  have hdata : (charBits c).data[i] = c.getLsbD i := by
    rw [BitVec.getLsbD_eq_getElem hi]
    simp [charBits]
  exact h.trans hdata

/-- The characters that a burst carries. -/
def burstValues (burst : List LineChar) : List Byte := burst.map (·.bits.value)

/-- A character of the burst has no stop bit at the idle level. -/
def burstErrs (burst : List LineChar) : Bool := burst.any (·.bits.framingError)

theorem burstErrs_eq_false {burst : List LineChar} : burstErrs burst = false ↔ ∀ c ∈ burst, c.bits.stop = .idle := by
  simp [burstErrs, CharBits.framingError]

theorem foldl_skipping (burst : List LineChar) {r : Receiver} (h : r.state = .skipping) :
    burst.foldl takeCharacter r = r := by
  induction burst with
  | nil => rfl
  | cons c burst ih =>
    have htake : takeCharacter r c = r := by simp only [takeCharacter, h]
    rw [List.foldl_cons, htake, ih]

/-- Assembly: the buffer takes the characters up to 68, and an error of any of them stays (R55). -/
theorem foldl_assembling (burst : List LineChar) : ∀ r : Receiver, r.state = .assembling → r.buffer.length ≤ 68 →
    burst.foldl takeCharacter r = { r with
      buffer := (r.buffer ++ burstValues burst).take 68
      overlong := r.overlong || decide (68 < r.buffer.length + burst.length)
      framingError := r.framingError || burstErrs burst } := by
  induction burst with
  | nil =>
    intro r hstate hlength
    have htake : r.buffer.take 68 = r.buffer := List.take_of_length_le hlength
    simp [burstValues, burstErrs, htake, Nat.not_lt.mpr hlength]
  | cons c burst ih =>
    intro r hstate hlength
    by_cases hroom : r.buffer.length < 68
    · have htake : takeCharacter r c = { r with
          framingError := r.framingError || c.bits.framingError, buffer := r.buffer ++ [c.bits.value] } := by
        simp only [takeCharacter, hstate, if_pos hroom]
      have hrest := ih (takeCharacter r c) (by rw [htake]; exact hstate)
        (by rw [htake]; simpa using Nat.succ_le_of_lt hroom)
      rw [List.foldl_cons, hrest, htake]
      simp [burstValues, burstErrs, Bool.or_assoc, Nat.add_assoc, Nat.add_comm 1]
    · have htake : takeCharacter r c = { r with framingError := r.framingError || c.bits.framingError, overlong := true } := by
        simp only [takeCharacter, hstate, if_neg hroom]
      have hfull : r.buffer.length = 68 := by omega
      have hrest := ih (takeCharacter r c) (by rw [htake]; exact hstate) (by rw [htake]; exact hlength)
      rw [List.foldl_cons, hrest, htake]
      simp [burstErrs, hfull, Bool.or_assoc]

/-! ### The judgement of a burst -/

/-- The body found in a frame is one whose frame it is. -/
theorem frameBody_some {frame body : List Byte} (h : frameBody frame = some body) :
    1 ≤ body.length ∧ body.length ≤ 64 ∧ frame = frameOf body := by
  unfold frameBody at h
  split at h
  next first len rest =>
    dsimp only at h
    split at h
    next hframe =>
      obtain ⟨rfl, h1, h64, hlength, hcrc⟩ := hframe
      cases h
      have htake : (rest.take len.toNat).length = len.toNat := by rw [List.length_take]; omega
      have hlen : char8 (rest.take len.toNat).length = len := by rw [htake]; simp [char8]
      refine ⟨by omega, by omega, ?_⟩
      rw [frameOf, hlen, ← hcrc]
      simp
    next => cases h
  next => cases h

theorem frameBody_none {frame : List Byte}
    (h : ∀ body : List Byte, 1 ≤ body.length → body.length ≤ 64 → frame ≠ frameOf body) : frameBody frame = none := by
  cases hbody : frameBody frame with
  | none => rfl
  | some body =>
    obtain ⟨h1, h64, hframe⟩ := frameBody_some hbody
    exact absurd hframe (h body h1 h64)

/-- What the receiver has made of a burst that began in WAITING (R55, R56). -/
def Receiver.afterBurst (burst : List LineChar) (r : Receiver) : Receiver := (burst.foldl takeCharacter r).toWaiting

/-- A whole frame without an error is a valid one, and leaves it in the buffer. -/
theorem judgeBurst_good {burst : List LineChar} {body : List Byte} {r : Receiver} (hstate : r.state = .waiting)
    (hidle : r.idleSeen = true) (h1 : 1 ≤ body.length) (h64 : body.length ≤ 64) (hvalues : burstValues burst = frameOf body)
    (hstops : ∀ c ∈ burst, c.bits.stop = .idle) :
    judgeBurst (burst.foldl takeCharacter r) = .valid body ∧
    r.afterBurst burst = { r with
      state := .waiting, badFirst := false, overlong := false, framingError := false, buffer := frameOf body } := by
  have herrs := burstErrs_eq_false.mpr hstops
  have hlength : (frameOf body).length ≤ 68 := by
    simp only [frameOf, List.length_cons, List.length_append, chars16, List.length_nil]
    omega
  have hburst : burst.length = (frameOf body).length := by rw [← hvalues, burstValues, List.length_map]
  cases burst with
  | nil => cases hvalues
  | cons c burst =>
    obtain ⟨hc, hrest⟩ : c.bits.framingError = false ∧ burstErrs burst = false := Bool.or_eq_false_iff.mp herrs
    have hsync : c.bits.value = sync := (List.cons.inj hvalues).1
    have htake : takeCharacter r c = { r with
        state := .assembling, buffer := [c.bits.value], overlong := false, framingError := false, badFirst := false } := by
      simp only [takeCharacter, hstate, if_pos (And.intro hsync hc)]
    have hfold : (c :: burst).foldl takeCharacter r = { r with
        state := .assembling, buffer := frameOf body, overlong := false, framingError := false, badFirst := false } := by
      rw [List.foldl_cons, htake, foldl_assembling burst _ rfl (by simp), ← hvalues]
      have hvalues68 : (burstValues (c :: burst)).take 68 = burstValues (c :: burst) :=
        List.take_of_length_le (hvalues ▸ hlength)
      have hshort : ¬68 < 1 + burst.length := by rw [List.length_cons] at hburst; omega
      have hbuffer : [c.bits.value] ++ burstValues burst = burstValues (c :: burst) := rfl
      simp only [hbuffer, hvalues68, hrest, Bool.or_false, List.length_singleton, decide_eq_false hshort]
    rw [Receiver.afterBurst, hfold]
    refine ⟨?_, ?_⟩
    · simp [judgeBurst, frameBody_frameOf h1 h64]
    · simp [Receiver.toWaiting, hidle]

/-- A burst that is no whole frame, or has an error, is an invalid one (R56). -/
theorem judgeBurst_bad {burst : List LineChar} {r : Receiver} (hstate : r.state = .waiting) (hburst : burst ≠ [])
    (hbad : burstErrs burst = true ∨ frameBody (burstValues burst) = none) :
    judgeBurst (burst.foldl takeCharacter r) = .invalid := by
  cases burst with
  | nil => exact absurd rfl hburst
  | cons c burst =>
    rw [List.foldl_cons]
    by_cases hfirst : c.bits.value = sync ∧ c.bits.framingError = false
    · have htake : takeCharacter r c = { r with
          state := .assembling, buffer := [c.bits.value], overlong := false, framingError := false, badFirst := false } := by
        simp only [takeCharacter, hstate, if_pos hfirst]
      have herrs : burstErrs (c :: burst) = burstErrs burst := by simp [burstErrs, hfirst.2]
      rw [htake, foldl_assembling burst _ rfl (by simp)]
      rw [herrs] at hbad
      by_cases hlong : 68 < 1 + burst.length
      · simp [judgeBurst, hlong]
      · have hbuffer : ([c.bits.value] ++ burstValues burst).take 68 = burstValues (c :: burst) :=
          List.take_of_length_le (by simp only [burstValues, List.length_append, List.length_singleton, List.length_map]; omega)
        obtain h | h := hbad
        · simp [judgeBurst, h]
        · simp only [judgeBurst, hbuffer, h, ite_self]
    · have htake : takeCharacter r c = { r with state := .skipping, badFirst := true } := by
        simp only [takeCharacter, hstate, if_neg hfirst]
      rw [htake, foldl_skipping burst rfl]
      rfl

/-! ### A burst in the line -/

/-- A start bit ends a slot delay (R63). -/
def Transmitter.deferred (t : Transmitter) : Transmitter :=
  match t with
  | .slotDelay _ => .awaitIdle
  | other => other

theorem Line.defer_eq (l : Line) : l.defer = { l with transmitter := l.transmitter.deferred } := by
  unfold Line.defer
  cases h : l.transmitter <;> simp [Transmitter.deferred, ← h]

/-- The line at the end of a burst, with what the receiver has made of it. -/
def Line.afterBurst (ended : Tick) (r : Receiver) (l : Line) : Line :=
  { l with receiver := r, quietSince := some ended, transmitter := l.transmitter.deferred }

theorem State.pass_zero (s : State) (dt : Nat) : (s.wait dt).pass 0 = s.pass dt := by
  simp [State.pass, State.wait, Lanes.wait]

/-- A burst is taken on the line as it stands, its verdict at its end. -/
theorem exec_burst {dt : Nat} {s : State} {burst : List LineChar} (hconnected : s.line.connected = true)
    (hdriving : ∀ since, s.line.transmitter ≠ .driving since) (hburst : burst ≠ []) :
    exec (.receptionIdle dt burst) s = .next (finish (s.pass dt) (endBurst burst (s.pass dt))) := by
  have hempty : burst.isEmpty = false := by simpa using hburst
  have hexec : exec (.receptionIdle dt burst) s =
      onInput 0 (if burst.isEmpty then (s.wait dt).upTo (quietDue (s.wait dt)) else s.wait dt) (idleArises burst)
        (effect (.receptionIdle dt burst)) := rfl
  obtain ⟨_, _, _, hpass⟩ := pass_eq s dt
  have harises : idleArises burst ((s.wait dt).pass 0) = true := by
    rw [State.pass_zero, hpass]
    simp [idleArises, hconnected, isDriving_of_not hdriving, hburst]
  have heffect : effect (.receptionIdle dt burst) (s.pass dt) = endBurst burst (s.pass dt) :=
    if_neg (by rw [hempty]; nofun)
  rw [hexec, if_neg (by rw [hempty]; nofun), onInput_arises harises, State.pass_zero, heffect]

/-- A receiver that has seen reception idle begins a burst as it is, or in WAITING. -/
theorem beforeBurst_waiting {r : Receiver} (hidle : r.idleSeen = true) (idleBefore : Bool) :
    r.beforeBurst idleBefore = r ∨ r.beforeBurst idleBefore = r.toWaiting := by
  cases idleBefore with
  | true => exact .inr rfl
  | false => exact .inl (by simp [Receiver.beforeBurst, hidle])

theorem endBurst_good {burst : List LineChar} {body : List Byte} {w : State} (hstate : w.line.receiver.state = .waiting)
    (hidle : w.line.receiver.idleSeen = true) (h1 : 1 ≤ body.length) (h64 : body.length ≤ 64)
    (hvalues : burstValues burst = frameOf body) (hstops : ∀ c ∈ burst, c.bits.stop = .idle) : endBurst burst w =
    receiveFrame body { w with
      line := w.line.afterBurst (w.now - 4) { w.line.receiver with
        state := .waiting, badFirst := false, overlong := false, framingError := false, buffer := frameOf body } } := by
  have hburst : ∀ r : Receiver, r = w.line.receiver ∨ r = w.line.receiver.toWaiting →
      judgeBurst (burst.foldl takeCharacter r) = .valid body ∧ r.afterBurst burst = { w.line.receiver with
        state := .waiting, badFirst := false, overlong := false, framingError := false, buffer := frameOf body } := by
    intro r hr
    have hready : r.state = .waiting ∧ r.idleSeen = true := by
      obtain rfl | rfl := hr
      · exact ⟨hstate, hidle⟩
      · exact ⟨rfl, rfl⟩
    obtain ⟨hjudged, hafter⟩ := judgeBurst_good hready.1 hready.2 h1 h64 hvalues hstops
    refine ⟨hjudged, hafter.trans ?_⟩
    obtain rfl | rfl := hr
    · rfl
    · simp [Receiver.toWaiting, hidle]
  obtain ⟨hjudged, hafter⟩ := hburst _ (beforeBurst_waiting hidle (idleBeforeBurst w.now burst w.line.quietSince))
  rw [Receiver.afterBurst] at hafter
  simp only [endBurst, hjudged, hafter, Line.defer_eq]
  rfl

theorem endBurst_bad {burst : List LineChar} {w : State} (hstate : w.line.receiver.state = .waiting)
    (hidle : w.line.receiver.idleSeen = true) (hburst : burst ≠ [])
    (hbad : burstErrs burst = true ∨ frameBody (burstValues burst) = none) : ∃ r : Receiver, endBurst burst w =
    { w with line := { w.line.afterBurst (w.now - 4) r.toWaiting with
      framesBad := min 65535 (w.line.framesBad + 1) } } := by
  have hwaiting : (w.line.receiver.beforeBurst (idleBeforeBurst w.now burst w.line.quietSince)).state = .waiting := by
    obtain h | h := beforeBurst_waiting hidle (idleBeforeBurst w.now burst w.line.quietSince) <;> rw [h]
    · exact hstate
    · rfl
  refine ⟨burst.foldl takeCharacter (w.line.receiver.beforeBurst (idleBeforeBurst w.now burst w.line.quietSince)), ?_⟩
  simp only [endBurst, judgeBurst_bad hwaiting hburst hbad, Line.defer_eq]
  rfl

/-! ### What a body is -/

theorem length_encodeView (v : ViewPart) : (ViewPart.encode v).length = v.length := by
  cases hdemand : v.demand <;> simp [ViewPart.encode, ViewPart.length, DemandPart.encode, chars16, hdemand]

theorem length_encodeTelegram {t : Telegram} (h : t.partialView = false) : (encodeTelegram t).length = t.length := by
  have hviews : (t.views.flatMap ViewPart.encode).length = (t.views.map ViewPart.length).sum := by
    simp [List.length_flatMap, length_encodeView]
  simp only [encodeTelegram, List.length_append, hviews, Telegram.length, h]
  simp [bodyHeader, lineMark, chars16]

theorem senderField_encodeTelegram (t : Telegram) : senderField (encodeTelegram t) = some t.sender := by
  simp [senderField, encodeTelegram, bodyHeader, lineMark]

theorem not_isOwnNumber {s : State} {body : List Byte}
    (h : body.take 3 = [75, 157, 38] → ∀ sender, body[4]? = some sender → sender.toNat = s.own → s.ownNumberArmed = false) :
    isOwnNumber s body = false := by
  by_cases hmark : body.take 3 = [75, 157, 38]
  · have hfield : senderField body = body[4]? := if_pos hmark
    rw [isOwnNumber, hfield]
    cases hsender : body[4]? with
    | none => rfl
    | some sender =>
      by_cases hown : sender.toNat = s.own
      · simp [h hmark sender hsender hown]
      · simp [hown]
  · have hfield : senderField body = none := if_neg hmark
    rw [isOwnNumber, hfield]

theorem parseBody_unmarked {body : List Byte} (h : body.take 3 ≠ [75, 157, 38]) : parseBody body = .unlisted := if_neg h

/-- A body with the line mark, read by what follows the mark (R181). -/
theorem parseBody_mark (rest : List Byte) : parseBody (75 :: 157 :: 38 :: rest) = match rest with
    | kind :: sender :: target :: fields =>
      if kind = 1 ∧ target = 0 then parseTelegram sender fields
      else if kind = 2 ∧ sender = 31 then
        match fields with
        | [queryKind, parameter] => .query target queryKind parameter
        | _ => .unlisted
      else if kind = 3 then .answer
      else .unlisted
    | kind :: _ => if kind = 3 then .answer else .unlisted
    | [] => .unlisted := rfl

theorem marked_of_parseBody {body : List Byte} (h : parseBody body ≠ .unlisted) :
    ∃ rest, body = 75 :: 157 :: 38 :: rest := by
  by_cases hmark : body.take 3 = [75, 157, 38]
  · exact ⟨body.drop 3, (List.take_append_drop 3 body).symm.trans (congrArg (· ++ body.drop 3) hmark)⟩
  · exact absurd (parseBody_unmarked hmark) h

/-- The form of what is read as a telegram after the header (R181). -/
theorem parseTelegram_form {sender : Byte} {fields : List Byte} {b : Body} (h : parseTelegram sender fields = b) :
    b = .unlisted ∨ ∃ tel, b = .telegram tel ∧ tel.sender = sender ∧ 8 ≤ fields.length ∧
      ∃ status, fields[2]? = some status ∧ headStatusOf status = some tel.status := by
  subst h
  unfold parseTelegram
  split
  next q1 q0 status x1 x0 y1 y0 count views =>
    split
    next st vs more hstatus hviews => exact .inr ⟨_, rfl, rfl, by simp, status, rfl, hstatus⟩
    next => exact .inl rfl
  next => exact .inl rfl

/-- The form of a body that is read as a telegram or as a query (R181). -/
theorem parseBody_form (body : List Byte) : parseBody body = .unlisted ∨ parseBody body = .answer ∨
    (body.take 3 = [75, 157, 38] ∧ body[3]? = some 1 ∧ body[5]? = some 0 ∧ 14 ≤ body.length ∧
      ∃ tel, parseBody body = .telegram tel ∧ body[4]? = some tel.sender ∧
        ∃ status, body[8]? = some status ∧ headStatusOf status = some tel.status) ∨
    (body.take 3 = [75, 157, 38] ∧ body[3]? = some 2 ∧ body[4]? = some 31 ∧ body.length = 8 ∧
      ∃ target kind parameter, parseBody body = .query target kind parameter ∧ body[5]? = some target) := by
  by_cases hunlisted : parseBody body = .unlisted
  · exact .inl hunlisted
  obtain ⟨rest, rfl⟩ := marked_of_parseBody hunlisted
  have hparse := parseBody_mark rest
  split at hparse
  next kind sender target fields =>
    split at hparse
    next hkind =>
      obtain ⟨rfl, rfl⟩ := hkind
      obtain h | ⟨tel, h, rfl, hlength, status, hstatus, hcode⟩ := parseTelegram_form hparse.symm
      · exact .inl h
      · exact .inr (.inr (.inl ⟨rfl, rfl, rfl, by simpa using hlength, tel, h, rfl, status, hstatus, hcode⟩))
    next =>
      split at hparse
      next hkind =>
        obtain ⟨rfl, rfl⟩ := hkind
        split at hparse
        next queryKind parameter =>
          exact .inr (.inr (.inr ⟨rfl, rfl, rfl, rfl, target, queryKind, parameter, hparse, rfl⟩))
        next => exact .inl hparse
      next =>
        split at hparse
        · exact .inr (.inl hparse)
        · exact .inl hparse
  next =>
    split at hparse
    · exact .inr (.inl hparse)
    · exact .inl hparse
  next => exact .inl hparse

/-- A flags character above 3 makes the rest no views (R181). -/
theorem parseViews_of_flags {more : List Byte} {flags : Byte} (hflags : more[3]? = some flags) (h : 4 ≤ flags.toNat) :
    parseViews more = none := by
  have hrange : 3 < flags.toNat := h
  rcases more with _ | ⟨_, _ | ⟨_, _ | ⟨_, _ | ⟨f, rest⟩⟩⟩⟩
  case cons.cons.cons.cons =>
    obtain rfl : f = flags := Option.some.inj hflags
    rcases rest with _ | ⟨_, _ | ⟨_, rest⟩⟩
    · rw [parseViews, if_pos hrange]
    · rw [parseViews, if_pos hrange]
    · rw [parseViews.eq_def]
      exact if_pos hrange
  all_goals cases hflags

theorem parseViews_flatMap_append (views : List ViewPart) (more : List Byte) :
    parseViews (views.flatMap ViewPart.encode ++ more) = (parseViews more).map fun p => (views ++ p.1, p.2) := by
  induction views with
  | nil =>
    rw [List.flatMap_nil, List.nil_append]
    cases parseViews more <;> rfl
  | cons v views ih =>
    rw [List.flatMap_cons, List.append_assoc, parseViews_encode, ih]
    cases parseViews more <;> rfl

/-- A telegram's body followed by what are no views is none (R181). -/
theorem parseBody_of_flags {tel : Telegram} {more : List Byte} {flags : Byte} (hflags : more[3]? = some flags)
    (h : 4 ≤ flags.toNat) : parseBody (encodeTelegram tel ++ more) = .unlisted := by
  rw [parseBody_encodeTelegram_append, parseViews_flatMap_append, parseViews_of_flags hflags h]
  rfl

theorem headStatusOf_none {status : Byte} (h : status = 0 ∨ 6 ≤ status.toNat) : headStatusOf status = none := by
  unfold headStatusOf
  obtain rfl | h := h
  · rfl
  · split <;> first | rfl | omega

/-- The valid frames that are ignored (R57). -/
def Ignored (s : State) (body : List Byte) : Prop :=
  body.take 3 ≠ [75, 157, 38] ∨
  (body[3]? ≠ some 1 ∧ body[3]? ≠ some 2) ∨
  (body[3]? = some 1 ∧
    (body.length < 14 ∨ body[5]? ≠ some 0 ∨ (∀ status, body[8]? = some status → status = 0 ∨ 6 ≤ status.toNat) ∨
      (∀ sender, body[4]? = some sender → s.peer? sender.toNat = none) ∨
      ∃ (tel : Telegram) (more : List Byte) (flags : Byte),
        body = encodeTelegram tel ++ more ∧ more[3]? = some flags ∧ 4 ≤ flags.toNat)) ∨
  (body[3]? = some 2 ∧
    (body.length ≠ 8 ∨ body[4]? ≠ some 31 ∨ (∀ target, body[5]? = some target → target.toNat ≠ s.own) ∨
      (s.phase ≠ .run ∧ s.lockdown = false)))

theorem Ignored.handedOn {s : State} {body : List Byte} (h : Ignored s body) : handedOn s body = none := by
  obtain hform | hform | ⟨hmark, hkind, htarget, hlength, tel, hparse, hsender, status, hstatus, hcode⟩ |
    ⟨hmark, hkind, hsender, hlength, target, kind, parameter, hparse, htarget⟩ := parseBody_form body
  · simp only [Machine.handedOn, hform]
  · simp only [Machine.handedOn, hform]
  · have hpeer : s.peer? tel.sender.toNat = none := by
      obtain h | ⟨h, -⟩ | ⟨-, h | h | h | h | ⟨_, more, flags, rfl, hmore, hflags⟩⟩ | ⟨h, -⟩ := h
      · exact absurd hmark h
      · exact absurd hkind h
      · omega
      · exact absurd htarget h
      · rw [headStatusOf_none (h status hstatus)] at hcode
        cases hcode
      · exact h _ hsender
      · rw [parseBody_of_flags hmore hflags] at hparse
        cases hparse
      · rw [hkind] at h
        cases h
    simp only [Machine.handedOn, hparse, hpeer]
    rfl
  · have hquery : ¬(target.toNat = s.own ∧ s.takesQueries = true) := by
      rintro ⟨hown, htakes⟩
      obtain h | ⟨-, h⟩ | ⟨h, -⟩ | ⟨-, h | h | h | ⟨hrun, hlockdown⟩⟩ := h
      · exact h hmark
      · exact h hkind
      · rw [hkind] at h
        cases h
      · exact h hlength
      · exact h hsender
      · exact h target htarget hown
      · simp [State.takesQueries, hlockdown, hrun] at htakes
    simp only [Machine.handedOn, hparse, if_neg hquery]

/-- What an event ends with leaves the record of a lockdown, the frames that wait and the slots. -/
theorem Ends.and_kept {u t : State} (h : Ends u t) :
    Ends u t ∧ t.lockdownRecord = u.lockdownRecord ∧ t.handed = u.handed ∧ t.slots = u.slots :=
  ⟨h, congrArg (·.lockdownRecord) h.rest, congrArg (·.handed) h.rest, congrArg (·.slots) h.rest⟩

/-! ### A bad burst in the line -/

theorem exec_badBurst (dt : Nat) {s : State} {burst : List LineChar} (hconnected : s.line.connected = true)
    (hdriving : ∀ since, s.line.transmitter ≠ .driving since) (hstate : s.line.receiver.state = .waiting)
    (hidle : s.line.receiver.idleSeen = true) (hburst : burst ≠ [])
    (hbad : burstErrs burst = true ∨ frameBody (burstValues burst) = none) : ∃ (t : State) (r : Receiver),
    exec (.receptionIdle dt burst) s = .next t ∧
      Ends { s with
        now := s.now + dt
        line := { s.line.afterBurst (s.now + dt - 4) r.toWaiting with
          framesBad := min 65535 (s.line.framesBad + 1) } } t := by
  obtain ⟨_, _, _, hpass⟩ := pass_eq s dt
  have hline : (s.pass dt).line = s.line := by rw [hpass]
  obtain ⟨r, hend⟩ := endBurst_bad (by rw [hline]; exact hstate) (by rw [hline]; exact hidle) hburst hbad
  rw [exec_burst hconnected hdriving hburst, hend, hpass]
  exact ⟨_, r, rfl, (finish_ends _ _).of_lanes rfl⟩

/-! ### A whole frame in the line -/

/-- The receiver after a whole frame without an error. -/
def Receiver.afterFrame (body : List Byte) (r : Receiver) : Receiver :=
  { r with state := .waiting, badFirst := false, overlong := false, framingError := false, buffer := frameOf body }

theorem isOwnNumber_of_line {s w : State} (body : List Byte) (hconfig : w.config = s.config) (hphase : w.phase = s.phase)
    (hlockdown : w.lockdown = s.lockdown) : isOwnNumber w body = isOwnNumber s body := by
  simp only [isOwnNumber, State.own, State.ownNumberArmed, hconfig, hphase, hlockdown]

/-- A whole frame without an error is received as its body. -/
theorem exec_frame {dt : Nat} {s : State} {burst : List LineChar} {body : List Byte} (hconnected : s.line.connected = true)
    (hdriving : ∀ since, s.line.transmitter ≠ .driving since) (hstate : s.line.receiver.state = .waiting)
    (hidle : s.line.receiver.idleSeen = true) (h1 : 1 ≤ body.length) (h64 : body.length ≤ 64)
    (hvalues : burstValues burst = frameOf body) (hstops : ∀ c ∈ burst, c.bits.stop = .idle) :
    exec (.receptionIdle dt burst) s = .next (finish (s.pass dt) (receiveFrame body { s.pass dt with
      line := s.line.afterBurst (s.now + dt - 4) (s.line.receiver.afterFrame body) })) := by
  have hburst : burst ≠ [] := by
    rintro rfl
    cases hvalues
  obtain ⟨_, _, _, hpass⟩ := pass_eq s dt
  have hline : (s.pass dt).line = s.line := by rw [hpass]
  rw [exec_burst hconnected hdriving hburst, endBurst_good
    (by rw [hline]; exact hstate) (by rw [hline]; exact hidle) h1 h64 hvalues hstops, hline]
  rfl

/-- A frame without the own number is handed on as what it is, or ignored. -/
theorem frame_handedOn {dt : Nat} {s : State} {burst : List LineChar} {body : List Byte} (hconnected : s.line.connected = true)
    (hdriving : ∀ since, s.line.transmitter ≠ .driving since) (hstate : s.line.receiver.state = .waiting)
    (hidle : s.line.receiver.idleSeen = true) (h1 : 1 ≤ body.length) (h64 : body.length ≤ 64)
    (hvalues : burstValues burst = frameOf body) (hstops : ∀ c ∈ burst, c.bits.stop = .idle)
    (hother : isOwnNumber s body = false) : ∃ t, exec (.receptionIdle dt burst) s = .next t ∧
      Ends { s with
        now := s.now + dt, handed := s.handed ++ (handedOn s body).toList
        line := { s.line.afterBurst (s.now + dt - 4) (s.line.receiver.afterFrame body) with
          framesGood := min 65535 (s.line.framesGood + 1) } } t := by
  refine ⟨_, exec_frame hconnected hdriving hstate hidle h1 h64 hvalues hstops, ?_⟩
  obtain ⟨_, _, _, hpass⟩ := pass_eq s dt
  have hreceive : ∀ w : State, w.handed = s.handed → isOwnNumber w body = isOwnNumber s body → handedOn w body = handedOn s body →
      receiveFrame body w = { w with
        handed := s.handed ++ (handedOn s body).toList
        line := { w.line with framesGood := min 65535 (w.line.framesGood + 1) } } := by
    intro w hhanded hown hbody
    rw [receiveFrame, if_neg (by rw [hown, hother]; nofun), hbody, ← hhanded]
    rfl
  rw [hreceive _ (by rw [hpass]) (isOwnNumber_of_line body (by rw [hpass]) (by rw [hpass]) (by rw [hpass]))
    (by rw [hpass]; rfl), hpass]
  exact (finish_ends _ _).of_lanes rfl

end Sys2Proof.Machine

namespace Sys2Proof.Proofs
open Sys2Proof.Machine

/-- Settles O20: a whole frame is found in its burst, and its body is handed on by its form. -/
theorem goodFramesAreHandedOn : Obligations.GoodFramesAreHandedOn := by
  refine ⟨?telegram, ?query, ?ignored, fun c => CharBits.value_getLsbD c.bits⟩
  case telegram =>
    intro dt s tel r burst hconnected hdriving hstate hidle hpartial hfits hpeer hsender hvalues hstops
    have hlength := length_encodeTelegram hpartial
    have hother : isOwnNumber s (encodeTelegram tel) = false := by
      simp [isOwnNumber, senderField_encodeTelegram, hsender]
    have hhanded : handedOn s (encodeTelegram tel) = some (.telegram tel) := by
      simp only [handedOn, parseBody_encodeTelegram hpartial, hpeer]
      rfl
    have h := frame_handedOn hconnected hdriving hstate hidle (by rw [hlength, Telegram.length]; omega)
      (by rw [hlength]; exact hfits) hvalues hstops hother (dt := dt)
    rw [hhanded] at h
    exact h
  case query =>
    intro dt s target kind parameter burst hconnected hdriving hstate hidle hconfigured hphase htarget hown hvalues hstops
    have hother : isOwnNumber s [75, 157, 38, 2, 31, target, kind, parameter] = false := by
      simp [isOwnNumber, senderField, lineMark, Ne.symm hown]
    have htakes : s.takesQueries = true := by
      simp only [State.takesQueries, hconnected, hconfigured]
      obtain h | h := hphase <;> simp [h]
    have hhanded : handedOn s [75, 157, 38, 2, 31, target, kind, parameter] = some (.query kind parameter) := by
      have hparse : parseBody [75, 157, 38, 2, 31, target, kind, parameter] = .query target kind parameter := rfl
      simp only [handedOn, hparse, if_pos (And.intro htarget htakes)]
    have h := frame_handedOn hconnected hdriving hstate hidle (by simp) (by simp) hvalues hstops hother (dt := dt)
    rw [hhanded] at h
    exact h
  case ignored =>
    intro dt s body burst hconnected hdriving hstate hidle h1 h64 hvalues hstops hunarmed hignored
    have hother : isOwnNumber s body = false := not_isOwnNumber fun hmark sender hsender hown => by
      obtain ⟨hsilence, hrun, hlockdown⟩ := hunarmed hmark sender hsender hown
      simp [State.ownNumberArmed, hsilence, hrun, hlockdown]
    have hhanded : handedOn s body = none := Ignored.handedOn hignored
    have h := frame_handedOn hconnected hdriving hstate hidle h1 h64 hvalues hstops hother (dt := dt)
    rw [hhanded, Option.toList_none, List.append_nil] at h
    exact h

/-- Settles O21: what is no frame of a body has no body found in it. -/
theorem badBurstsAreCounted : Obligations.BadBurstsAreCounted := by
  intro dt s burst hconnected hdriving hstate hidle hburst hbad
  have hinvalid : burstErrs burst = true ∨ frameBody (burstValues burst) = none :=
    hbad.imp (fun ⟨c, hc, hstop⟩ => by
      rw [← Bool.not_eq_false, burstErrs_eq_false]
      exact fun h => hstop (h c hc)) frameBody_none
  obtain ⟨t, r, hexec, hends⟩ := exec_badBurst dt hconnected hdriving hstate hidle hburst hinvalid
  have hreceiver : t.line.receiver = r.toWaiting := congrArg (·.line.receiver) hends.rest
  refine ⟨t, hexec, ?_⟩
  rw [hreceiver]
  exact hends

/-- Settles O22: the own number is judged on the sender field, before the frame is handed on. -/
theorem ownNumberLocksDown : Obligations.OwnNumberLocksDown := by
  intro dt s body sender hconnected hdriving hstate hidle harmed h1 h64 hmark hsender hown
  have hvalues : burstValues ((frameOf body).map fun c => { gap := 0, bits := charBits c }) = frameOf body := by
    rw [burstValues, List.map_map]
    exact (List.map_congr_left fun c _ => charBits_value c).trans (List.map_id _)
  have hstops : ∀ c ∈ (frameOf body).map fun c => ({ gap := 0, bits := charBits c } : LineChar), c.bits.stop = .idle := by
    intro c hc
    obtain ⟨_, -, rfl⟩ := List.mem_map.mp hc
    rfl
  have hownNumber : isOwnNumber s body = true := by
    have hfield : senderField body = body[4]? := if_pos hmark
    have harm : s.ownNumberArmed = true := by
      obtain h | h | h := harmed <;> simp [State.ownNumberArmed, h]
    simp [isOwnNumber, hfield, hsender, hown, harm]
  have hexec := exec_frame hconnected hdriving hstate hidle h1 h64 hvalues hstops (dt := dt)
  obtain ⟨_, _, _, hpass⟩ := pass_eq s dt
  have hreceive : ∀ w : State, isOwnNumber w body = isOwnNumber s body → receiveFrame body w = enterLockdown .duplicateStation
      { w with line := { w.line with framesGood := min 65535 (w.line.framesGood + 1) } } := by
    intro w h
    exact if_pos (h.trans hownNumber)
  rw [hreceive _ (isOwnNumber_of_line body (by rw [hpass]) (by rw [hpass]) (by rw [hpass])), hpass] at hexec
  refine ⟨_, _, hexec, rfl, fun hunlocked => ?_, fun hlockdown => ?_⟩
  · exact (enterLockdown_enters (by exact hunlocked)).of_lanes rfl
  · rw [enterLockdown_of_lockdown (by exact hlockdown)]
    exact ((finish_ends _ _).of_lanes rfl).and_kept

end Sys2Proof.Proofs
end

section
/-! PROOFS. Accepted telegrams in the Peer Table (O28) and discarded ones (O29). -/

namespace Sys2Proof.Machine

/-! ### The judgement of a telegram -/

/-- A telegram with a number that its record holds already, the peer not LOST, is a duplicate (R89). -/
def Repeats (r : PeerRecord) (tel : Telegram) : Prop :=
  (r.state = .fresh ∨ r.state = .stale) ∧ r.lastSequence = some tel.sequence

theorem repeats_iff {r : PeerRecord} {tel : Telegram} :
    Repeats r tel ↔ judgeSequence r tel.sequence = .duplicate := by
  have hheard : r.state = .fresh ∨ r.state = .stale ↔ r.state ≠ .unheard ∧ r.state ≠ .lost := by
    cases r.state <;> simp
  rw [Repeats, hheard]
  unfold judgeSequence
  split
  next hunheard => simp [hunheard]
  next hheard =>
    split
    next hduplicate => simp [hheard, hduplicate]
    next hnew =>
      refine iff_of_false (fun h => hnew ⟨h.1.2, h.2⟩) ?_
      split
      · nofun
      · split <;> nofun

theorem judgeSequence_restart_iff {r : PeerRecord} {tel : Telegram} (h : ¬Repeats r tel) :
    judgeSequence r tel.sequence = .restart ↔ r.state ≠ .unheard ∧ tel.sequence = 0 := by
  rw [repeats_iff] at h
  unfold judgeSequence at h ⊢
  split
  next hunheard => simp [hunheard]
  next hheard =>
    split
    next hduplicate => simp [hheard, hduplicate] at h
    next =>
      split
      next hzero => simp [hheard, hzero]
      next hnonzero => split <;> exact iff_of_false nofun fun h => hnonzero h.2

theorem judgeSequence_gap_iff {r : PeerRecord} {tel : Telegram} (h : ¬Repeats r tel) :
    judgeSequence r tel.sequence = .gap ↔ r.state ≠ .unheard ∧ tel.sequence ≠ 0 ∧
      r.lastSequence.map (fun n => if n = 65535 then 1 else n + 1) ≠ some tel.sequence := by
  have hsuccessor : r.lastSequence.map (fun n => if n = 65535 then 1 else n + 1) = r.lastSequence.map successor := rfl
  rw [hsuccessor]
  rw [repeats_iff] at h
  unfold judgeSequence at h ⊢
  split
  next hunheard => simp [hunheard]
  next hheard =>
    split
    next hduplicate => simp [hheard, hduplicate] at h
    next => split <;> simp_all

/-! ### An accepted telegram on the line -/

/-- A part of an event that has been noticed shows in what every event ends with. -/
theorem Ends.of_notice {u t : State} {request : Bool} {lamps : Vector Lamp 4} {status : StatusLine} {alarm : Alarm}
    (h : Ends { u with
      builder := { u.builder with request := request }
      outputs := { u.outputs with lamps := lamps, status := status, alarm := alarm } } t) : Ends u t :=
  ⟨h.rest, h.slotKept, h.serviceKept⟩

/-- The state in which a telegram is taken. -/
def State.atTelegram (s : State) (dt : Nat) (tel : Telegram) : State := (s.takeHanded (.telegram tel)).pass dt

theorem atTelegram_eq (s : State) (dt : Nat) (tel : Telegram) : ∃ c x b d, s.atTelegram dt tel = { s with
    now := s.now + dt, handed := s.handed.erase (.telegram tel)
    lanes := { s.lanes with copy := c, time := x, behind := b, differing := d } } := by
  obtain ⟨c, b, d, hpass⟩ := pass_eq (s.takeHanded (.telegram tel)) dt
  exact ⟨c, _, b, d, hpass⟩

theorem exec_accepted {dt : Nat} {s : State} {tel : Telegram} {r : PeerRecord} (order : TakingOrder)
    (hconnected : s.line.connected = true) (hconfigured : s.configured = true) (hr : s.peer? tel.sender.toNat = some r)
    (hwell : wellFormedTelegram tel = true) (hnew : ¬Repeats r tel) :
    exec (.countTelegram dt tel order) s = .next (finish (s.atTelegram dt tel)
      (acceptTelegram r (judgeSequence r tel.sequence) tel order (s.atTelegram dt tel))) := by
  obtain ⟨_, _, _, _, hat⟩ := atTelegram_eq s dt tel
  have hr' : (s.atTelegram dt tel).peer? tel.sender.toNat = some r := by rw [hat]; exact hr
  rw [exec_countTelegram rfl hconnected hconfigured]
  change Host.Outcome.next (finish (s.atTelegram dt tel) (effect (.countTelegram dt tel order) (s.atTelegram dt tel))) = _
  rw [countTelegram_of_peer hr', judgeTelegram_of_accepted hwell (mt repeats_iff.mpr hnew)]

theorem accepted_ends (dt : Nat) (s : State) (tel : Telegram) (r : PeerRecord) (order : TakingOrder) (j : Judgement) (b : State) :
    Ends { s with
      now := s.now + dt, handed := s.handed.erase (.telegram tel)
      peers := acceptedPeers r j tel (s.atTelegram dt tel)
      slots := (acceptTelegram r j tel order (s.atTelegram dt tel)).slots }
      (finish b (acceptTelegram r j tel order (s.atTelegram dt tel))) := by
  obtain ⟨slots, request, lamps, status, alarm, haccept⟩ := acceptTelegram_eq r j tel order (s.atTelegram dt tel)
  obtain ⟨c, x, l, d, hat⟩ := atTelegram_eq s dt tel
  have hends := finish_ends b (acceptTelegram r j tel order (s.atTelegram dt tel))
  rw [haccept] at hends ⊢
  refine (Ends.of_notice (request := request) (lamps := lamps) (status := status) (alarm := alarm) ?_)
  refine hends.of_lanes (c := c) (x := x) (b := l) (e := s.lanes.events) (d := d) (by rw [hat])

/-! ### The last identities -/

theorem judge_lastIdentity (s : State) (changed : Bool) (sl : Slot) :
    (judge s changed sl).reset.lastIdentity = sl.reset.lastIdentity := by
  obtain ⟨_, _, _, h⟩ := judge_eq s changed sl
  rw [h]

theorem disturb_lastIdentity (cause : Cause) (time : Word32) (station : Nat) (sl : Slot) :
    (disturb cause time station sl).reset.lastIdentity = sl.reset.lastIdentity := by
  unfold disturb
  split <;> rfl

theorem takeTotals_lastIdentity (s : State) (evaluating : Bool) (sl : Slot) :
    (takeTotals s evaluating sl).reset.lastIdentity = sl.reset.lastIdentity := by
  unfold takeTotals
  dsimp only
  split
  · rw [disturb_lastIdentity, judge_lastIdentity]; rfl
  · rw [judge_lastIdentity]; rfl

theorem takeChanges_lastIdentity (before after : PeerRecord) (s : State) (evaluating : Bool) (sl : Slot) :
    (takeChanges before after s evaluating sl).reset.lastIdentity = sl.reset.lastIdentity := by
  unfold takeChanges
  split
  · exact takeTotals_lastIdentity ..
  · exact judge_lastIdentity ..

theorem setAgreement_lastIdentity (s : State) (demand : Demand) (members : List Nat) (sl : Slot) :
    (setAgreement s demand members sl).reset.lastIdentity = sl.reset.lastIdentity := by
  obtain ⟨-, h⟩ | ⟨-, h⟩ := setAgreement_cases s demand members sl <;> rw [h]
  exact judge_lastIdentity ..

/-- A demand adopted is another one than the last, and is the last from then on (R138). -/
theorem judgeAdoption_lastIdentity (s : State) (sender : Nat) (d : ViewDemand) (sl : Slot) :
    (judgeAdoption s sender d sl).reset.lastIdentity = sl.reset.lastIdentity ∨
    (sl.reset.lastIdentity ≠ some d.identity ∧ (judgeAdoption s sender d sl).reset.lastIdentity = some d.identity) := by
  unfold judgeAdoption
  split
  next hadoptable =>
    have hother : sl.reset.lastIdentity ≠ some d.identity := by simp [adoptable] at hadoptable; exact hadoptable.2
    split
    · exact .inr ⟨hother, setAgreement_lastIdentity ..⟩
    · exact .inl rfl
  · exact .inl rfl

/-- A demand of the view taken, another one than that known, has become the last one. -/
def TakenFrom (view : Option View) (known last : Option Identity) : Prop :=
  ∃ v d, view = some v ∧ v.state = .agreeing ∧ v.demand = some d ∧ known ≠ some d.identity ∧ last = some d.identity

theorem judgeAdoption_taken {s : State} {sender : Nat} {v : View} {d : ViewDemand} {known : Option Identity} {sl : Slot}
    (hstate : v.state = .agreeing) (hdemand : v.demand = some d)
    (h : sl.reset.lastIdentity = known ∨ TakenFrom (some v) known sl.reset.lastIdentity) :
    (judgeAdoption s sender d sl).reset.lastIdentity = known ∨
      TakenFrom (some v) known (judgeAdoption s sender d sl).reset.lastIdentity := by
  obtain hkept | ⟨hother, htaken⟩ := judgeAdoption_lastIdentity s sender d sl
  · rw [hkept]
    exact h
  · obtain h | ⟨v', d', hview, -, hdemand', -, hlast⟩ := h
    · exact .inr ⟨v, d, rfl, hstate, hdemand, h ▸ hother, htaken⟩
    · obtain rfl : v = v' := Option.some.inj hview
      obtain rfl : d = d' := Option.some.inj (hdemand.symm.trans hdemand')
      exact absurd hlast hother

theorem takeView_lastIdentity {s : State} {sender : Nat} {view : Option View} {known : Option Identity} {sl : Slot}
    (h : sl.reset.lastIdentity = known ∨ (s.inService = true ∧ TakenFrom view known sl.reset.lastIdentity)) :
    (takeView s sender view sl).reset.lastIdentity = known ∨
      (s.inService = true ∧ TakenFrom view known (takeView s sender view sl).reset.lastIdentity) := by
  cases hservice : s.inService
  · rw [takeView_outside hservice]
    exact .inl (h.resolve_right fun h => by simp [hservice] at h)
  · have h : sl.reset.lastIdentity = known ∨ TakenFrom view known sl.reset.lastIdentity := h.imp id (·.2)
    refine Or.imp id (And.intro rfl) ?_
    generalize hview : takeView s sender view sl = sl'
    have htaken := takeView_taken s sender view sl
    rw [hview] at htaken
    cases htaken with
    | nothing | leaves => exact h
    | joins => rw [setAgreement_lastIdentity]; exact h
    | judged v d hv hstate hdemand => rw [hv] at h ⊢; exact judgeAdoption_taken hstate hdemand h
    | superseded v d hv hstate hdemand =>
      rw [hv] at h ⊢
      exact judgeAdoption_taken (sl := sl.endDemand .superseded) hstate hdemand h

/-- The last identity of a slot after an accepted telegram. -/
theorem telegramSlot_lastIdentity {order : TakingOrder} {r after : PeerRecord} {items : List Item} {s : State} {i : Nat}
    {sl : Slot} (hitems : items.count .changes = 1) :
    (telegramSlot order r after items s i sl).reset.lastIdentity = sl.reset.lastIdentity ∨
    (s.inService = true ∧ sl.uses s.own after.station = true ∧
      TakenFrom (after.view? sl.sectionNumber) sl.reset.lastIdentity
        (telegramSlot order r after items s i sl).reset.lastIdentity) := by
  have hdisturb : ∀ last : Option Identity, ∀ (x : Slot) (cause : Cause) (station : Nat), s.lockdown = false →
      x.reset.lastIdentity = last → (disturb cause s.stationTime station x).reset.lastIdentity = last :=
    fun _ _ _ _ _ hx => (disturb_lastIdentity ..).trans hx
  cases huses : sl.uses s.own after.station
  · exact .inl (telegramSlot_unused_rule (P := fun x => x.reset.lastIdentity = sl.reset.lastIdentity) huses rfl (hdisturb _))
  · refine Or.imp id (fun h => ⟨h.1, rfl, h.2⟩) (telegramSlot_takeView_rule
      (P := fun x => x.reset.lastIdentity = sl.reset.lastIdentity)
      (Q := fun x => x.reset.lastIdentity = sl.reset.lastIdentity ∨ (s.inService = true ∧
        TakenFrom (after.view? sl.sectionNumber) sl.reset.lastIdentity x.reset.lastIdentity))
      hitems huses rfl (hdisturb _) (fun x _ hx => .inl ((takeChanges_lastIdentity ..).trans hx))
      (fun x cause station _ hx => by rw [disturb_lastIdentity]; exact hx)
      (fun x _ hx => takeView_lastIdentity hx)
      fun x _ hx => by rw [judge_lastIdentity]; exact hx)

/-! ### The views of a well-formed telegram -/

theorem wellFormed_reads {tel : Telegram} (h : wellFormedTelegram tel = true) {v : ViewPart} (hv : v ∈ tel.views) :
    ∃ v', ViewPart.read v = some v' := by
  simp only [wellFormedTelegram, Bool.and_eq_true, List.all_eq_true] at h
  exact Option.isSome_iff_exists.mp (h.1.1.2 v hv)

/-- What the reading of a view keeps of it (R97). -/
theorem read_some {v : ViewPart} {v' : View} (h : ViewPart.read v = some v') :
    v'.sectionNumber = v.sectionNumber.toNat ∧ slotStateOf v.state = some v'.state ∧ v'.balance = v.balance.toInt ∧
      v'.settled = v.settled ∧ v'.demand = v.demand.bind DemandPart.read ∧
      -32760 ≤ v.balance.toInt ∧ v.balance.toInt ≤ 32760 ∧ ∀ d, v.demand = some d → (DemandPart.read d).isSome := by
  unfold ViewPart.read at h
  split at h
  next st hst =>
    split at h
    next hbalance =>
      split at h
      next hnone => cases h; exact ⟨rfl, hst, rfl, rfl, by rw [hnone]; rfl, hbalance.1, hbalance.2, by rw [hnone]; nofun⟩
      next d hsome =>
        split at h
        next hd =>
          cases h
          refine ⟨rfl, hst, rfl, rfl, by rw [hsome, Option.bind_some, hd], hbalance.1, hbalance.2, fun d' hd' => ?_⟩
          rw [hsome] at hd'
          cases hd'
          rw [hd]
          rfl
        next => cases h
    next => cases h
  next => cases h

theorem carriesView_iff {tel : Telegram} (hwell : wellFormedTelegram tel = true) {sl : Slot} :
    carriesView tel sl = true ↔ ∃ v ∈ tel.views, v.sectionNumber.toNat = sl.sectionNumber := by
  simp only [carriesView, storedViews, List.any_eq_true, List.mem_filterMap, beq_iff_eq]
  constructor
  · rintro ⟨v', ⟨v, hv, hread⟩, hsection⟩
    exact ⟨v, hv, (read_some hread).1.symm.trans hsection⟩
  · rintro ⟨v, hv, hsection⟩
    obtain ⟨v', hread⟩ := wellFormed_reads hwell hv
    exact ⟨v', ⟨v, hv, hread⟩, (read_some hread).1.trans hsection⟩

theorem slotStateOf_isSome {code : Byte} : (slotStateOf code).isSome = true ↔ 1 ≤ code.toNat ∧ code.toNat ≤ 6 := by
  unfold slotStateOf
  split <;> simp_all
  omega

theorem DemandPart.read_isSome {d : DemandPart} : (DemandPart.read d).isSome = true ↔ 1 ≤ d.originator.toNat ∧
    d.originator.toNat ≤ 30 ∧ ((1 ≤ d.number.toNat ∧ d.number.toNat ≤ 15) ∨ (129 ≤ d.number.toNat ∧ d.number.toNat ≤ 143)) := by
  have hbyte : d.number.toNat < 256 := d.number.isLt
  unfold DemandPart.read
  dsimp only
  split
  next h => exact iff_of_true rfl (by omega)
  next h => exact iff_of_false nofun (by omega)

theorem ViewPart.read_isSome {v : ViewPart} : (ViewPart.read v).isSome = true ↔ 1 ≤ v.state.toNat ∧ v.state.toNat ≤ 6 ∧
    -32760 ≤ v.balance.toInt ∧ v.balance.toInt ≤ 32760 ∧ ∀ d, v.demand = some d → (DemandPart.read d).isSome = true := by
  rw [← and_assoc (a := 1 ≤ v.state.toNat), ← slotStateOf_isSome]
  constructor
  · intro h
    obtain ⟨v', h⟩ := Option.isSome_iff_exists.mp h
    obtain ⟨-, hstate, -, -, -, hlow, hhigh, hdemand⟩ := read_some h
    exact ⟨by rw [hstate]; rfl, hlow, hhigh, hdemand⟩
  · rintro ⟨hstate, hlow, hhigh, hdemand⟩
    obtain ⟨st, hst⟩ := Option.isSome_iff_exists.mp hstate
    rw [ViewPart.read, hst]
    dsimp only
    rw [if_pos ⟨hlow, hhigh⟩]
    cases hd : v.demand with
    | none => rfl
    | some d =>
      obtain ⟨vd, hvd⟩ := Option.isSome_iff_exists.mp (hdemand d hd)
      dsimp only
      rw [hvd]
      rfl

theorem wellFormedTelegram_iff {tel : Telegram} : wellFormedTelegram tel = true ↔
    tel.viewCount.toNat ≤ 4 ∧ tel.viewCount.toNat = tel.views.length ∧ tel.partialView = false ∧
    (∀ v ∈ tel.views, (ViewPart.read v).isSome = true) ∧ (tel.views.map (·.sectionNumber)).Nodup ∧
    (tel.status = .lockdown → tel.views = []) := by
  have hlockdown : tel.viewCount.toNat = tel.views.length →
      ((tel.status != .lockdown || tel.viewCount.toNat == 0) = true ↔ (tel.status = .lockdown → tel.views = [])) := by
    intro hcount
    rw [hcount]
    by_cases h : tel.status = .lockdown <;> simp [h]
  simp only [wellFormedTelegram, Bool.and_eq_true, decide_eq_true_eq, beq_iff_eq, Bool.not_eq_true', List.all_eq_true,
    and_assoc]
  constructor
  · rintro ⟨hfour, hcount, hpartial, hviews, hsections, h⟩
    exact ⟨hfour, hcount, hpartial, hviews, hsections, (hlockdown hcount).mp h⟩
  · rintro ⟨hfour, hcount, hpartial, hviews, hsections, h⟩
    exact ⟨hfour, hcount, hpartial, hviews, hsections, (hlockdown hcount).mpr h⟩

/-- A telegram that is discarded leaves its frame taken alone. -/
theorem exec_discarded {dt : Nat} {s : State} {tel : Telegram} (order : TakingOrder) (hconnected : s.line.connected = true)
    (hconfigured : s.configured = true)
    (h : ∀ r, s.peer? tel.sender.toNat = some r → wellFormedTelegram tel = false ∨ Repeats r tel) :
    ∃ t, exec (.countTelegram dt tel order) s = .next t ∧
      Ends { s with now := s.now + dt, handed := s.handed.erase (.telegram tel) } t := by
  obtain ⟨c, x, b, d, hat⟩ := atTelegram_eq s dt tel
  have hsame : effect (.countTelegram dt tel order) (s.atTelegram dt tel) = s.atTelegram dt tel := by
    have hpeer : (s.atTelegram dt tel).peer? tel.sender.toNat = s.peer? tel.sender.toNat := by rw [hat]; rfl
    cases hr : s.peer? tel.sender.toNat with
    | none => simp only [effect, hpeer, hr]
    | some r =>
      rw [countTelegram_of_peer (hpeer.trans hr), judgeTelegram]
      obtain hbad | hrepeats := h r hr
      · rw [hbad]
        rfl
      · rw [repeats_iff.mp hrepeats]
        exact ite_self _
  refine ⟨_, exec_countTelegram rfl hconnected hconfigured, ?_⟩
  change Ends _ (finish (s.atTelegram dt tel) (effect (.countTelegram dt tel order) (s.atTelegram dt tel)))
  rw [hsame]
  exact (finish_ends _ _).of_lanes hat

/-! ### The record after an accepted telegram -/

theorem peer?_of_scene {s t : State} (h : t.scene = s.scene) (n : Nat) : t.peer? n = s.peer? n := by
  have hscene : t.scene.peer? n = s.scene.peer? n := by rw [h]
  exact hscene

theorem atTelegram_scene (s : State) (dt : Nat) (tel : Telegram) :
    (s.atTelegram dt tel).scene = { s.scene with now := s.now + dt } := by
  obtain ⟨_, _, _, _, hat⟩ := atTelegram_eq s dt tel
  rw [hat]
  rfl

/-- The state in which the slots meet an accepted telegram: that of its instant, with the accepted record. -/
def State.withAccepted (s : State) (dt : Nat) (tel : Telegram) (r : PeerRecord) : State :=
  withRecord r (judgeSequence r tel.sequence) tel (s.atTelegram dt tel)

/-- The record accepted. -/
def State.acceptedRecord (s : State) (dt : Nat) (tel : Telegram) (r : PeerRecord) : PeerRecord :=
  r.accept (s.now + dt) s.own s.slots (judgeSequence r tel.sequence) tel

theorem withAccepted_peer? {dt : Nat} {s : State} {tel : Telegram} {r : PeerRecord} (hr : s.peer? tel.sender.toNat = some r)
    (n : Nat) : (s.withAccepted dt tel r).peer? n =
      if n = tel.sender.toNat then some (s.acceptedRecord dt tel r) else s.peer? n := by
  have hstation := peer?_station hr
  obtain ⟨_, _, _, _, hat⟩ := atTelegram_eq s dt tel
  have hrecord : (s.atTelegram dt tel).peer? r.station = some r := by rw [hstation, hat]; exact hr
  rw [State.withAccepted, withRecord_peer? hrecord, hstation, hat]
  rfl

/-- The fields that the slots' rules read, but for the table. -/
theorem withAccepted_scene (s : State) (dt : Nat) (tel : Telegram) (r : PeerRecord) : (s.withAccepted dt tel r).scene =
    { s.scene with now := s.now + dt, peers := (s.withAccepted dt tel r).peers } := by
  obtain ⟨_, _, _, _, hat⟩ := atTelegram_eq s dt tel
  have hscene := withRecord_scene r (judgeSequence r tel.sequence) tel (s.atTelegram dt tel)
  have hpeers : (s.withAccepted dt tel r).peers = acceptedPeers r (judgeSequence r tel.sequence) tel (s.atTelegram dt tel) :=
    congrArg (·.peers) hscene
  rw [State.withAccepted] at hpeers ⊢
  rw [hscene, hpeers, hat]
  rfl

theorem withAccepted_inService (s : State) (dt : Nat) (tel : Telegram) (r : PeerRecord) :
    (s.withAccepted dt tel r).inService = s.inService := by
  have hphase : (s.withAccepted dt tel r).phase = s.phase := congrArg (·.phase) (withAccepted_scene s dt tel r)
  have hlockdown : (s.withAccepted dt tel r).lockdown = s.lockdown := congrArg (·.lockdown) (withAccepted_scene s dt tel r)
  rw [State.inService, hphase, hlockdown]
  rfl

/-- A slot as an accepted telegram finds it: a restart has made the last identity of its originator absent (R139). -/
def PeerRecord.beforeTelegram (r : PeerRecord) (tel : Telegram) (sl : Slot) : Slot :=
  (if judgeSequence r tel.sequence = .restart then forgetIdentity r.station else id) sl

/-- It is the slot but for its last identity. -/
theorem beforeTelegram_eq (r : PeerRecord) (tel : Telegram) (sl : Slot) : ∃ identity,
    r.beforeTelegram tel sl = { sl with reset := { sl.reset with lastIdentity := identity } } :=
  forgetIdentity_eq (judgeSequence r tel.sequence) r.station sl

theorem beforeTelegram_same (r : PeerRecord) (tel : Telegram) (sl : Slot) : SameBounds sl (r.beforeTelegram tel sl) := by
  obtain ⟨identity, h⟩ := beforeTelegram_eq r tel sl
  rw [h]
  exact ⟨rfl, rfl, rfl, rfl⟩

theorem beforeTelegram_lastIdentity {r : PeerRecord} {tel : Telegram} (hstation : r.station = tel.sender.toNat)
    (hnew : ¬Repeats r tel) (sl : Slot) : (r.beforeTelegram tel sl).reset.lastIdentity =
      if r.state ≠ .unheard ∧ tel.sequence = 0 ∧ sl.reset.lastIdentity.map (·.originator) = some tel.sender.toNat then none
      else sl.reset.lastIdentity := by
  have hiff := judgeSequence_restart_iff hnew
  unfold PeerRecord.beforeTelegram
  by_cases hrestart : judgeSequence r tel.sequence = .restart
  · have h := hiff.mp hrestart
    rw [if_pos hrestart, forgetIdentity, hstation]
    by_cases horiginator : sl.reset.lastIdentity.map (·.originator) = some tel.sender.toNat
    · rw [if_pos horiginator, if_pos ⟨h.1, h.2, horiginator⟩]
    · rw [if_neg horiginator, if_neg fun h => horiginator h.2.2]
  · rw [if_neg hrestart, if_neg fun h => hrestart (hiff.mpr ⟨h.1, h.2.1⟩)]
    rfl

/-- What an accepted telegram of a peer brings: its record in the table, and each slot on its way. -/
theorem exec_accepted_result {dt : Nat} {s : State} {tel : Telegram} {r : PeerRecord} (order : TakingOrder)
    (hconnected : s.line.connected = true) (hconfigured : s.configured = true) (hr : s.peer? tel.sender.toNat = some r)
    (hwell : wellFormedTelegram tel = true) (hnew : ¬Repeats r tel) : ∃ t, exec (.countTelegram dt tel order) s = .next t ∧
      Ends { s with
        now := s.now + dt, handed := s.handed.erase (.telegram tel), peers := t.peers, slots := t.slots } t ∧
      t.scene = (s.withAccepted dt tel r).scene ∧
      t.slots = (s.slots.map (r.beforeTelegram tel)).mapIdx
        (telegramSlot order r (s.acceptedRecord dt tel r) (itemsOf r (judgeSequence r tel.sequence) tel)
          (s.withAccepted dt tel r)) := by
  have hends := accepted_ends dt s tel r order (judgeSequence r tel.sequence) (s.atTelegram dt tel)
  have hslots := acceptTelegram_slots r (judgeSequence r tel.sequence) tel order (s.atTelegram dt tel)
  have hscene := acceptTelegram_scene r (judgeSequence r tel.sequence) tel order (s.atTelegram dt tel)
  have hexec := exec_accepted order hconnected hconfigured hr hwell hnew (dt := dt)
  rw [← finish_scene (s.atTelegram dt tel)] at hscene
  generalize finish (s.atTelegram dt tel) _ = t at hends hscene hexec
  have ht : t.peers = acceptedPeers r (judgeSequence r tel.sequence) tel (s.atTelegram dt tel) := congrArg (·.peers) hends.rest
  have ht' := congrArg (·.slots) hends.rest
  dsimp only at ht'
  rw [← ht, ← ht'] at hends
  refine ⟨t, hexec, hends, hscene, ?_⟩
  obtain ⟨_, _, _, _, hat⟩ := atTelegram_eq s dt tel
  have hrecord : r.accept (s.atTelegram dt tel).now (s.atTelegram dt tel).own (s.atTelegram dt tel).slots
      (judgeSequence r tel.sequence) tel = s.acceptedRecord dt tel r := by rw [hat]; rfl
  have hsame : (s.atTelegram dt tel).slots = s.slots := by rw [hat]
  rw [ht', hslots, withRecord_slots, hrecord, hsame]
  rfl

theorem uses_eq_decide {sl : Slot} {own n : Nat} {uses : Slot → Bool}
    (h : ∀ sl, uses sl = true ↔ n ≠ own ∧ ∃ b ∈ sl.boundary, b.station = n) : sl.uses own n = uses sl :=
  Bool.eq_iff_iff.mpr (uses_iff.trans (h sl).symm)

theorem accepted_conditions {s : State} {tel : Telegram} {r : PeerRecord} {now : Tick} {j : Judgement}
    (hstation : r.station = tel.sender.toNat) (hwell : wellFormedTelegram tel = true) {uses carried : Slot → Bool}
    (huses : ∀ sl, uses sl = true ↔ tel.sender.toNat ≠ s.own ∧ ∃ b ∈ sl.boundary, b.station = tel.sender.toNat)
    (hcarried : ∀ sl, carried sl = true ↔ ∃ v ∈ tel.views, v.sectionNumber.toNat = sl.sectionNumber) :
    (r.accept now s.own s.slots j tel).missing =
      (if tel.status = .lockdown then r.missing else s.slots.map (fun sl => uses sl && !carried sl)) ∧
    (r.accept now s.own s.slots j tel).foreign = s.slots.map (fun sl => !uses sl && carried sl) := by
  have huses' : ∀ sl : Slot, sl.uses s.own r.station = uses sl := fun sl => by rw [hstation]; exact uses_eq_decide huses
  have hcarries : ∀ sl, carriesView tel sl = carried sl := fun sl =>
    Bool.eq_iff_iff.mpr ((carriesView_iff hwell).trans (hcarried sl).symm)
  constructor
  · simp only [PeerRecord.accept, missingAfter, huses', hcarries]
  · simp only [PeerRecord.accept, foreignAfter, huses', hcarries]

end Sys2Proof.Machine

namespace Sys2Proof.Proofs
open Sys2Proof.Machine

/-- Settles O28: the record is that of the judgement, and a last identity is another one only where a view was adopted. -/
theorem telegramsAreAccepted : Obligations.TelegramsAreAccepted := by
  intro dt s tel order r hconnected hconfigured hr hwell hnew
  have hstation := peer?_station hr
  obtain ⟨t, hexec, hends, hscene, hslots⟩ := exec_accepted_result order hconnected hconfigured hr hwell hnew (dt := dt)
  have hpeer : ∀ n, t.peer? n = if n = tel.sender.toNat then some (s.acceptedRecord dt tel r) else s.peer? n :=
    fun n => (peer?_of_scene hscene n).trans (withAccepted_peer? hr n)
  refine ⟨t, s.acceptedRecord dt tel r, hexec, (hpeer _).trans (if_pos rfl), rfl, rfl, rfl, rfl, rfl, rfl,
    fun h => ⟨if_pos h, if_pos h⟩, fun h => ⟨if_neg h, if_neg h⟩, ?gaps,
    fun uses carried huses hcarried => accepted_conditions hstation hwell huses hcarried,
    fun n hn => (hpeer n).trans (if_neg hn), by rw [hslots]; simp, ?identities, hends⟩
  case gaps => simp only [State.acceptedRecord, PeerRecord.accept, judgeSequence_gap_iff hnew]
  case identities =>
    intro i sl sl' known hsl hsl' hknown
    have hlast : (r.beforeTelegram tel sl).reset.lastIdentity = known :=
      (beforeTelegram_lastIdentity hstation hnew sl).trans hknown.symm
    have hsame := beforeTelegram_same r tel sl
    rw [hslots, List.getElem?_mapIdx, List.getElem?_map, hsl] at hsl'
    obtain rfl := Option.some.inj hsl'
    have hresult := telegramSlot_lastIdentity (order := order) (r := r) (after := s.acceptedRecord dt tel r)
      (s := s.withAccepted dt tel r) (i := i) (sl := r.beforeTelegram tel sl)
      (itemsOf_count r (judgeSequence r tel.sequence) tel)
    rw [hlast, hsame.number] at hresult
    refine hresult.imp id fun ⟨hservice, huses, v, d, hview, hstate, hdemand, hother, htaken⟩ => ?_
    obtain ⟨-, b, hb, hbstation⟩ := uses_iff.mp ((hsame.uses ..).symm.trans huses)
    rw [withAccepted_inService, State.inService, Bool.and_eq_true, beq_iff_eq, Bool.not_eq_true'] at hservice
    exact ⟨hservice.1, hservice.2, ⟨b, hb, hbstation.trans hstation⟩, v, d,
      List.mem_of_find?_eq_some hview, by simpa using List.find?_some hview, hstate, hdemand, hother, htaken⟩

/-- Settles O29: the reading of a view succeeds just in range, and the judgement comes before the record is touched. -/
theorem telegramsAreDiscarded : Obligations.TelegramsAreDiscarded := by
  refine ⟨fun tel => ?_, fun dt s tel order hconnected hconfigured h => exec_discarded order hconnected hconfigured h⟩
  rw [wellFormedTelegram_iff]
  simp only [ViewPart.read_isSome, DemandPart.read_isSome]

end Sys2Proof.Proofs
end

section
/-! PROOFS. The causes that an accepted telegram declares on a slot (O30). -/

namespace Sys2Proof.Machine

/-! ### What a cause does to the disturbance record -/

/-- Whether a slot is DISTURBED, and its disturbance record. -/
def Slot.mark (sl : Slot) : Bool × DisturbanceRecord := (decide (sl.state = .disturbed), sl.record)

/-- A cause taken on what is marked: the first one, or a further one (R154, R155). -/
def declareMark (time : Word32) (m : Bool × DisturbanceRecord) (cause : Cause) (station : Nat) : Bool × DisturbanceRecord :=
  (true, if m.1 then m.2.addFurther cause else m.2.enter cause time station)

theorem disturb_mark (cause : Cause) (time : Word32) (station : Nat) (sl : Slot) :
    (disturb cause time station sl).mark = declareMark time sl.mark cause station := by
  unfold disturb
  split
  next h => simp [Slot.mark, declareMark, h]
  next h => simp [Slot.mark, declareMark, h]

theorem judge_mark (s : State) (changed : Bool) (sl : Slot) : (judge s changed sl).mark = sl.mark := by
  cases hevaluating : sl.state.evaluating
  · rw [judge_of_not_evaluating hevaluating]
  · have hjudged := (judge_evaluating s changed sl).trans hevaluating
    have hnot : ∀ {st : SlotState}, st.evaluating = true → st ≠ .disturbed := by
      rintro _ h rfl
      cases h
    simp only [Slot.mark, judge_record, hnot hjudged, hnot hevaluating]

theorem takeTotals_mark {s : State} (hunlocked : s.lockdown = false) (evaluating : Bool) (sl : Slot) :
    (takeTotals s evaluating sl).mark =
      if rangeRises s evaluating sl then declareMark s.stationTime sl.mark .countRange s.own else sl.mark := by
  unfold takeTotals
  dsimp only
  rw [hunlocked, Bool.not_false, Bool.and_true]
  split
  · rw [disturb_mark, judge_mark]; rfl
  · rw [judge_mark]; rfl

/-! ### The causes of a telegram's items -/

/-- The cause that an item declares; a change of the totals may bring COUNT_RANGE. -/
def Item.cause : Item → Cause
  | .peerRestart => .peerRestart
  | .countJump => .countJump
  | .peerHead => .peerHead
  | .boundaryMismatch => .boundaryMismatch
  | .changes => .countRange

/-- The station recorded with it. -/
def Item.station (own sender : Nat) : Item → Nat
  | .peerRestart | .countJump | .peerHead => sender
  | .boundaryMismatch | .changes => own

/-- The item declares its cause on the slot of number `i`, as the telegram finds it. -/
def Item.raises (before after : PeerRecord) (s : State) (i : Nat) (sl : Slot) : Item → Bool
  | .peerRestart | .countJump | .peerHead => sl.uses s.own after.station
  | .boundaryMismatch => newMismatch before after i
  | .changes => sl.uses s.own after.station && totalsChange before after && rangeRises s sl.state.evaluating sl

/-- An item taken on what is marked. -/
def Item.declare (s : State) (sender : Nat) (m : Bool × DisturbanceRecord) (item : Item) : Bool × DisturbanceRecord :=
  declareMark s.stationTime m item.cause (item.station s.own sender)

theorem Item.cause_injective {item item' : Item} (h : item.cause = item'.cause) : item = item' := by
  cases item <;> cases item' <;> first | rfl | cases h

theorem declareSlot_mark {s : State} (hunlocked : s.lockdown = false) (cause : Cause) (station : Nat) (sl : Slot) :
    (declareSlot s cause station sl).mark = declareMark s.stationTime sl.mark cause station := by
  rw [declareSlot, if_neg (by rw [hunlocked]; nofun), disturb_mark]

theorem declares_mark {s : State} (hunlocked : s.lockdown = false) (cause : Cause) (station : Nat) (sl : Slot) (p : Bool) :
    (if p then declareSlot s cause station sl else sl).mark =
      if p then declareMark s.stationTime sl.mark cause station else sl.mark := by
  cases p
  · rfl
  · exact declareSlot_mark hunlocked ..

theorem figures_range {sl x : Slot} (h : x.figures = sl.figures) : x.boundary = sl.boundary ∧ x.range = sl.range := by
  simp only [Slot.figures, Prod.mk.injEq] at h
  exact ⟨h.1, h.2.2.2⟩

theorem Item.take_mark {before after : PeerRecord} {s : State} {i : Nat} {sl x : Slot} {item : Item}
    (hunlocked : s.lockdown = false) (hbounds : SameBounds sl x) (hfigures : item = .changes → x.figures = sl.figures) :
    (item.take before after s i sl x).mark =
      if item.raises before after s i sl then item.declare s after.station x.mark else x.mark := by
  have huses := hbounds.uses s.own after.station
  have hpeer := fun cause => declares_mark hunlocked cause after.station x (x.uses s.own after.station)
  rw [huses] at hpeer
  cases item with
  | peerRestart | countJump | peerHead =>
    refine (congrArg Slot.mark ?_).trans (hpeer _)
    rw [← huses]
    rfl
  | boundaryMismatch => exact declares_mark hunlocked .boundaryMismatch s.own x (newMismatch before after i)
  | changes =>
    obtain ⟨hboundary, hrange⟩ := figures_range (hfigures rfl)
    have hrises : rangeRises s sl.state.evaluating x = rangeRises s sl.state.evaluating sl := by
      simp only [rangeRises, outOfRange, hboundary, hrange]
    have hraises : Item.changes.raises before after s i sl =
        (sl.uses s.own after.station && totalsChange before after && rangeRises s sl.state.evaluating sl) := rfl
    have htake : Item.changes.take before after s i sl x = if x.uses s.own after.station then
        (if totalsChange before after then takeTotals s sl.state.evaluating x else judge s false x) else x := rfl
    rw [hraises, htake, huses]
    cases sl.uses s.own after.station
    · rfl
    · cases totalsChange before after
      · exact judge_mark ..
      · rw [if_pos rfl, if_pos rfl, takeTotals_mark hunlocked, hrises]
        rfl

/-- The causes of the items, each taken once and in the order arranged. -/
theorem foldl_take_mark {before after : PeerRecord} {s : State} {i : Nat} {sl : Slot} (hunlocked : s.lockdown = false)
    (items : List Item) : ∀ x : Slot, items.Nodup → SameBounds sl x → (.changes ∈ items → x.figures = sl.figures) →
      (items.foldl (Item.take before after s i sl) x).mark =
        (items.filter (Item.raises before after s i sl)).foldl (Item.declare s after.station) x.mark := by
  induction items with
  | nil => exact fun _ _ _ _ => rfl
  | cons item items ih =>
    intro x hnodup hbounds hfigures
    obtain ⟨hnew, hnodup⟩ := List.nodup_cons.mp hnodup
    have hmark := Item.take_mark (before := before) (after := after) (i := i) hunlocked hbounds
      fun h : item = .changes => hfigures (h ▸ List.mem_cons_self)
    have hrest := ih (item.take before after s i sl x) hnodup (hbounds.trans (Item.take_bounds ..)) fun hmem => by
      have hitem : item ≠ .changes := fun h => hnew (h ▸ hmem)
      exact cause_rule (P := fun y => y.figures = sl.figures) hitem (hfigures (List.mem_cons_of_mem _ hmem))
        fun _ _ _ => (disturb_figures ..).trans (hfigures (List.mem_cons_of_mem _ hmem))
    rw [List.foldl_cons, hrest, hmark, List.filter_cons]
    split <;> rfl

theorem itemsOf_nodup (r : PeerRecord) (j : Judgement) (tel : Telegram) : (itemsOf r j tel).Nodup := by
  unfold itemsOf
  split <;> split <;> split <;> decide

/-! ### The record after several causes -/

/-- Causes on a slot DISTURBED already: the last one is kept as the last further cause. -/
theorem foldl_declare_disturbed (s : State) (sender : Nat) (record : DisturbanceRecord) (items : List Item) :
    items.foldl (Item.declare s sender) (true, record) =
      (true, match items.getLast? with
        | some last => record.addFurther last.cause
        | none => record) := by
  induction items generalizing record with
  | nil => rfl
  | cons item items ih =>
    have hdeclare : Item.declare s sender (true, record) item = (true, record.addFurther item.cause) := rfl
    rw [List.foldl_cons, hdeclare, ih]
    cases items with
    | nil => rfl
    | cons next items =>
      obtain ⟨last, hlast⟩ : ∃ last, (next :: items).getLast? = some last := ⟨_, List.getLast?_cons⟩
      rw [List.getLast?_cons_cons, hlast]
      rfl

/-- What several causes, each once, leave of the record; the first of them is the first cause, the last one the last further
cause. -/
structure Recorded (s : State) (sender : Nat) (raised : Cause → Prop) (before after : Bool × DisturbanceRecord) : Prop where
  disturbed : after.1 = true
  held : before.1 = true → ∃ last, raised last ∧ after.2 = { before.2 with further := true, lastFurther := some last }
  entered : before.1 = false → ∃ first, raised first ∧ after.2.firstCause = some first ∧
    after.2.firstTime = some s.stationTime ∧
    after.2.firstStation = some (if first = .boundaryMismatch ∨ first = .countRange then s.own else sender) ∧
    after.2.count = min 255 (before.2.count + 1) ∧
    (after.2.further = true ↔ ∃ c, raised c ∧ c ≠ first) ∧ (after.2.further = false → after.2.lastFurther = none) ∧
    (after.2.further = true → ∃ last, raised last ∧ last ≠ first ∧ after.2.lastFurther = some last)

theorem Item.station_eq (own sender : Nat) (item : Item) : item.station own sender =
    if item.cause = .boundaryMismatch ∨ item.cause = .countRange then own else sender := by
  cases item <;> simp [Item.station, Item.cause]

theorem foldl_declare_recorded {s : State} {sender : Nat} {raised : Cause → Prop} {items : List Item} (hnodup : items.Nodup)
    (hraised : ∀ c, raised c ↔ ∃ item ∈ items, item.cause = c) (hsome : ∃ c, raised c) (m : Bool × DisturbanceRecord) :
    Recorded s sender raised m (items.foldl (Item.declare s sender) m) := by
  obtain ⟨disturbed, record⟩ := m
  cases items with
  | nil =>
    obtain ⟨c, hc⟩ := hsome
    obtain ⟨_, hitem, -⟩ := (hraised c).mp hc
    cases hitem
  | cons first rest =>
    have hlast : ∀ {last}, (first :: rest).getLast? = some last → raised last.cause := fun h =>
      (hraised _).mpr ⟨_, List.mem_of_getLast? h, rfl⟩
    cases disturbed with
    | true =>
      rw [foldl_declare_disturbed]
      obtain ⟨last, h⟩ : ∃ last, (first :: rest).getLast? = some last := ⟨_, List.getLast?_cons⟩
      rw [h]
      exact ⟨rfl, fun _ => ⟨last.cause, hlast h, rfl⟩, nofun⟩
    | false =>
      have henter : Item.declare s sender (false, record) first =
          (true, record.enter first.cause s.stationTime (first.station s.own sender)) := rfl
      obtain ⟨hnew, -⟩ := List.nodup_cons.mp hnodup
      have hother : ∀ {item}, item ∈ rest → raised item.cause ∧ item.cause ≠ first.cause := fun hitem =>
        ⟨(hraised _).mpr ⟨_, List.mem_cons_of_mem _ hitem, rfl⟩, fun h => hnew (Item.cause_injective h ▸ hitem)⟩
      have hfirst : raised first.cause := (hraised _).mpr ⟨_, List.mem_cons_self, rfl⟩
      have hstation := Item.station_eq s.own sender first
      rw [List.foldl_cons, henter, foldl_declare_disturbed]
      cases hrest : rest.getLast? with
      | none =>
        obtain rfl := List.getLast?_eq_none_iff.mp hrest
        refine ⟨rfl, nofun, fun _ => ⟨first.cause, hfirst, rfl, rfl, congrArg some hstation, rfl, ?_, fun _ => rfl, nofun⟩⟩
        refine iff_of_false nofun ?_
        rintro ⟨c, hc, hne⟩
        obtain ⟨item, hitem, rfl⟩ := (hraised c).mp hc
        exact hne (congrArg Item.cause (List.mem_singleton.mp hitem))
      | some last =>
        obtain ⟨hlast, hne⟩ := hother (List.mem_of_getLast? hrest)
        exact ⟨rfl, nofun, fun _ => ⟨first.cause, hfirst, rfl, rfl, congrArg some hstation, rfl,
          iff_of_true rfl ⟨last.cause, hlast, hne⟩, nofun, fun _ => ⟨last.cause, hlast, hne, rfl⟩⟩⟩

/-! ### The views on a slot DISTURBED or evaluating -/

theorem takeView_of_unoffered (s : State) (sender : Nat) {view : Option View} {sl : Slot} (hstate : sl.state = .disturbed)
    (h : ∀ v d, view = some v → v.offer = some d → adoptable s sl d = false) : takeView s sender view sl = sl := by
  unfold takeView
  split
  next =>
    rw [hstate]
    cases view with
    | none => rfl
    | some v =>
      cases hoffer : v.offer with
      | none => simp only [hoffer]
      | some d =>
        simp only [hoffer]
        exact if_neg (by rw [h v d rfl hoffer]; nofun)
  next => rfl

theorem takeView_of_evaluating (s : State) (sender : Nat) (view : Option View) {sl : Slot} (h : sl.state.evaluating = true) :
    takeView s sender view sl = sl := by
  unfold takeView
  split
  next => cases hstate : sl.state <;> rw [hstate] at h <;> first | rfl | cases h
  next => rfl

theorem evaluatorTakes_of_disturbed (s : State) (judged : Bool) (view : Option View) {sl : Slot} (h : sl.state = .disturbed) :
    evaluatorTakes s judged view sl = sl := by
  have hseen : evaluateView s view sl = sl := by
    unfold evaluateView
    split
    · exact if_pos (by rw [h]; simp [SlotState.evaluating])
    · rfl
  rw [evaluatorTakes, hseen]
  cases judged
  · exact judge_of_disturbed _ _ h
  · rfl

theorem rangeAfter_of_evaluating (s : State) {before : Slot} (sl : Slot) (h : before.state.evaluating = true) :
    rangeAfter s before sl = sl := if_neg (by rw [h]; simp)

theorem rangeAfter_of_not_evaluating (s : State) (before : Slot) {sl : Slot} (h : sl.state.evaluating = false) :
    rangeAfter s before sl = sl := if_neg (by rw [h]; simp)

/-- A slot DISTURBED that adopts no demand stays as it is (R121, R123, R137). -/
theorem readSlot_of_disturbed {order : TakingOrder} {after : PeerRecord} {judged : Bool} {s : State} {i : Nat} {sl : Slot}
    (first : Bool) (hstate : sl.state = .disturbed)
    (h : ∀ v d, after.view? sl.sectionNumber = some v → v.offer = some d → adoptable s sl d = false) :
    readSlot order first after judged s i sl = sl := by
  have hview : readView order first after judged s i sl = sl := by
    unfold readView
    dsimp only
    rw [takeView_of_unoffered s after.station hstate h, evaluatorTakes_of_disturbed s judged _ hstate]
    simp
  rw [readSlot, hview]
  exact rangeAfter_of_not_evaluating _ _ (by rw [hstate]; rfl)

/-- A telegram that leaves a slot DISTURBED and offers it no demand has done so by its causes. -/
theorem telegramSlot_of_disturbed {order : TakingOrder} {r after : PeerRecord} {items : List Item} {s : State} {i : Nat}
    {sl : Slot} (hstate : (takeSlotItems order r after items s i sl).state = .disturbed)
    (h : ∀ v, after.view? sl.sectionNumber = some v → v.state ≠ .agreeing) :
    telegramSlot order r after items s i sl = takeSlotItems order r after items s i sl := by
  have hbounds : SameBounds sl (takeSlotItems order r after items s i sl) := by
    unfold takeSlotItems
    generalize arrange (order.causes[i]?.getD 0) items = arranged
    suffices ∀ x, SameBounds sl x → SameBounds sl (arranged.foldl (Item.take r after s i sl) x) from this sl (.refl sl)
    induction arranged with
    | nil => exact fun _ h => h
    | cons item rest ih => exact fun x hx => ih _ (hx.trans (Item.take_bounds ..))
  have hoffer : ∀ v d, after.view? (takeSlotItems order r after items s i sl).sectionNumber = some v → v.offer = some d →
      adoptable s (takeSlotItems order r after items s i sl) d = false := fun v d hv hd => by
    rw [hbounds.number] at hv
    exact absurd (View.offer_some hd).1 (h v hv)
  rw [telegramSlot, readSlot_of_disturbed true hstate hoffer, readSlot_of_disturbed false hstate hoffer]

/-! ### The causes that a telegram raises on a slot -/

/-- The cause is among those of the telegram's items, and reaches the slot. -/
def Raised (r after : PeerRecord) (items : List Item) (s : State) (i : Nat) (sl : Slot) (c : Cause) : Prop :=
  ∃ item ∈ items, item.raises r after s i sl = true ∧ item.cause = c

/-- Whatever the order, a cause that reaches the slot leaves it DISTURBED with all of them recorded. -/
theorem telegramSlot_recorded {order : TakingOrder} {r after : PeerRecord} {items : List Item} {s : State} {i : Nat}
    {sl : Slot} (hunlocked : s.lockdown = false) (hnodup : items.Nodup)
    (hview : ∀ v, after.view? sl.sectionNumber = some v → v.state ≠ .agreeing) (hraised : ∃ c, Raised r after items s i sl c) :
    Recorded s after.station (Raised r after items s i sl) sl.mark (telegramSlot order r after items s i sl).mark := by
  have hperm := arrange_perm (order.causes[i]?.getD 0) items
  have hmark := foldl_take_mark (before := r) (after := after) (i := i) (sl := sl) hunlocked
    (arrange (order.causes[i]?.getD 0) items) sl (hperm.nodup_iff.mpr hnodup) (.refl sl) fun _ => rfl
  have hrecorded := foldl_declare_recorded (s := s) (sender := after.station) (raised := Raised r after items s i sl)
    (items := (arrange (order.causes[i]?.getD 0) items).filter (Item.raises r after s i sl))
    ((hperm.nodup_iff.mpr hnodup).filter _) (fun c => by
      simp only [Raised, List.mem_filter, hperm.mem_iff, and_assoc]) hraised sl.mark
  rw [← hmark] at hrecorded
  have hstate : (takeSlotItems order r after items s i sl).state = .disturbed := of_decide_eq_true hrecorded.disturbed
  rw [telegramSlot_of_disturbed hstate hview]
  exact hrecorded

theorem raised_cause {r after : PeerRecord} {items : List Item} {s : State} {i : Nat} {sl : Slot} (item : Item) :
    Raised r after items s i sl item.cause ↔ item ∈ items ∧ item.raises r after s i sl = true := by
  constructor
  · rintro ⟨item', hmem, hraises, hcause⟩
    obtain rfl := Item.cause_injective hcause
    exact ⟨hmem, hraises⟩
  · exact fun ⟨hmem, hraises⟩ => ⟨item, hmem, hraises, rfl⟩

theorem mem_itemsOf {r : PeerRecord} {j : Judgement} {tel : Telegram} :
    (.peerRestart ∈ itemsOf r j tel ↔ j = .restart) ∧ (.countJump ∈ itemsOf r j tel ↔ jumps r j tel = true) ∧
    (.peerHead ∈ itemsOf r j tel ↔ headFails r tel = true) ∧ .boundaryMismatch ∈ itemsOf r j tel ∧
    .changes ∈ itemsOf r j tel := by
  unfold itemsOf
  by_cases hrestart : j = .restart <;> cases jumps r j tel <;> cases headFails r tel <;> simp [hrestart]

/-! ### Without a cause -/

theorem take_of_not_raises {before after : PeerRecord} {s : State} {i : Nat} {sl x : Slot} {item : Item}
    (hbounds : SameBounds sl x) (hitem : item ≠ .changes) (h : item.raises before after s i sl = false) :
    item.take before after s i sl x = x := by
  have huses := hbounds.uses s.own after.station
  cases item with
  | changes => exact absurd rfl hitem
  | peerRestart | countJump | peerHead => exact if_neg (by rw [huses, show sl.uses s.own after.station = false from h]; nofun)
  | boundaryMismatch => exact if_neg (by rw [show newMismatch before after i = false from h]; nofun)

/-- A telegram that raises no cause of its own brings its changes alone. -/
theorem takeSlotItems_calm {order : TakingOrder} {r after : PeerRecord} {items : List Item} {s : State} {i : Nat}
    {sl : Slot} (hitems : items.count .changes = 1) (huses : sl.uses s.own after.station = true)
    (h : ∀ item ∈ items, item ≠ .changes → item.raises r after s i sl = false) :
    takeSlotItems order r after items s i sl = takeChanges r after s sl.state.evaluating sl := by
  have hcalm : ∀ (rest : List Item) (x : Slot), .changes ∉ rest → (∀ item ∈ rest, item ∈ items) → SameBounds sl x →
      rest.foldl (Item.take r after s i sl) x = x := by
    intro rest x hrest hmem hbounds
    induction rest with
    | nil => rfl
    | cons item rest ih =>
      rw [List.mem_cons, not_or] at hrest
      have htake := take_of_not_raises (before := r) (after := after) (s := s) (i := i) hbounds (Ne.symm hrest.1)
        (h item (hmem item List.mem_cons_self) (Ne.symm hrest.1))
      rw [List.foldl_cons, htake]
      exact ih hrest.2 fun item hitem => hmem item (List.mem_cons_of_mem _ hitem)
  obtain ⟨first, last, hsplit, hfirst, hlast⟩ := arranged_split hitems (order.causes[i]?.getD 0)
  have hmem : ∀ item, item ∈ first ++ .changes :: last → item ∈ items := fun item hitem =>
    (arrange_perm (order.causes[i]?.getD 0) items).mem_iff.mp (hsplit ▸ hitem)
  have htake : Item.changes.take r after s i sl sl = takeChanges r after s sl.state.evaluating sl := if_pos huses
  rw [takeSlotItems, hsplit, List.foldl_append, hcalm first sl hfirst
    (fun item hitem => hmem item (List.mem_append_left _ hitem)) (.refl sl), List.foldl_cons, htake]
  exact hcalm last _ hlast (fun item hitem => hmem item (List.mem_append_right _ (List.mem_cons_of_mem _ hitem)))
    (takeChanges_bounds ..)

/-! ### A view on an evaluating slot -/

/-- What the Section Evaluator finds in a view. -/
def State.viewCause (s : State) (sl : Slot) (v : View) : Option Cause :=
  if showsDisturbed sl v then some .peerDisturbed
  else if crossCheckFails s sl v then some .viewMismatch
  else none

theorem evaluateView_of_evaluating {s : State} (hunlocked : s.lockdown = false) {sl : Slot}
    (hevaluating : sl.state.evaluating = true) (v : View) : evaluateView s (some v) sl =
      match s.viewCause sl v with
      | some c => disturb c s.stationTime s.own sl
      | none => sl := by
  have hopen : (s.lockdown || !sl.state.evaluating) = false := by rw [hunlocked, hevaluating]; rfl
  unfold evaluateView State.viewCause
  dsimp only
  rw [hopen]
  cases showsDisturbed sl v <;> cases crossCheckFails s sl v <;> rfl

/-- A view that shows a difference disturbs an evaluating slot, if the slot then adopts no demand of it. -/
theorem readSlots_disturb {order : TakingOrder} {after : PeerRecord} {judged : Bool} {s : State} {i : Nat} {sl : Slot}
    {v : View} {c : Cause} (hunlocked : s.lockdown = false) (huses : sl.uses s.own after.station = true)
    (hevaluating : sl.state.evaluating = true) (hview : after.view? sl.sectionNumber = some v)
    (hcause : s.viewCause sl v = some c)
    (horder : order.resetFirst[i]? = some true ∨ ∀ d, v.offer = some d → s.headReady = false) :
    readSlot order false after judged s i (readSlot order true after judged s i sl) = disturb c s.stationTime s.own sl := by
  have hdisturbed := disturb_state c s.stationTime s.own sl
  have htaken : evaluatorTakes s judged (some v) sl = disturb c s.stationTime s.own sl := by
    rw [evaluatorTakes, evaluateView_of_evaluating hunlocked hevaluating, hcause]
    cases judged
    · exact judge_disturb ..
    · rfl
  by_cases hfirst : order.resetFirst[i]?.getD false = true
  · have hreset : readSlot order true after judged s i sl = sl := by
      have hread : readView order true after judged s i sl = sl := by
        unfold readView
        dsimp only
        rw [if_pos huses, if_pos hfirst]
        exact takeView_of_evaluating _ _ _ hevaluating
      rw [readSlot, hread]
      exact rangeAfter_of_evaluating _ _ hevaluating
    have hread : readView order false after judged s i sl = disturb c s.stationTime s.own sl := by
      unfold readView
      dsimp only
      rw [if_pos huses, if_neg (by rw [hfirst]; nofun), hview]
      exact htaken
    rw [hreset, readSlot, hread]
    exact rangeAfter_of_evaluating _ _ hevaluating
  · have hevaluator : readSlot order true after judged s i sl = disturb c s.stationTime s.own sl := by
      have hread : readView order true after judged s i sl = disturb c s.stationTime s.own sl := by
        unfold readView
        dsimp only
        rw [if_pos huses, if_neg hfirst, hview]
        exact htaken
      rw [readSlot, hread]
      exact rangeAfter_of_evaluating _ _ hevaluating
    rw [hevaluator]
    refine readSlot_of_disturbed false hdisturbed fun v' d hv' hd => ?_
    rw [(disturb_bounds c s.stationTime s.own sl).number, hview] at hv'
    obtain rfl := Option.some.inj hv'
    have hready := (horder.resolve_left fun h => hfirst (by rw [h]; rfl)) d hd
    simp [adoptable, hready]

/-- A view that shows no difference leaves an evaluating slot evaluating. -/
theorem readSlots_keep {order : TakingOrder} {after : PeerRecord} {judged : Bool} {s : State} {i : Nat} {sl : Slot}
    {v : View} (hunlocked : s.lockdown = false) (huses : sl.uses s.own after.station = true)
    (hevaluating : sl.state.evaluating = true) (hview : after.view? sl.sectionNumber = some v)
    (hcause : s.viewCause sl v = none) :
    (readSlot order false after judged s i (readSlot order true after judged s i sl)).state.evaluating = true ∧
    (readSlot order false after judged s i (readSlot order true after judged s i sl)).record = sl.record := by
  have hjudged : ∃ x, evaluatorTakes s judged (some v) sl = x ∧ x.state.evaluating = true ∧ x.record = sl.record ∧
      SameBounds sl x := by
    refine ⟨_, rfl, ?_⟩
    rw [evaluatorTakes, evaluateView_of_evaluating hunlocked hevaluating, hcause]
    cases judged
    · exact ⟨(judge_evaluating ..).trans hevaluating, judge_record .., judge_bounds ..⟩
    · exact ⟨hevaluating, rfl, .refl sl⟩
  obtain ⟨x, htaken, hx, hrecord, hbounds⟩ := hjudged
  have hreset : ∀ first y, y.state.evaluating = true → y.uses s.own after.station = true →
      order.resetFirst[i]?.getD false = first → readSlot order first after judged s i y = y := by
    intro first y hy hused hfirst
    have hread : readView order first after judged s i y = y := by
      unfold readView
      dsimp only
      rw [if_pos hused, if_pos hfirst]
      exact takeView_of_evaluating _ _ _ hy
    rw [readSlot, hread]
    exact rangeAfter_of_evaluating _ _ hy
  have hevaluator : ∀ first, order.resetFirst[i]?.getD false ≠ first → readSlot order first after judged s i sl = x := by
    intro first hfirst
    have hread : readView order first after judged s i sl = x := by
      unfold readView
      dsimp only
      rw [if_pos huses, if_neg hfirst, hview]
      exact htaken
    rw [readSlot, hread]
    exact rangeAfter_of_evaluating _ _ hevaluating
  cases hfirst : order.resetFirst[i]?.getD false with
  | true =>
    rw [hreset true sl hevaluating huses hfirst, hevaluator false (by rw [hfirst]; nofun)]
    exact ⟨hx, hrecord⟩
  | false =>
    rw [hevaluator true (by rw [hfirst]; nofun), hreset false x hx ((hbounds.uses ..).trans huses) hfirst]
    exact ⟨hx, hrecord⟩

end Sys2Proof.Machine
end

section
/-! PROOFS. The causes of an accepted telegram, assembled (O30). -/

namespace Sys2Proof.Machine

/-! ### The views stored -/

theorem slotStateOf_eq {code : Byte} {st : SlotState} (h : slotStateOf code = some st) : code = SlotState.code st := by
  have hcode : ∀ n : Nat, n < 256 → code.toNat = n → code = BitVec.ofNat 8 n := fun n hn h => by
    rw [← h]; simp
  unfold slotStateOf at h
  split at h <;> cases h <;> exact hcode _ (by decide) ‹_›

theorem agreeing_of_code {code : Byte} (h : slotStateOf code = some .agreeing) : code = 2 := slotStateOf_eq h

theorem evaluating_of_code {code : Byte} {st : SlotState} (h : slotStateOf code = some st) (hcode : 3 ≤ code.toNat) :
    st.evaluating = true := by
  obtain rfl := slotStateOf_eq h
  cases st
  case disturbed | agreeing => exact absurd hcode (by decide)
  all_goals rfl

/-- The view of a section that a well-formed telegram carries is the one stored for it (R97). -/
theorem acceptedRecord_view? {s : State} {dt : Nat} {tel : Telegram} {r : PeerRecord} {v : ViewPart}
    (hwell : wellFormedTelegram tel = true) (hv : v ∈ tel.views) : ∃ v', ViewPart.read v = some v' ∧
      (s.acceptedRecord dt tel r).view? v.sectionNumber.toNat = some v' := by
  obtain ⟨v', hread⟩ := wellFormed_reads hwell hv
  obtain ⟨-, -, -, -, hsections, -⟩ := wellFormedTelegram_iff.mp hwell
  refine ⟨v', hread, ?_⟩
  have hviews : (s.acceptedRecord dt tel r).views = tel.views.filterMap ViewPart.read := rfl
  rw [PeerRecord.view?, hviews]
  have hmem : v' ∈ tel.views.filterMap ViewPart.read := List.mem_filterMap.mpr ⟨v, hv, hread⟩
  cases hfind : (tel.views.filterMap ViewPart.read).find? (fun x => x.sectionNumber == v.sectionNumber.toNat) with
  | none => exact absurd (List.find?_eq_none.mp hfind v' hmem) (by simp [(read_some hread).1])
  | some v'' =>
    obtain ⟨w, hw, hread'⟩ := List.mem_filterMap.mp (List.mem_of_find?_eq_some hfind)
    have hsection : v''.sectionNumber = v.sectionNumber.toNat := by simpa using List.find?_some hfind
    have hsame : w.sectionNumber = v.sectionNumber := BitVec.eq_of_toNat_eq ((read_some hread').1.symm.trans hsection)
    obtain rfl : w = v := eq_of_nodup_map hsections hw hv hsame
    exact hread'.symm.trans hread

theorem view?_mem {s : State} {dt : Nat} {tel : Telegram} {r : PeerRecord} {n : Nat} {v' : View}
    (h : (s.acceptedRecord dt tel r).view? n = some v') :
    ∃ v ∈ tel.views, ViewPart.read v = some v' ∧ v.sectionNumber.toNat = n := by
  obtain ⟨v, hv, hread⟩ := List.mem_filterMap.mp (List.mem_of_find?_eq_some (h : _ = some v'))
  have hsection : v'.sectionNumber = n := by simpa using List.find?_some h
  exact ⟨v, hv, hread, (read_some hread).1.symm.trans hsection⟩

theorem DemandPart.read_some {d : DemandPart} {d' : ViewDemand} (h : DemandPart.read d = some d') :
    d'.identity = { originator := d.originator.toNat, number := d.number.toNat % 128 } := by
  unfold DemandPart.read at h
  dsimp only at h
  split at h
  · cases h
    rfl
  · cases h

/-! ### The state in which the slots meet a telegram -/

theorem withAccepted_own (s : State) (dt : Nat) (tel : Telegram) (r : PeerRecord) : (s.withAccepted dt tel r).own = s.own := by
  have hconfig : (s.withAccepted dt tel r).config = s.config := congrArg (·.config) (withAccepted_scene s dt tel r)
  rw [State.own, hconfig]
  rfl

theorem withAccepted_lockdown (s : State) (dt : Nat) (tel : Telegram) (r : PeerRecord) :
    (s.withAccepted dt tel r).lockdown = s.lockdown := congrArg (·.lockdown) (withAccepted_scene s dt tel r)

theorem withAccepted_headReady (s : State) (dt : Nat) (tel : Telegram) (r : PeerRecord) :
    (s.withAccepted dt tel r).headReady = s.headReady := by
  have hhead : (s.withAccepted dt tel r).head.state = s.head.state :=
    congrArg (·.head.state) (withAccepted_scene s dt tel r)
  have hdetector : (s.withAccepted dt tel r).detector.state = s.detector.state :=
    congrArg (·.detector.state) (withAccepted_scene s dt tel r)
  rw [State.headReady, hhead, hdetector]
  rfl

theorem stationTime_of_scene {s t : State} (h : t.scene = s.scene) : t.stationTime = s.stationTime := by
  rw [State.stationTime, scene_now h]
  rfl

theorem outOfRange_of_scene {s t : State} (h : t.scene = s.scene) {sl sl' : Slot} (hboundary : sl'.boundary = sl.boundary) :
    outOfRange t sl' = outOfRange s sl := by
  have hscene : outOfRange t.scene sl = outOfRange s.scene sl := by rw [h]
  have hsame : outOfRange t sl' = outOfRange t sl := by rw [outOfRange, hboundary]; rfl
  exact hsame.trans hscene

/-! ### The causes raised -/

theorem judgeSequence_later_iff {r : PeerRecord} {tel : Telegram} (h : ¬Repeats r tel) :
    (judgeSequence r tel.sequence == .inOrder || judgeSequence r tel.sequence == .gap) = true ↔
      r.state ≠ .unheard ∧ tel.sequence ≠ 0 := by
  have hrestart := judgeSequence_restart_iff h
  have hnew := mt repeats_iff.mpr h
  have hunheard : judgeSequence r tel.sequence = .firstHearing ↔ r.state = .unheard := by
    unfold judgeSequence
    split
    next hunheard => exact iff_of_true rfl hunheard
    next hheard =>
      refine iff_of_false ?_ hheard
      split
      · nofun
      · split
        · nofun
        · split <;> nofun
  cases hj : judgeSequence r tel.sequence <;> simp_all

theorem comesToStand_map {before : List Bool} {slots : List Slot} {i : Nat} {sl : Slot} (hsl : slots[i]? = some sl)
    (f : Slot → Bool) : comesToStand before (slots.map f) i = true ↔ f sl = true ∧ before[i]? ≠ some true := by
  have hafter : (slots.map f)[i]? = some (f sl) := by rw [List.getElem?_map, hsl]; rfl
  rw [comesToStand, hafter]
  cases before[i]? with
  | none => simp
  | some b => cases b <;> simp

/-- A missing view comes to stand where none stood, by a telegram other than a LOCKDOWN one (R98). -/
theorem comesToStand_missing {s : State} {tel : Telegram} {r : PeerRecord} {i : Nat} {sl : Slot} (hsl : s.slots[i]? = some sl) :
    comesToStand r.missing (missingAfter s.own s.slots r tel) i = true ↔
      tel.status ≠ .lockdown ∧ (sl.uses s.own r.station && !carriesView tel sl) = true ∧ r.missing[i]? ≠ some true := by
  unfold missingAfter
  split
  next h => simp [comesToStand, h]
  next h =>
    rw [comesToStand_map hsl]
    exact (and_iff_right h).symm

theorem acceptedRecord_totalsChange {dt : Nat} {s : State} {tel : Telegram} {r : PeerRecord} :
    totalsChange r (s.acceptedRecord dt tel r) = true ↔ tel.status ≠ .lockdown ∧ (tel.txy ≠ r.txy ∨ tel.tyx ≠ r.tyx) := by
  by_cases h : tel.status = .lockdown
  · simp [totalsChange, State.acceptedRecord, PeerRecord.accept, h]
  · have hchange : totalsChange r (s.acceptedRecord dt tel r) = (r.txy != tel.txy || r.tyx != tel.tyx) := by
      simp [totalsChange, State.acceptedRecord, PeerRecord.accept, h]
    rw [hchange, Bool.or_eq_true, bne_iff_ne, bne_iff_ne, and_iff_right h]
    exact or_congr ne_comm ne_comm

/-- The causes an accepted telegram declares on the slot of number `i`, by the fields that raise them (6.4 to 6.7, 7.2), with
`t` a state of the totals it brings. -/
def State.Declares (t : State) (r : PeerRecord) (tel : Telegram) (i : Nat) (sl : Slot) (uses : Prop) : Cause → Prop
  | .peerRestart => uses ∧ r.state ≠ .unheard ∧ tel.sequence = 0
  | .countJump => uses ∧ r.state ≠ .unheard ∧ tel.sequence ≠ 0 ∧ tel.status ≠ .lockdown ∧
      (4095 < (tel.txy - r.txy).toNat ∨ 4095 < (tel.tyx - r.tyx).toNat)
  | .peerHead => uses ∧ (tel.status = .faulty ∨ tel.status = .lockdown) ∧ r.status ≠ some tel.status
  | .boundaryMismatch =>
      (uses ∧ tel.status ≠ .lockdown ∧ r.missing[i]? ≠ some true ∧
        ∀ v ∈ tel.views, v.sectionNumber.toNat ≠ sl.sectionNumber) ∨
      (¬uses ∧ r.foreign[i]? ≠ some true ∧ ∃ v ∈ tel.views, v.sectionNumber.toNat = sl.sectionNumber)
  | .countRange => uses ∧ sl.state.evaluating = true ∧ sl.range = false ∧ tel.status ≠ .lockdown ∧
      (tel.txy ≠ r.txy ∨ tel.tyx ≠ r.tyx) ∧ outOfRange t sl = true
  | _ => False

/-- A telegram of a peer that is accepted outside lockdown (R88, R89). -/
structure Accepts (s : State) (tel : Telegram) (r : PeerRecord) : Prop where
  unlocked : s.lockdown = false
  record : s.peer? tel.sender.toNat = some r
  wellFormed : wellFormedTelegram tel = true
  other : tel.sender.toNat ≠ s.own
  new : ¬Repeats r tel

theorem Accepts.station {s : State} {tel : Telegram} {r : PeerRecord} (h : Accepts s tel r) : r.station = tel.sender.toNat :=
  peer?_station h.record

end Sys2Proof.Machine

namespace Sys2Proof.Machine
variable {dt : Nat} {s t : State} {tel : Telegram} {r : PeerRecord} {i : Nat} {sl : Slot} {uses : Prop}

theorem uses_beforeTelegram (h : Accepts s tel r) (huses : uses ↔ ∃ b ∈ sl.boundary, b.station = tel.sender.toNat) :
    (r.beforeTelegram tel sl).uses (s.withAccepted dt tel r).own (s.acceptedRecord dt tel r).station = true ↔ uses := by
  rw [withAccepted_own, (beforeTelegram_same r tel sl).uses]
  change sl.uses s.own r.station = true ↔ uses
  rw [h.station, uses_iff, huses]
  exact and_iff_right h.other

/-- BOUNDARY_MISMATCH is declared where a missing or a foreign view comes to stand (R98, R99). -/
theorem raises_boundaryMismatch_iff (h : Accepts s tel r) (hsl : s.slots[i]? = some sl)
    (huses : uses ↔ ∃ b ∈ sl.boundary, b.station = tel.sender.toNat) :
    (comesToStand r.missing (missingAfter s.own s.slots r tel) i ||
      comesToStand r.foreign (foreignAfter s.own s.slots r tel) i) = true ↔ t.Declares r tel i sl uses .boundaryMismatch := by
  have huses' : sl.uses s.own r.station = true ↔ uses := by
    rw [h.station, uses_iff, huses]
    exact and_iff_right h.other
  have hcarries : carriesView tel sl = true ↔ ∃ v ∈ tel.views, v.sectionNumber.toNat = sl.sectionNumber :=
    carriesView_iff h.wellFormed
  have hforeign : comesToStand r.foreign (foreignAfter s.own s.slots r tel) i = true ↔ _ :=
    comesToStand_map (before := r.foreign) hsl (fun sl => !sl.uses s.own r.station && carriesView tel sl)
  have hmissed : (sl.uses s.own r.station && !carriesView tel sl) = true ↔
      uses ∧ ∀ v ∈ tel.views, v.sectionNumber.toNat ≠ sl.sectionNumber := by
    rw [Bool.and_eq_true, huses', Bool.not_eq_true', ← Bool.not_eq_true, hcarries]
    simp
  have hstray : (!sl.uses s.own r.station && carriesView tel sl) = true ↔
      ¬uses ∧ ∃ v ∈ tel.views, v.sectionNumber.toNat = sl.sectionNumber := by
    rw [Bool.and_eq_true, hcarries, Bool.not_eq_true', ← Bool.not_eq_true, huses']
  rw [Bool.or_eq_true, comesToStand_missing hsl, hforeign, hmissed, hstray]
  exact or_congr ⟨fun ⟨hstatus, ⟨huses, hnone⟩, hnew⟩ => ⟨huses, hstatus, hnew, hnone⟩,
    fun ⟨huses, hstatus, hnew, hnone⟩ => ⟨hstatus, ⟨huses, hnone⟩, hnew⟩⟩
    ⟨fun ⟨⟨huses, hsome⟩, hnew⟩ => ⟨huses, hnew, hsome⟩, fun ⟨huses, hnew, hsome⟩ => ⟨⟨huses, hsome⟩, hnew⟩⟩

/-- COUNT_RANGE is declared where a changed total brings an evaluating slot out of its range (R124). -/
theorem raises_changes_iff (h : Accepts s tel r) (hscene : t.scene = (s.withAccepted dt tel r).scene)
    (huses : uses ↔ ∃ b ∈ sl.boundary, b.station = tel.sender.toNat) :
    Item.raises r (s.acceptedRecord dt tel r) (s.withAccepted dt tel r) i (r.beforeTelegram tel sl) .changes = true ↔
      t.Declares r tel i sl uses .countRange := by
  obtain ⟨identity, hbefore⟩ := beforeTelegram_eq r tel sl
  have hrange : outOfRange (s.withAccepted dt tel r) (r.beforeTelegram tel sl) = outOfRange t sl :=
    outOfRange_of_scene (s := t) (sl := sl) hscene.symm (by rw [hbefore])
  have hstate : (r.beforeTelegram tel sl).state = sl.state := by rw [hbefore]
  have hstands : (r.beforeTelegram tel sl).range = sl.range := by rw [hbefore]
  rw [Item.raises, Bool.and_eq_true, Bool.and_eq_true, uses_beforeTelegram h huses, acceptedRecord_totalsChange, rangeRises, hrange,
    hstate, hstands]
  simp only [Bool.and_eq_true, Bool.not_eq_true']
  exact ⟨fun ⟨⟨huses, hstatus, hchanged⟩, ⟨hevaluating, hout⟩, hrange⟩ => ⟨huses, hevaluating, hrange, hstatus, hchanged, hout⟩,
    fun ⟨huses, hevaluating, hrange, hstatus, hchanged, hout⟩ => ⟨⟨huses, hstatus, hchanged⟩, ⟨hevaluating, hout⟩, hrange⟩⟩

theorem raised_iff (h : Accepts s tel r) (hsl : s.slots[i]? = some sl) (hscene : t.scene = (s.withAccepted dt tel r).scene)
    (huses : uses ↔ ∃ b ∈ sl.boundary, b.station = tel.sender.toNat) (c : Cause) :
    Raised r (s.acceptedRecord dt tel r) (itemsOf r (judgeSequence r tel.sequence) tel) (s.withAccepted dt tel r) i
      (r.beforeTelegram tel sl) c ↔ t.Declares r tel i sl uses c := by
  obtain ⟨hrestart, hjump, hhead, hmismatch, hchanges⟩ := mem_itemsOf (r := r) (j := judgeSequence r tel.sequence) (tel := tel)
  have hused := uses_beforeTelegram (dt := dt) h huses
  cases c with
  | peerRestart =>
    refine (raised_cause Item.peerRestart).trans ?_
    rw [hrestart, judgeSequence_restart_iff h.new, and_comm]
    exact and_congr_left' hused
  | countJump =>
    refine (raised_cause Item.countJump).trans ?_
    rw [hjump, and_comm]
    refine and_congr hused ?_
    rw [jumps, Bool.and_eq_true, Bool.and_eq_true, judgeSequence_later_iff h.new]
    simp [and_assoc]
  | peerHead =>
    refine (raised_cause Item.peerHead).trans ?_
    rw [hhead, and_comm]
    refine and_congr hused ?_
    simp [headFails]
  | boundaryMismatch =>
    refine (raised_cause Item.boundaryMismatch).trans ?_
    rw [and_iff_right hmismatch]
    exact raises_boundaryMismatch_iff h hsl huses
  | countRange =>
    refine (raised_cause Item.changes).trans ?_
    rw [and_iff_right hchanges]
    exact raises_changes_iff h hscene huses
  | _ =>
    refine iff_of_false ?_ id
    rintro ⟨item, -, -, hcause⟩
    cases item <;> cases hcause

end Sys2Proof.Machine

namespace Sys2Proof.Machine

/-! ### A telegram without a cause of its own -/

/-- A telegram that raises no cause by its number, its totals or its head status. -/
structure Uneventful (r : PeerRecord) (tel : Telegram) : Prop where
  later : tel.sequence ≠ 0
  sound : tel.status ≠ .faulty ∧ tel.status ≠ .lockdown
  small : (tel.txy - r.txy).toNat ≤ 4095 ∧ (tel.tyx - r.tyx).toNat ≤ 4095

theorem takeChanges_of_same {r after : PeerRecord} {s : State} {evaluating : Bool} {sl : Slot} (h : totalsChange r after = false) :
    takeChanges r after s evaluating sl = judge s false sl := if_neg (by rw [h]; nofun)

/-- The peers of a settled slot are still FRESH with the accepted record. -/
theorem settled_withAccepted {dt : Nat} {s : State} {tel : Telegram} {r : PeerRecord} (hr : s.peer? tel.sender.toNat = some r)
    {sl x : Slot} (hboundary : x.boundary = sl.boundary) (hsettled : x.settledSince = sl.settledSince)
    (h : s.settled sl = true) : (s.withAccepted dt tel r).settled x = true := by
  have hstations : x.peerStations (s.withAccepted dt tel r).own = sl.peerStations s.own := by
    rw [withAccepted_own, Slot.peerStations, hboundary]
    rfl
  rw [State.settled, Bool.and_eq_true, State.everyPeer, List.all_eq_true] at h ⊢
  rw [hsettled, hstations]
  refine ⟨h.1, fun n hn => ?_⟩
  have hpeer := h.2 n hn
  rw [withAccepted_peer? hr]
  by_cases hn : n = tel.sender.toNat
  · rw [if_pos hn]
    rfl
  · rw [if_neg hn]
    exact hpeer

theorem disturb_enters {sl : Slot} (h : sl.state.evaluating = true) (cause : Cause) (time : Word32) (station : Nat) :
    (disturb cause time station sl).record = sl.record.enter cause time station := by
  have hstate : sl.state ≠ .disturbed := by
    intro h'
    rw [h'] at h
    cases h
  rw [disturb, if_neg hstate]

/-- On a slot that uses the peer and whose section it carries a view of, a telegram without a cause of its own can bring
COUNT_RANGE alone. -/
theorem declares_uneventful {t : State} {r : PeerRecord} {tel : Telegram} {i : Nat} {sl : Slot} {uses : Prop}
    (h : Uneventful r tel) (huses : uses) {v : ViewPart} (hv : v ∈ tel.views) (hsection : v.sectionNumber.toNat = sl.sectionNumber)
    {c : Cause} (hc : t.Declares r tel i sl uses c) : c = .countRange := by
  obtain ⟨hsmall, hsmall'⟩ := h.small
  cases c with
  | peerRestart => exact absurd hc.2.2 h.later
  | countJump =>
    obtain ⟨-, -, -, -, hjump | hjump⟩ := hc <;> omega
  | peerHead =>
    obtain ⟨-, hfaulty | hlockdown, -⟩ := hc
    · exact absurd hfaulty h.sound.1
    · exact absurd hlockdown h.sound.2
  | boundaryMismatch =>
    obtain ⟨-, -, -, hnone⟩ | ⟨hunused, -⟩ := hc
    · exact absurd hsection (hnone v hv)
    · exact absurd huses hunused
  | countRange => rfl
  | _ => exact hc.elim

theorem viewCause_mismatch {s : State} {sl : Slot} {v : View} (hview : v.state.evaluating = true)
    (hsl : sl.state.evaluating = true) (hsettled : v.settled = true) (hsettled' : s.settled sl = true)
    (hbalance : v.balance ≠ sl.balance) : s.viewCause sl v = some .viewMismatch := by
  have hshows : showsDisturbed sl v = false := by
    unfold showsDisturbed
    cases hstate : v.state <;> rw [hstate] at hview <;> first | rfl | cases hview
  have hcross : crossCheckFails s sl v = true := by
    simp [crossCheckFails, hview, hsl, hsettled, hsettled', hbalance]
  rw [State.viewCause, hshows, hcross]
  rfl

theorem viewCause_disturbed {s : State} {sl : Slot} {v : View} (h : v.state = .disturbed ∨ (v.state = .agreeing ∧
    ∀ d held, v.demand = some d → sl.reset.demand = some held → d.identity ≠ held.identity)) :
    s.viewCause sl v = some .peerDisturbed := by
  have hshows : showsDisturbed sl v = true := by
    unfold showsDisturbed
    obtain h | ⟨h, hother⟩ := h
    · rw [h]
    · rw [h]
      dsimp only
      split
      next d held hd hheld => simp [hother d held hd hheld]
      next => rfl
  rw [State.viewCause, if_pos hshows]

theorem viewCause_lingering {s : State} {sl : Slot} {v : View} {d : ViewDemand} {held : Demand} (hstate : v.state = .agreeing)
    (hdemand : v.demand = some d) (hheld : sl.reset.demand = some held) (hsame : d.identity = held.identity) :
    s.viewCause sl v = none := by
  have hshows : showsDisturbed sl v = false := by simp [showsDisturbed, hstate, hdemand, hheld, hsame]
  have hcross : crossCheckFails s sl v = false := by simp [crossCheckFails, hstate, SlotState.evaluating]
  rw [State.viewCause, hshows, hcross]
  rfl

/-- With no cause of its own and the totals unchanged, a telegram brings an evaluating slot its view alone. -/
theorem telegramSlot_quiet {order : TakingOrder} {r after : PeerRecord} {items : List Item} {s : State} {i : Nat} {sl : Slot}
    (hitems : items.count .changes = 1) (huses : sl.uses s.own after.station = true)
    (hquiet : ∀ item ∈ items, item ≠ .changes → item.raises r after s i sl = false) (hsame : totalsChange r after = false) :
    telegramSlot order r after items s i sl =
      readSlot order false after false s i (readSlot order true after false s i (judge s false sl)) := by
  rw [telegramSlot, takeSlotItems_calm hitems huses hquiet, takeChanges_of_same hsame, hsame]

/-- What is recorded of causes on a slot that was evaluating, where there is one cause alone. -/
theorem Recorded.single {s : State} {sender : Nat} {raised : Cause → Prop} {sl sl' : Slot} {c : Cause}
    (h : Recorded s sender raised sl.mark sl'.mark) (hsl : sl.state.evaluating = true) (hc : ∀ c', raised c' → c' = c) :
    sl'.state = .disturbed ∧ sl'.record.firstCause = some c ∧
      sl'.record.firstStation = some (if c = .boundaryMismatch ∨ c = .countRange then s.own else sender) ∧
      sl'.record.count = min 255 (sl.record.count + 1) := by
  have hstate : sl.state ≠ .disturbed := by
    intro h'
    rw [h'] at hsl
    cases hsl
  obtain ⟨first, hfirst, hcause, -, hstation, hcount, -⟩ := h.entered (decide_eq_false hstate)
  obtain rfl := hc first hfirst
  exact ⟨of_decide_eq_true h.disturbed, hcause, hstation, hcount⟩

/-! ### The slot after the telegram -/

/-- The slot of number `i` after an accepted telegram. -/
def State.slotAfter (s : State) (dt : Nat) (tel : Telegram) (order : TakingOrder) (r : PeerRecord) (i : Nat) (sl : Slot) : Slot :=
  telegramSlot order r (s.acceptedRecord dt tel r) (itemsOf r (judgeSequence r tel.sequence) tel) (s.withAccepted dt tel r) i
    (r.beforeTelegram tel sl)

end Sys2Proof.Machine

namespace Sys2Proof.Machine
variable {dt : Nat} {s t : State} {tel : Telegram} {order : TakingOrder} {r : PeerRecord} {i : Nat} {sl : Slot} {uses : Prop}

/-- With a cause declared and no view AGREEING of its section, the slot records the causes. -/
theorem slotAfter_recorded (h : Accepts s tel r) (hsl : s.slots[i]? = some sl)
    (hscene : t.scene = (s.withAccepted dt tel r).scene) (huses : uses ↔ ∃ b ∈ sl.boundary, b.station = tel.sender.toNat)
    (hviews : ∀ v, (s.acceptedRecord dt tel r).view? sl.sectionNumber = some v → v.state ≠ .agreeing)
    (hsome : ∃ c, t.Declares r tel i sl uses c) :
    Recorded (s.withAccepted dt tel r) r.station (t.Declares r tel i sl uses) sl.mark (s.slotAfter dt tel order r i sl).mark := by
  obtain ⟨identity, hbefore⟩ := beforeTelegram_eq r tel sl
  have hmark : (r.beforeTelegram tel sl).mark = sl.mark := by rw [hbefore]; rfl
  have hraised := raised_iff h hsl hscene huses
  rw [← hmark, ← funext fun c => propext (hraised c)]
  exact telegramSlot_recorded ((withAccepted_lockdown ..).trans h.unlocked) (itemsOf_nodup ..) (by rw [hbefore]; exact hviews)
    (hsome.imp fun c hc => (hraised c).mpr hc)

/-- What the slot's view is read by, on a telegram that declares no cause and leaves the totals: the slot judged, still
evaluating, with the view stored for its section. -/
structure ReadsView (dt : Nat) (s : State) (tel : Telegram) (r : PeerRecord) (sl : Slot) (v' : View) (y : Slot) : Prop where
  evaluating : y.state.evaluating = true
  uses : y.uses (s.withAccepted dt tel r).own (s.acceptedRecord dt tel r).station = true
  view : (s.acceptedRecord dt tel r).view? y.sectionNumber = some v'
  record : y.record = sl.record
  demand : y.reset.demand = sl.reset.demand
  balance : y.balance = sl.balance
  settled : s.settled sl = true → (s.withAccepted dt tel r).settled y = true

theorem slotAfter_readsView (h : Accepts s tel r) (hsl : s.slots[i]? = some sl)
    (hscene : t.scene = (s.withAccepted dt tel r).scene) (huses : uses ↔ ∃ b ∈ sl.boundary, b.station = tel.sender.toNat)
    (hused : uses) (hevaluating : sl.state.evaluating = true) {v' : View}
    (hview : (s.acceptedRecord dt tel r).view? sl.sectionNumber = some v')
    (hcalm : ∀ c, t.Declares r tel i sl uses c → c = .countRange) (htxy : tel.txy = r.txy) (htyx : tel.tyx = r.tyx) :
    ∃ y, ReadsView dt s tel r sl v' y ∧ s.slotAfter dt tel order r i sl =
      readSlot order false (s.acceptedRecord dt tel r) false (s.withAccepted dt tel r) i
        (readSlot order true (s.acceptedRecord dt tel r) false (s.withAccepted dt tel r) i y) := by
  obtain ⟨identity, hbefore⟩ := beforeTelegram_eq r tel sl
  obtain ⟨state, confirmSince, entered, hjudged⟩ := judge_eq (s.withAccepted dt tel r) false (r.beforeTelegram tel sl)
  have huses' := (uses_beforeTelegram (dt := dt) h huses).mpr hused
  have hsame : totalsChange r (s.acceptedRecord dt tel r) = false := Bool.eq_false_iff.mpr fun hchange => by
    obtain ⟨-, hne | hne⟩ := acceptedRecord_totalsChange.mp hchange
    · exact hne htxy
    · exact hne htyx
  have hquiet : ∀ item ∈ itemsOf r (judgeSequence r tel.sequence) tel, item ≠ .changes →
      item.raises r (s.acceptedRecord dt tel r) (s.withAccepted dt tel r) i (r.beforeTelegram tel sl) = false :=
    fun item hitem hne => Bool.eq_false_iff.mpr fun hraises => hne (Item.cause_injective
      (hcalm _ ((raised_iff h hsl hscene huses _).mp ⟨item, hitem, hraises, rfl⟩)))
  refine ⟨_, ?_, telegramSlot_quiet (itemsOf_count ..) huses' hquiet hsame⟩
  have hkept : (judge (s.withAccepted dt tel r) false (r.beforeTelegram tel sl)).state.evaluating = true := by
    rw [judge_evaluating, hbefore]; exact hevaluating
  refine ⟨hkept, ((judge_bounds ..).uses ..).trans huses', ?_, ?_, ?_, ?_, fun hsettled => ?_⟩
  · rw [hjudged, hbefore]; exact hview
  · rw [hjudged, hbefore]
  · rw [hjudged, hbefore]
  · rw [hjudged, hbefore]
  · exact settled_withAccepted h.record (sl := sl) (by rw [hjudged, hbefore]) (by rw [hjudged, hbefore]) hsettled

/-- A view that calls for a cause disturbs the slot with it. -/
theorem ReadsView.disturbs (h : Accepts s tel r) {v' : View} {y : Slot} (hy : ReadsView dt s tel r sl v' y) {c : Cause}
    (hc : (s.withAccepted dt tel r).viewCause y v' = some c)
    (horder : order.resetFirst[i]? = some true ∨ ∀ d, v'.offer = some d → (s.withAccepted dt tel r).headReady = false)
    {x : Slot} (hx : x = readSlot order false (s.acceptedRecord dt tel r) false (s.withAccepted dt tel r) i
      (readSlot order true (s.acceptedRecord dt tel r) false (s.withAccepted dt tel r) i y)) :
    x.state = .disturbed ∧ x.record.firstCause = some c ∧ x.record.firstStation = some s.own ∧
      x.record.count = min 255 (sl.record.count + 1) := by
  rw [hx, readSlots_disturb ((withAccepted_lockdown ..).trans h.unlocked) hy.uses hy.evaluating hy.view hc horder]
  refine ⟨disturb_state .., ?_⟩
  rw [disturb_enters hy.evaluating, hy.record, withAccepted_own]
  exact ⟨rfl, rfl, rfl⟩

/-- A view that calls for none leaves the slot evaluating with its record. -/
theorem ReadsView.keeps (h : Accepts s tel r) {v' : View} {y : Slot} (hy : ReadsView dt s tel r sl v' y)
    (hc : (s.withAccepted dt tel r).viewCause y v' = none)
    {x : Slot} (hx : x = readSlot order false (s.acceptedRecord dt tel r) false (s.withAccepted dt tel r) i
      (readSlot order true (s.acceptedRecord dt tel r) false (s.withAccepted dt tel r) i y)) :
    x.state.evaluating = true ∧ x.record = sl.record := by
  rw [hx, ← hy.record]
  exact readSlots_keep ((withAccepted_lockdown ..).trans h.unlocked) hy.uses hy.evaluating hy.view hc

end Sys2Proof.Machine

namespace Sys2Proof.Machine

/-- The demand of a stored view is another than the slot's where the part sent shows another identity. -/
theorem otherDemand_of_part {v : ViewPart} {v' : View} {held : Option Demand} (hdemand : v'.demand = v.demand.bind DemandPart.read)
    (hother : ∀ d demand, v.demand = some d → held = some demand →
      d.originator.toNat ≠ demand.identity.originator ∨ d.number.toNat % 128 ≠ demand.identity.number) :
    ∀ d demand, v'.demand = some d → held = some demand → d.identity ≠ demand.identity := by
  intro d' demand hd' hheld hidentity
  obtain ⟨d, hd, hdread⟩ := Option.bind_eq_some_iff.mp (hdemand.symm.trans hd')
  have hsame := (DemandPart.read_some hdread).symm.trans hidentity
  obtain h | h := hother d demand hd hheld
  · exact h (congrArg Identity.originator hsame)
  · exact h (congrArg Identity.number hsame)

theorem offer_none_of_state {v : View} {p : Prop} (h : v.state ≠ .agreeing) (d : ViewDemand) (hoffer : v.offer = some d) : p :=
  absurd (View.offer_some hoffer).1 h

end Sys2Proof.Machine

namespace Sys2Proof.Proofs
open Sys2Proof.Machine

/-- Settles O30: the causes that reach the slot are taken in some order, each once, and leave it DISTURBED, so that no view
disturbs it further; without one the slot is still evaluating when its view is read. -/
theorem peerCausesDisturb : Obligations.PeerCausesDisturb := by
  intro dt s tel order r hconnected hconfigured hunlocked hr hwell hother hnew
  have haccepts : Accepts s tel r := ⟨hunlocked, hr, hwell, hother, hnew⟩
  obtain ⟨t, hexec, -, hscene, hslots⟩ := exec_accepted_result order hconnected hconfigured hr hwell hnew (dt := dt)
  refine ⟨t, hexec, fun i sl hsl => ⟨s.slotAfter dt tel order r i sl,
    by rw [hslots, List.getElem?_mapIdx, List.getElem?_map, hsl]; rfl, ?_⟩⟩
  intro uses calm raised huses hraised hcalm
  obtain rfl : raised = t.Declares r tel i sl uses := funext fun c => propext ((hraised c).trans (by cases c <;> exact Iff.rfl))
  have hrecorded := slotAfter_recorded (order := order) haccepts hsl hscene huses
  refine ⟨fun hviews hsome => ?_, fun v hv hvsection hused hcalmed hsl' => ?_⟩
  · have h := hrecorded (fun v' hv' hstate => by
      obtain ⟨v, hv, hread, -⟩ := view?_mem hv'
      exact hviews v hv (agreeing_of_code ((read_some hread).2.1.trans (congrArg some hstate)))) hsome
    refine ⟨of_decide_eq_true h.disturbed, fun hdisturbed => h.held (decide_eq_true hdisturbed), fun hfresh => ?_⟩
    obtain ⟨first, hfirst, hcause, hfirstTime, hfirstStation, hrest⟩ := h.entered (decide_eq_false hfresh)
    rw [← stationTime_of_scene hscene] at hfirstTime
    rw [withAccepted_own, haccepts.station] at hfirstStation
    exact ⟨first, hfirst, hcause, hfirstTime, hfirstStation, hrest⟩
  · obtain ⟨hlater, hfaulty, hlockdown, hsmall⟩ := hcalm.mp hcalmed
    obtain ⟨v', hread, hview⟩ := acceptedRecord_view? (s := s) (dt := dt) (r := r) hwell hv
    obtain ⟨-, hstate, hbalance, hsettled, hdemand, -, -, hreads⟩ := read_some hread
    rw [hvsection] at hview
    have honly : ∀ c, t.Declares r tel i sl uses c → c = .countRange := fun c hc =>
      declares_uneventful ⟨hlater, ⟨hfaulty, hlockdown⟩, hsmall⟩ hused hv hvsection hc
    refine ⟨fun hcode hrange hchanged hout => ?_, fun htxy htyx => ?_⟩
    · have hunoffered : ∀ w, (s.acceptedRecord dt tel r).view? sl.sectionNumber = some w → w.state ≠ .agreeing :=
        fun w hw hagreeing => by
          obtain rfl := Option.some.inj (hview.symm.trans hw)
          have := evaluating_of_code hstate hcode
          rw [hagreeing] at this
          cases this
      have h := hrecorded hunoffered ⟨.countRange, hused, hsl', hrange, hlockdown, hchanged, hout⟩
      obtain ⟨hdisturbed, hcause, hfirst, hcount⟩ := h.single hsl' honly
      exact ⟨hdisturbed, hcause, hfirst.trans (congrArg some (withAccepted_own ..)), hcount⟩
    · obtain ⟨y, hy, hafter⟩ := slotAfter_readsView (order := order) haccepts hsl hscene huses hused hsl' hview honly htxy htyx
      refine ⟨fun hcode hvsettled hslsettled hdiffer => ?_, fun hshown => ?_, fun d held hcode hd hheld horiginator hnumber => ?_⟩
      · have hv'evaluating := evaluating_of_code hstate hcode
        refine hy.disturbs haccepts (viewCause_mismatch hv'evaluating hy.evaluating (hsettled.trans hvsettled)
          (hy.settled hslsettled) (by rw [hbalance, hy.balance]; exact hdiffer)) (.inr (offer_none_of_state fun hagreeing => ?_)) hafter
        rw [hagreeing] at hv'evaluating
        cases hv'evaluating
      · obtain hcode | ⟨hcode, horder, hother⟩ := hshown <;> rw [hcode] at hstate <;>
          have hshows := (Option.some.inj hstate).symm
        · exact hy.disturbs haccepts (viewCause_disturbed (.inl hshows))
            (.inr (offer_none_of_state (by rw [hshows]; decide))) hafter
        · refine hy.disturbs haccepts (viewCause_disturbed (.inr ⟨hshows, otherDemand_of_part hdemand (hy.demand ▸ hother)⟩)) ?_ hafter
          obtain hhead | horder := horder
          · refine .inr fun _ _ => ?_
            rw [withAccepted_headReady, State.headReady, Bool.and_eq_false_iff]
            exact .inl (beq_eq_false_iff_ne.mpr hhead)
          · exact .inl horder
      · rw [hcode] at hstate
        obtain ⟨d', hdread⟩ := Option.isSome_iff_exists.mp (hreads d hd)
        have hidentity : d'.identity = held.identity := by
          rw [DemandPart.read_some hdread, horiginator, hnumber]
        exact hy.keeps haccepts (viewCause_lingering (Option.some.inj hstate).symm
          (by rw [hdemand, hd, Option.bind_some, hdread]) (hy.demand.trans hheld) hidentity) hafter

end Sys2Proof.Proofs
end

section
/-! PROOFS. The Reset Controller and the views of accepted telegrams (O38, O39). -/

namespace Sys2Proof.Machine

/-! ### Rules of a slot in one scene -/

theorem takeView_scene (s : State) (sender : Nat) (view : Option View) (sl : Slot) :
    takeView s sender view sl = takeView s.scene sender view sl := rfl

theorem recompute_scene (s : State) (sl : Slot) : recompute s sl = recompute s.scene sl := rfl

theorem takeView_of_scene {s t : State} (h : t.scene = s.scene) (sender : Nat) (view : Option View) (sl : Slot) :
    takeView t sender view sl = takeView s sender view sl := by
  rw [takeView_scene, h, ← takeView_scene]

theorem rangeAfter_of_scene {s t : State} (h : t.scene = s.scene) (before sl : Slot) :
    rangeAfter t before sl = rangeAfter s before sl := by
  rw [rangeAfter_scene, h, ← rangeAfter_scene]

theorem atViews_of_scene {s t : State} (h : t.scene = s.scene) (r : PeerRecord) (tel : Telegram) (sl : Slot) :
    sl.atViews t r tel = sl.atViews s r tel := by
  rw [Slot.atViews, Slot.atViews, recompute_scene t, h, ← recompute_scene, scene_now h]

/-! ### A judgement repeated -/

theorem startClearing_judged (now : Tick) (sl : Slot) : judgeClearing now true false (sl.startClearing now) = sl.startClearing now :=
  rfl

/-- A judgement by the same conditions moves a slot once. -/
theorem judgeClearing_idem (now : Tick) (holds : Bool) (sl : Slot) :
    judgeClearing now holds false (judgeClearing now holds false sl) = judgeClearing now holds false sl := by
  obtain h | ⟨rfl, -, h⟩ | ⟨-, hchanged, -⟩ | ⟨-, hfails, h⟩ := judgeClearing_cases now holds false sl
  · rw [h, h]
  · rw [h, startClearing_judged]
  · cases hchanged
  · obtain rfl : holds = false := hfails.resolve_right nofun
    rw [h]
    rfl

theorem judge_idem (s : State) (sl : Slot) : judge s false (judge s false sl) = judge s false sl := by
  obtain ⟨_, _, _, h⟩ := judge_eq s false sl
  have hsame : s.clearingConditions (judge s false sl) = s.clearingConditions sl := by rw [h]; rfl
  rw [judge, hsame]
  exact judgeClearing_idem ..

/-! ### What a view leaves of a slot that was not evaluating -/

/-- If the slot is evaluating it has been judged already, and holds the demand of the view. -/
def AppliedFrom (s : State) (view : Option View) (sl : Slot) : Prop :=
  sl.state.evaluating = true → judge s false sl = sl ∧ ∃ v held, view = some v ∧ sl.reset.demand = some held ∧
    v.demand.map (·.identity) = some held.identity

theorem AppliedFrom.of_not {s : State} {view : Option View} {sl : Slot} (h : sl.state.evaluating = false) :
    AppliedFrom s view sl := fun h' => by
  rw [h] at h'
  cases h'

theorem applyDemand_demand (s : State) (demand : Demand) (sl : Slot) :
    (applyDemand s demand sl).reset.demand = sl.reset.demand := by
  obtain ⟨_, _, _, h⟩ := judge_eq s false { rebased s demand sl with
    negativeSince := if (rebased s demand sl).balance < 0 then some s.now else none }
  rw [applyDemand, h]
  rfl

theorem setAgreement_appliedFrom {s : State} {v : View} {demand : Demand} {members : List Nat} {sl : Slot}
    (hstate : sl.state = .agreeing) (hdemand : sl.reset.demand = some demand)
    (hidentity : v.demand.map (·.identity) = some demand.identity) :
    AppliedFrom s (some v) (setAgreement s demand members sl) := by
  obtain ⟨-, h⟩ | ⟨-, h⟩ := setAgreement_cases s demand members sl
  · rw [h]
    exact .of_not (by rw [hstate]; rfl)
  · rw [h]
    exact fun _ => ⟨judge_idem .., v, demand, rfl, (applyDemand_demand ..).trans hdemand, hidentity⟩

theorem judgeAdoption_appliedFrom {s : State} {sender : Nat} {v : View} {d : ViewDemand} {sl : Slot}
    (hstate : sl.state = .disturbed) (hdemand : v.demand = some d) :
    AppliedFrom s (some v) (judgeAdoption s sender d sl) := by
  obtain h | ⟨-, h⟩ | ⟨-, h⟩ := judgeAdoption_cases s sender d sl <;> rw [h]
  · exact .of_not (by rw [hstate]; rfl)
  · exact .of_not (by rw [hstate]; rfl)
  · exact setAgreement_appliedFrom rfl rfl (by rw [hdemand]; rfl)

theorem takeView_appliedFrom {s : State} {sender : Nat} {view : Option View} {sl : Slot} (h : sl.state.evaluating = false) :
    AppliedFrom s view (takeView s sender view sl) := by
  generalize hview : takeView s sender view sl = sl'
  have htaken := takeView_taken s sender view sl
  rw [hview] at htaken
  cases htaken with
  | nothing | leaves => exact .of_not h
  | joins v demand members hv hstate hdemand hidentity => rw [hv]; exact setAgreement_appliedFrom hstate hdemand hidentity
  | judged v d hv _ hdemand hstate => rw [hv]; exact judgeAdoption_appliedFrom hstate hdemand
  | superseded v d hv _ hdemand => rw [hv]; exact judgeAdoption_appliedFrom rfl hdemand

/-- The Section Evaluator adds nothing to what an AGREEING view has brought, or to a telegram without one. -/
theorem evaluatorTakes_of_applied {s : State} {judged : Bool} {view : Option View} {sl : Slot} (h : AppliedFrom s view sl)
    (hview : ∀ v, view = some v → v.state = .agreeing) : evaluatorTakes s judged view sl = sl := by
  have hseen : evaluateView s view sl = sl := by
    cases view with
    | none => rfl
    | some v =>
      have hagreeing := hview v rfl
      unfold evaluateView
      dsimp only
      cases hevaluating : sl.state.evaluating
      · exact if_pos (by simp)
      · obtain ⟨-, v', held, hv', hheld, hidentity⟩ := h hevaluating
        obtain rfl := Option.some.inj hv'
        obtain ⟨d, hd, hsame⟩ := Option.map_eq_some_iff.mp hidentity
        have hshows : showsDisturbed sl v = false := by simp [showsDisturbed, hagreeing, hd, hheld, hsame]
        have hcross : crossCheckFails s sl v = false := by simp [crossCheckFails, hagreeing, SlotState.evaluating]
        rw [hshows, hcross]
        exact ite_self _
  rw [evaluatorTakes, hseen]
  cases judged
  · cases hevaluating : sl.state.evaluating
    · exact judge_of_not_evaluating hevaluating s false
    · exact (h hevaluating).1
  · rfl

/-! ### A telegram without a cause on a slot DISTURBED or AGREEING -/

/-- The two readers of the view of a slot that is not evaluating bring what the Reset Controller makes of it. -/
theorem readSlots_of_not_evaluating {order : TakingOrder} {after : PeerRecord} {judged : Bool} {s : State} {i : Nat}
    {sl : Slot} (huses : sl.uses s.own after.station = true) (hstate : sl.state.evaluating = false)
    (horder : order.resetFirst[i]? ≠ some true ∨ ∀ v, after.view? sl.sectionNumber = some v → v.state = .agreeing) :
    readSlot order false after judged s i (readSlot order true after judged s i sl) =
      rangeAfter s sl (takeView s after.station (after.view? sl.sectionNumber) sl) := by
  have hevaluator : ∀ view, evaluatorTakes s judged view sl = sl := by
    intro view
    have hseen : evaluateView s view sl = sl := by
      cases view with
      | none => rfl
      | some v => exact if_pos (by rw [hstate]; simp)
    rw [evaluatorTakes, hseen]
    cases judged
    · exact judge_of_not_evaluating hstate s false
    · rfl
  have hreset : ∀ first, order.resetFirst[i]?.getD false = first → readSlot order first after judged s i sl =
      rangeAfter s sl (takeView s after.station (after.view? sl.sectionNumber) sl) := by
    intro first hfirst
    rw [readSlot, readView]
    rw [if_pos huses, if_pos hfirst]
  cases hfirst : order.resetFirst[i]?.getD false with
  | false =>
    have hread : readSlot order true after judged s i sl = sl := by
      rw [readSlot, readView]
      rw [if_pos huses, if_neg (by rw [hfirst]; nofun), hevaluator]
      exact rangeAfter_of_not_evaluating s sl hstate
    rw [hread, hreset false hfirst]
  | true =>
    have hagreeing : ∀ v, after.view? sl.sectionNumber = some v → v.state = .agreeing :=
      horder.resolve_left fun h => by
        cases hget : order.resetFirst[i]? with
        | none => rw [hget] at hfirst; cases hfirst
        | some b =>
          rw [hget] at hfirst h
          exact h (congrArg some hfirst)
    rw [hreset true hfirst]
    have hbounds : SameBounds sl (takeView s after.station (after.view? sl.sectionNumber) sl) :=
      (takeView_taken s after.station (after.view? sl.sectionNumber) sl).bounds
    have happlied := takeView_appliedFrom (s := s) (sender := after.station) (view := after.view? sl.sectionNumber) hstate
    obtain ⟨x, hx, hxbounds, hxapplied⟩ : ∃ x, x = rangeAfter s sl (takeView s after.station
        (after.view? sl.sectionNumber) sl) ∧ SameBounds sl x ∧ AppliedFrom s (after.view? sl.sectionNumber) x :=
      ⟨_, rfl, rangeAfter_rule (P := fun x => SameBounds sl x ∧ AppliedFrom s (after.view? sl.sectionNumber) x)
        ⟨hbounds, happlied⟩ fun _ => ⟨hbounds.trans (disturb_bounds ..), .of_not (by rw [disturb_state]; rfl)⟩⟩
    rw [← hx, readSlot, readView]
    rw [if_pos ((hxbounds.uses ..).trans huses), if_neg (by rw [hfirst]; nofun), hxbounds.number,
      evaluatorTakes_of_applied hxapplied hagreeing]
    cases hevaluating : x.state.evaluating
    · exact rangeAfter_of_not_evaluating s x hevaluating
    · exact rangeAfter_of_evaluating s x hevaluating

theorem takeChanges_of_not_evaluating {dt : Nat} {s w : State} {tel : Telegram} {r : PeerRecord} {sl : Slot}
    (hstatus : tel.status ≠ .lockdown) (hstate : sl.state.evaluating = false) :
    takeChanges r (s.acceptedRecord dt tel r) w sl.state.evaluating sl = sl.atViews w r tel := by
  have hchange := acceptedRecord_totalsChange (dt := dt) (s := s) (tel := tel) (r := r)
  unfold takeChanges Slot.atViews
  by_cases hsame : tel.txy = r.txy ∧ tel.tyx = r.tyx
  · have hno : totalsChange r (s.acceptedRecord dt tel r) = false := Bool.eq_false_iff.mpr fun h => by
      obtain ⟨-, h | h⟩ := hchange.mp h
      · exact h hsame.1
      · exact h hsame.2
    rw [if_pos hsame, if_neg (by rw [hno]; nofun)]
    exact judge_of_not_evaluating hstate w false
  · have hyes : totalsChange r (s.acceptedRecord dt tel r) = true := hchange.mpr ⟨hstatus, Classical.not_and_iff_not_or_not.mp hsame⟩
    have hrange : rangeRises w sl.state.evaluating sl = false := by rw [hstate]; rfl
    rw [if_neg hsame, if_pos hyes, takeTotals, if_neg (by rw [hrange]; nofun)]
    exact judge_of_not_evaluating (by exact hstate) w true

/-- No item of such a telegram declares a cause. -/
theorem BringsView.quiet {dt : Nat} {s : State} {tel : Telegram} {order : TakingOrder} {r : PeerRecord} {i : Nat} {sl : Slot}
    {view : Option View} (h : BringsView s tel order r i sl view) :
    ∀ item ∈ itemsOf r (judgeSequence r tel.sequence) tel, item ≠ .changes →
      item.raises r (s.acceptedRecord dt tel r) (s.withAccepted dt tel r) i (r.beforeTelegram tel sl) = false := by
  intro item hitem hne
  obtain ⟨-, -, hunlocked⟩ := h.service
  obtain ⟨hrecord, hother⟩ := h.sender
  obtain ⟨hsl, -⟩ := h.slot
  have haccepts : Accepts s tel r := ⟨hunlocked, hrecord, h.wellFormed, hother, h.accepted⟩
  have hraised := raised_iff (dt := dt) haccepts hsl (t := s.withAccepted dt tel r) rfl Iff.rfl item.cause
  refine Bool.eq_false_iff.mpr fun hraises => ?_
  have hcause := hraised.mp ⟨item, hitem, hraises, rfl⟩
  cases item with
  | peerRestart => exact h.noRestart hcause.2.2
  | countJump =>
    obtain ⟨-, hheard, -, -, hjump⟩ := hcause
    obtain hunheard | ⟨hxy, hyx⟩ := h.noJump
    · exact hheard hunheard
    · omega
  | peerHead =>
    obtain ⟨-, hfaulty | hlockdown, hchanged⟩ := hcause
    · exact hchanged (hfaulty ▸ h.noHeadCause.2 hfaulty)
    · exact h.noHeadCause.1 hlockdown
  | boundaryMismatch =>
    obtain ⟨-, -, hmissing, hnone⟩ | ⟨hunused, -⟩ := hcause
    · refine hmissing (h.noMismatch (h.shown.trans ?_))
      rw [List.find?_eq_none]
      intro v' hv'
      obtain ⟨v, hv, hread⟩ := List.mem_filterMap.mp hv'
      have := hnone v hv
      rw [← (read_some hread).1] at this
      simpa using this
    · exact hunused h.uses
  | changes => exact hne rfl

/-- What an accepted telegram without a cause brings a slot DISTURBED or AGREEING. -/
theorem exec_bringsView (dt : Nat) {s : State} {tel : Telegram} {order : TakingOrder} {r : PeerRecord} {i : Nat} {sl : Slot}
    {view : Option View} (h : BringsView s tel order r i sl view) :
    ∃ t, exec (.countTelegram dt tel order) s = .next t ∧
      ∀ w found, w = { s with now := s.now + dt, peers := t.peers } → found = sl.atViews w r tel →
        t.slots[i]? = some (rangeAfter w found (takeView w tel.sender.toNat view found)) := by
  obtain ⟨hconnected, hphase, hunlocked⟩ := h.service
  have hstation := peer?_station h.sender.1
  obtain ⟨t, hexec, hends, hscene, hslots⟩ := exec_accepted_result order hconnected (by simp [State.configured, hphase])
    h.sender.1 h.wellFormed h.accepted (dt := dt)
  refine ⟨t, hexec, fun w found hw hfound => ?_⟩
  have hwscene : w.scene = (s.withAccepted dt tel r).scene := by
    have hpeers : t.peers = (s.withAccepted dt tel r).peers := congrArg (·.peers) hscene
    rw [hw, withAccepted_scene, hpeers]
    rfl
  have hbefore : r.beforeTelegram tel sl = sl :=
    congrFun (if_neg fun hrestart => h.noRestart ((judgeSequence_restart_iff h.accepted).mp hrestart).2) sl
  have hstate : sl.state.evaluating = false := by obtain hstate | hstate := h.slot.2 <;> rw [hstate] <;> rfl
  have huses : sl.uses (s.withAccepted dt tel r).own (s.acceptedRecord dt tel r).station = true := by
    rw [withAccepted_own]
    exact uses_iff.mpr ⟨hstation ▸ h.sender.2, hstation ▸ h.uses⟩
  have hquiet := h.quiet (dt := dt)
  rw [hbefore] at hquiet
  have hfound' : takeSlotItems order r (s.acceptedRecord dt tel r) (itemsOf r (judgeSequence r tel.sequence) tel)
      (s.withAccepted dt tel r) i sl = found := by
    rw [takeSlotItems_calm (itemsOf_count ..) huses hquiet, takeChanges_of_not_evaluating h.noHeadCause.1 hstate, hfound,
      atViews_of_scene hwscene]
  have hsame : SameBounds sl found ∧ found.state.evaluating = false := by
    rw [hfound, Slot.atViews]
    split
    · exact ⟨.refl sl, hstate⟩
    · exact ⟨⟨rfl, rfl, rfl, rfl⟩, hstate⟩
  have hview : (s.acceptedRecord dt tel r).view? found.sectionNumber = view := by
    rw [hsame.1.number]
    exact h.shown.symm
  rw [hslots, List.getElem?_mapIdx, List.getElem?_map, h.slot.1, Option.map_some, Option.map_some, hbefore, telegramSlot,
    hfound', readSlots_of_not_evaluating ((hsame.1.uses ..).trans huses) hsame.2
      (h.order.imp id fun horder v hv => horder v (hview.symm.trans hv)), hview, takeView_of_scene hwscene,
    rangeAfter_of_scene hwscene]
  change some (rangeAfter _ found (takeView _ r.station view found)) = _
  rw [hstation]

end Sys2Proof.Machine
end

section
/-! PROOFS. The application of a complete agreement set (O38), and the views of demands (O39). -/

namespace Sys2Proof.Machine

/-! ### The application of a demand (R142) -/

theorem complete_iff {sl : Slot} {members : List Nat} : complete sl members = true ↔ ∀ b ∈ sl.boundary, b.station ∈ members := by
  simp [complete]

/-- The slot as an application leaves it to the judgement of its clearing conditions. -/
def appliedSlot (s : State) (demand : Demand) (sl : Slot) : Slot :=
  { rebased s demand sl with negativeSince := if (rebased s demand sl).balance < 0 then some s.now else none }

theorem applyDemand_eq (s : State) (demand : Demand) (sl : Slot) :
    applyDemand s demand sl = judge s false (appliedSlot s demand sl) := rfl

theorem appliedSlot_boundary (s : State) (demand : Demand) (sl : Slot) : (appliedSlot s demand sl).boundary =
    sl.boundary.map fun b => b.rebase (resetBase s sl demand b.station) := rfl

theorem appliedSlot_state (s : State) (demand : Demand) (sl : Slot) :
    (appliedSlot s demand sl).state = match demand.kind with | .sweep => .sweep | .direct => .occupied := rfl

theorem appliedSlot_evaluating (s : State) (demand : Demand) (sl : Slot) :
    (appliedSlot s demand sl).state.evaluating = true := by
  rw [appliedSlot_state]
  cases demand.kind <;> rfl

theorem appliedSlot_entered (s : State) (demand : Demand) (sl : Slot) : (appliedSlot s demand sl).entered = true ↔
    demand.kind = .sweep ∧ 1 ≤ inwardSum (appliedSlot s demand sl).contributions := by
  have hentered : (appliedSlot s demand sl).entered = (false || ((appliedSlot s demand sl).state == .sweep &&
      decide (1 ≤ inwardSum (appliedSlot s demand sl).contributions))) := rfl
  rw [hentered, appliedSlot_state]
  cases demand.kind <;> simp

/-- What the judgement makes of it: CLEARING where the conditions hold, from SWEEP with the entered flag alone. -/
theorem judge_appliedSlot (s : State) (demand : Demand) (sl : Slot) :
    judge s false (appliedSlot s demand sl) =
      if s.clearingConditions (appliedSlot s demand sl) = true ∧
          (demand.kind = .direct ∨ 1 ≤ inwardSum (appliedSlot s demand sl).contributions) then
        (appliedSlot s demand sl).startClearing s.now
      else appliedSlot s demand sl := by
  have hstate := appliedSlot_state s demand sl
  have hentered := appliedSlot_entered s demand sl
  unfold judge judgeClearing
  cases hkind : demand.kind <;> rw [hkind] at hstate hentered <;> rw [hstate] <;> dsimp only
  · have hiff : (appliedSlot s demand sl).entered = true ↔ 1 ≤ inwardSum (appliedSlot s demand sl).contributions :=
      hentered.trans (and_iff_right rfl)
    simp [hiff]
  · simp

theorem rangeAfter_of_application {s : State} {before x : Slot} (hbefore : before.state.evaluating = false)
    (hx : x.state.evaluating = true) : rangeAfter s before x =
      if x.range = true ∧ s.lockdown = false then disturb .countRange s.stationTime s.own x else x := by
  rw [rangeAfter, hbefore, hx]
  cases x.range <;> cases s.lockdown <;> rfl

/-- The fields that neither the judgement nor COUNT_RANGE touches after an application. -/
structure KeepsApplied (q u : Slot) : Prop where
  number : u.sectionNumber = q.sectionNumber
  settledSince : u.settledSince = q.settledSince
  boundary : u.boundary = q.boundary
  contributions : u.contributions = q.contributions
  balance : u.balance = q.balance
  range : u.range = q.range
  agreement : u.reset.agreement = none
  windowSince : u.reset.windowSince = none
  expiries : u.reset.expiries = 0
  outcome : u.reset.outcome = q.reset.outcome

theorem keepsApplied_judge (s : State) (demand : Demand) (sl : Slot) :
    KeepsApplied (appliedSlot s demand sl) (judge s false (appliedSlot s demand sl)) := by
  obtain ⟨_, _, _, h⟩ := judge_eq s false (appliedSlot s demand sl)
  rw [h]
  exact ⟨rfl, rfl, rfl, rfl, rfl, rfl, rfl, rfl, rfl, rfl⟩

theorem KeepsApplied.disturb {q x : Slot} (h : KeepsApplied q x) (hx : x.state.evaluating = true) (cause : Cause) (time : Word32)
    (station : Nat) : KeepsApplied q (disturb cause time station x) := by
  have hnot : x.state ≠ .disturbed ∧ x.state ≠ .agreeing := by
    constructor <;> intro h <;> rw [h] at hx <;> cases hx
  have houtcome : (x.reset.abandonForCause x.state).outcome = x.reset.outcome := if_neg hnot.2
  unfold Machine.disturb
  rw [if_neg hnot.1]
  exact ⟨h.number, h.settledSince, h.boundary, h.contributions, h.balance, h.range, rfl, rfl, h.expiries,
    houtcome.trans h.outcome⟩

theorem rebase_reset {s : State} {sl : Slot} {demand : Demand} {b : Boundary} {totals : Word16 × Word16}
    (h : resetBase s sl demand b.station = some totals) : (b.rebase (resetBase s sl demand b.station)).inBase = inTotal b.side totals ∧
      (b.rebase (resetBase s sl demand b.station)).outBase = outTotal b.side totals := by
  rw [h]
  exact ⟨rfl, rfl⟩

theorem rebase_keeps (base : Option (Word16 × Word16)) (b : Boundary) :
    (b.rebase base).station = b.station ∧ (b.rebase base).side = b.side := by
  cases base <;> exact ⟨rfl, rfl⟩

/-- The bases after an application: the reset bases, the own one of the demand and each peer's of its stored view. -/
theorem appliedSlot_bases {s : State} {demand : Demand} {sl : Slot} {j : Nat} {b b' : Boundary} (hb : sl.boundary[j]? = some b)
    (hb' : (appliedSlot s demand sl).boundary[j]? = some b') : b'.side = b.side ∧
      (b.station = s.own → b'.inBase = inTotal b.side (demand.baseTxy, demand.baseTyx) ∧
        b'.outBase = outTotal b.side (demand.baseTxy, demand.baseTyx)) ∧
      (∀ r v d, b.station ≠ s.own → s.peer? b.station = some r →
        r.views.find? (fun w => w.sectionNumber == sl.sectionNumber) = some v → v.demand = some d →
        b'.inBase = inTotal b.side (d.baseTxy, d.baseTyx) ∧ b'.outBase = outTotal b.side (d.baseTxy, d.baseTyx)) := by
  rw [appliedSlot_boundary, List.getElem?_map, hb] at hb'
  obtain rfl := Option.some.inj hb'
  refine ⟨(rebase_keeps _ b).2, fun hown => rebase_reset (if_pos hown), fun r v d hother hr hv hd => rebase_reset ?_⟩
  have hview : r.view? sl.sectionNumber = some v := hv
  rw [resetBase, if_neg hother, hr]
  dsimp only
  rw [hview]
  dsimp only
  rw [hd]
  rfl

/-- What a complete set brings, with COUNT_RANGE where a contribution is out of range. -/
structure Applied (s : State) (demand : Demand) (sl u : Slot) : Prop where
  keeps : KeepsApplied (appliedSlot s demand sl) u
  sound : u.range = false → u = judge s false (appliedSlot s demand sl)
  outOfRange : u.range = true → s.lockdown = false →
    u = disturb .countRange s.stationTime s.own (judge s false (appliedSlot s demand sl))

theorem rangeAfter_applied {s : State} {before : Slot} (hbefore : before.state.evaluating = false) (demand : Demand) (sl : Slot) :
    Applied s demand sl (rangeAfter s before (applyDemand s demand sl)) := by
  have hkeeps := keepsApplied_judge s demand sl
  have hevaluating := (judge_evaluating s false (appliedSlot s demand sl)).trans (appliedSlot_evaluating s demand sl)
  rw [applyDemand_eq, rangeAfter_of_application hbefore hevaluating]
  split
  next h =>
    have hdisturb := hkeeps.disturb hevaluating .countRange s.stationTime s.own
    refine ⟨hdisturb, fun hrange => ?_, fun _ _ => rfl⟩
    rw [hdisturb.range, ← hkeeps.range, h.1] at hrange
    cases hrange
  next h => exact ⟨hkeeps, fun _ => rfl, fun hrange hunlocked => absurd ⟨hrange, hunlocked⟩ h⟩

/-- Where the range condition does not stand the slot moves to CLEARING or stays in SWEEP or OCCUPIED. -/
theorem Applied.moves {s : State} {demand : Demand} {sl u : Slot} (h : Applied s demand sl u) (hrange : u.range = false)
    {moves : Prop} (hmoves : moves ↔ InputsTrusted s u ∧ (demand.kind = .direct ∨ 1 ≤ inwardSum u.contributions)) :
    (moves → u.state = .clearing ∧ u.confirmSince = some s.now ∧ u.entered = false) ∧
    (¬moves → u.state = (match demand.kind with | .sweep => .sweep | .direct => .occupied) ∧
      (u.entered = true ↔ demand.kind = .sweep ∧ 1 ≤ inwardSum u.contributions)) := by
  have hsame : s.clearingConditions u = s.clearingConditions (appliedSlot s demand sl) := by
    obtain ⟨_, _, _, hjudge⟩ := judge_eq s false (appliedSlot s demand sl)
    rw [h.sound hrange, hjudge]
    rfl
  rw [← clearingConditions_iff, hsame, h.keeps.contributions] at hmoves
  have hu := (h.sound hrange).trans (judge_appliedSlot s demand sl)
  constructor
  · intro h
    rw [if_pos (hmoves.mp h)] at hu
    rw [hu]
    exact ⟨rfl, rfl, rfl⟩
  · intro h
    rw [if_neg (mt hmoves.mpr h)] at hu
    rw [hu]
    exact ⟨rfl, appliedSlot_entered ..⟩

theorem Applied.sound_fields {s : State} {demand : Demand} {sl u : Slot} (h : Applied s demand sl u) (hrange : u.range = false) :
    u.negativeSince = (if u.balance < 0 then some s.now else none) ∧ u.reset.lingerSince = some s.now ∧
      u.reset.demand = sl.reset.demand ∧ u.record = sl.record.clearCauses := by
  obtain ⟨_, _, _, hjudge⟩ := judge_eq s false (appliedSlot s demand sl)
  rw [h.sound hrange, hjudge]
  exact ⟨rfl, rfl, rfl, rfl⟩

theorem Applied.disturbed_fields {s : State} {demand : Demand} {sl u : Slot} (h : Applied s demand sl u) (hrange : u.range = true)
    (hunlocked : s.lockdown = false) : u.state = .disturbed ∧ u.reset.lingerSince = none ∧ u.reset.demand = none ∧
      u.record = sl.record.clearCauses.enter .countRange s.stationTime s.own := by
  have hevaluating := (judge_evaluating s false (appliedSlot s demand sl)).trans (appliedSlot_evaluating s demand sl)
  have hnot : (judge s false (appliedSlot s demand sl)).state ≠ .disturbed := by
    intro h
    rw [h] at hevaluating
    cases hevaluating
  have hu := h.outOfRange hrange hunlocked
  refine ⟨by rw [hu]; exact disturb_state .., ?_⟩
  rw [hu, disturb_enters hevaluating, judge_record, disturb, if_neg hnot]
  exact ⟨rfl, rfl, rfl⟩

/-! ### A view of the slot's own demand -/

theorem takeView_agreeing {s : State} (hservice : s.inService = true) {sl : Slot} {demand : Demand} (hstate : sl.state = .agreeing)
    (hdemand : sl.reset.demand = some demand) (sender : Nat) (view : Option View) :
    takeView s sender view sl = takeAgreeing s sender view demand sl := by
  unfold takeView
  rw [if_pos hservice, hstate, hdemand]

theorem addMember_eq (members : List Nat) (n : Nat) : addMember members n = if n ∈ members then members else members ++ [n] := by
  simp [addMember]

/-- The sender of a view with the slot's own demand joins the set (R141). -/
theorem takeAgreeing_joins {s : State} {v : View} {demand : Demand} {sl : Slot} {members : List Nat}
    (hmembers : sl.reset.agreement = some members) (hidentity : v.demand.map (·.identity) = some demand.identity) (sender : Nat) :
    takeAgreeing s sender (some v) demand sl =
      setAgreement s demand (if sender ∈ members then members else members ++ [sender]) sl := by
  have hjoin : takeAgreeing s sender (some v) demand sl =
      setAgreement s demand (addMember (sl.reset.agreement.getD [s.own]) sender) sl := if_pos hidentity
  rw [hjoin, hmembers, Option.getD_some, addMember_eq]

theorem atViews_keeps (w : State) (r : PeerRecord) (tel : Telegram) (sl : Slot) :
    (sl.atViews w r tel).state = sl.state ∧ (sl.atViews w r tel).reset = sl.reset := by
  unfold Slot.atViews
  split <;> exact ⟨rfl, rfl⟩

/-! ### Adoption and superseding (R138, R140) -/

/-- A slot takes a DIRECT demand only if it is allowed and eligible (R134, R138). -/
theorem admits_iff (sl : Slot) (kind : ResetKind) : sl.admits kind = true ↔ kind = .sweep ∨ (sl.direct = true ∧
    sl.record.further = false ∧ (sl.record.firstCause = some .startup ∨ sl.record.firstCause = some .peerLost ∨
      sl.record.firstCause = some .peerRestart ∨ sl.record.firstCause = some .lineFault)) := by
  cases kind with
  | sweep => simp [Slot.admits]
  | direct =>
    simp only [Slot.admits, DisturbanceRecord.directEligible, Bool.and_eq_true, Bool.not_eq_true', reduceCtorEq, false_or]
    refine and_congr_right' (and_congr_right' ?_)
    cases sl.record.firstCause with
    | none => simp
    | some c => cases c <;> simp

theorem adoptable_iff (s : State) (sl : Slot) (d : ViewDemand) : adoptable s sl d = true ↔ s.head.state = .counting ∧
    s.detector.state = .idle ∧ sl.reset.coolDownSince = none ∧ sl.reset.lastIdentity ≠ some d.identity := by
  simp only [adoptable, State.headReady, Bool.and_eq_true, beq_iff_eq, bne_iff_ne, and_assoc]

theorem judgeAdoption_of_admitted {s : State} {sender : Nat} {d : ViewDemand} {sl : Slot} (hadoptable : adoptable s sl d = true)
    (hadmits : sl.admits d.kind = true) : judgeAdoption s sender d sl =
      setAgreement s (adoptedDemand s d) [s.own, sender] (sl.takeDemand s.now (adoptedDemand s d) [s.own, sender]) := by
  rw [judgeAdoption, if_pos hadoptable, if_pos hadmits]

theorem judgeAdoption_of_refused {s : State} {sender : Nat} {d : ViewDemand} {sl : Slot} (hadoptable : adoptable s sl d = true)
    (hadmits : ¬sl.admits d.kind = true) :
    judgeAdoption s sender d sl = { sl with reset := { sl.reset with outcome := .refused } } := by
  rw [judgeAdoption, if_pos hadoptable, if_neg hadmits]

theorem judgeAdoption_of_not_adoptable {s : State} {sender : Nat} {d : ViewDemand} {sl : Slot}
    (hadoptable : ¬adoptable s sl d = true) : judgeAdoption s sender d sl = sl := if_neg hadoptable

/-- A set that another boundary station is missing from stays a set. -/
theorem setAgreement_of_missing {s : State} {demand : Demand} {members : List Nat} {sl : Slot}
    (hset : sl.reset.agreement = some members) (h : ∃ b ∈ sl.boundary, b.station ∉ members) :
    setAgreement s demand members sl = sl := by
  have hincomplete : ¬complete sl members = true := fun hcomplete => by
    obtain ⟨b, hb, hnot⟩ := h
    exact hnot (complete_iff.mp hcomplete b hb)
  rw [setAgreement, if_neg hincomplete, ← hset]

theorem takeView_disturbed {s : State} (hservice : s.inService = true) {sl : Slot} (hstate : sl.state = .disturbed)
    (sender : Nat) (v : View) : takeView s sender (some v) sl =
      (v.offer.map fun d => judgeAdoption s sender d sl).getD sl := by
  unfold takeView
  rw [if_pos hservice, hstate]
  cases hoffer : v.offer <;> simp [hoffer]

theorem offer_of_agreeing {v : View} {d : ViewDemand} (hstate : v.state = .agreeing) (hdemand : v.demand = some d) :
    v.offer = some d := by rw [View.offer, if_pos hstate, hdemand]

theorem offer_none {v : View} (h : v.state ≠ .agreeing ∨ v.demand = none) : v.offer = none := by
  unfold View.offer
  split
  next hstate => exact h.resolve_left fun h => h hstate
  next => rfl

theorem supersedes_iff (sender : Nat) (d : ViewDemand) (held : Identity) : supersedes sender d held = true ↔
    d.identity.originator < held.originator ∨
      (d.identity.originator = held.originator ∧ d.identity.number ≠ held.number ∧ sender = held.originator) := by
  simp only [supersedes, Bool.or_eq_true, decide_eq_true_eq, Bool.and_eq_true, beq_iff_eq, bne_iff_ne, and_assoc]

theorem identity_ne_of_supersedes {sender : Nat} {d : ViewDemand} {held : Identity} (h : supersedes sender d held = true) :
    d.identity ≠ held := by
  rintro rfl
  obtain h | h := (supersedes_iff ..).mp h
  · exact absurd h (Nat.lt_irrefl _)
  · exact h.2.1 rfl

/-- Any view of another demand, or none, takes its sender out of the set, if it does not supersede the slot's own (R140,
R141). -/
theorem takeAgreeing_leaves {s : State} {sender : Nat} {v : View} {demand : Demand} {sl : Slot}
    (hother : v.demand.map (·.identity) ≠ some demand.identity)
    (h : ∀ d, v.offer = some d → supersedes sender d demand.identity = false) :
    takeAgreeing s sender (some v) demand sl = sl.leave sender := by
  unfold takeAgreeing
  dsimp only
  rw [if_neg hother]
  split
  next d hoffer => exact if_neg (by rw [h d hoffer]; nofun)
  next => rfl

theorem takeAgreeing_supersedes {s : State} {sender : Nat} {v : View} {d : ViewDemand} {demand : Demand} {sl : Slot}
    (hdemand : v.demand = some d) (hoffer : v.offer = some d) (h : supersedes sender d demand.identity = true) :
    takeAgreeing s sender (some v) demand sl = judgeAdoption s sender d (sl.endDemand .superseded) := by
  have hother : ¬v.demand.map (·.identity) = some demand.identity := by
    rw [hdemand]
    exact fun heq => identity_ne_of_supersedes h (Option.some.inj heq)
  unfold takeAgreeing
  dsimp only
  rw [if_neg hother, hoffer]
  exact if_pos h

theorem leave_eq {sl : Slot} {members : List Nat} (hmembers : sl.reset.agreement = some members) (sender : Nat) :
    sl.leave sender = { sl with
      reset := { sl.reset with agreement := some (members.filter (fun m => m != sender)) } } := by
  rw [Slot.leave, hmembers]
  rfl

/-! ### Telegrams outside RUN and in lockdown -/

/-- What an accepted telegram that the Reset Controller does not read leaves of a slot DISTURBED, or of any in lockdown. -/
structure Unmoved (s : State) (sl sl' : Slot) : Prop where
  record : s.lockdown = true → sl'.record = sl.record
  state : sl.state.evaluating = false → sl'.state = sl.state
  evaluating : sl'.state.evaluating = sl.state.evaluating
  reset : sl'.reset = sl.reset

theorem Unmoved.judge {s : State} {sl x : Slot} (h : Unmoved s sl x) (w : State) (changed : Bool) :
    Unmoved s sl (judge w changed x) := by
  obtain ⟨_, _, _, hjudge⟩ := judge_eq w changed x
  refine ⟨fun hlocked => (judge_record ..).trans (h.record hlocked), fun hnot => ?_,
    (judge_evaluating ..).trans h.evaluating, by rw [hjudge]; exact h.reset⟩
  rw [judge_of_not_evaluating (h.evaluating.trans hnot)]
  exact h.state hnot

theorem Unmoved.disturb {s : State} {sl x : Slot} (h : Unmoved s sl x) (hstate : s.lockdown = true ∨ sl.state = .disturbed)
    (hunlocked : s.lockdown = false) (cause : Cause) (time : Word32) (station : Nat) :
    Unmoved s sl (disturb cause time station x) := by
  have hsl : sl.state = .disturbed := hstate.resolve_left fun h => by rw [hunlocked] at h; cases h
  have hx : x.state = .disturbed := (h.state (by rw [hsl]; rfl)).trans hsl
  rw [Machine.disturb, if_pos hx]
  exact ⟨fun hlocked => (nomatch hunlocked.symm.trans hlocked), h.state, h.evaluating, h.reset⟩

theorem Unmoved.takeChanges {s : State} {sl x : Slot} (h : Unmoved s sl x) (hstate : s.lockdown = true ∨ sl.state = .disturbed)
    (before after : PeerRecord) (evaluating : Bool) : Unmoved s sl (takeChanges before after s evaluating x) := by
  unfold Machine.takeChanges
  split
  · have hrecomputed : Unmoved s sl (recompute s { x with settledSince := some s.now }) :=
      ⟨h.record, h.state, h.evaluating, h.reset⟩
    have hjudged := hrecomputed.judge s true
    unfold takeTotals
    dsimp only
    split
    next hrange => exact hjudged.disturb hstate (by simp at hrange; exact hrange.2) ..
    next => exact hjudged
  · exact h.judge s false

theorem telegramSlot_unmoved {order : TakingOrder} {r after : PeerRecord} {items : List Item} {s : State} {i : Nat} {sl : Slot}
    (hitems : items.count .changes = 1) (hservice : s.inService = false) (hstate : s.lockdown = true ∨ sl.state = .disturbed) :
    Unmoved s sl (telegramSlot order r after items s i sl) := by
  have hstart : Unmoved s sl sl := ⟨fun _ => rfl, fun _ => rfl, rfl, rfl⟩
  cases huses : sl.uses s.own after.station
  · exact telegramSlot_unused_rule huses hstart fun _ _ _ hunlocked hx => hx.disturb hstate hunlocked ..
  · exact telegramSlot_takeView_rule (P := Unmoved s sl) hitems huses hstart
      (fun _ _ _ hunlocked hx => hx.disturb hstate hunlocked ..) (fun _ _ hx => hx.takeChanges hstate ..)
      (fun _ _ _ hunlocked hx => hx.disturb hstate hunlocked ..)
      (fun _ _ hx => by rw [takeView_outside hservice]; exact hx) fun _ _ hx => hx.judge s false

end Sys2Proof.Machine

namespace Sys2Proof.Proofs
open Sys2Proof.Machine

/-- Settles O38: a complete set rebases the slot, which is judged once; and the sender of a view of the slot's own demand
joins its set. -/
theorem completeSetsApply : Obligations.CompleteSetsApply := by
  refine ⟨fun dt s tel order r i sl v held members hbrings hstate hdemand hmembers hidentity => ?_,
    fun s demand members before sl u hbefore hstate hu => ⟨fun hmissing => ?_, fun hall => ?_⟩⟩
  · obtain ⟨t, hexec, hslot⟩ := exec_bringsView dt hbrings
    refine ⟨t, hexec, fun w found hw hfound => (hslot w found hw hfound).trans ?_⟩
    obtain ⟨hfoundState, hfoundReset⟩ := atViews_keeps w r tel sl
    rw [← hfound] at hfoundState hfoundReset
    obtain ⟨-, hphase, hunlocked⟩ := hbrings.service
    have hservice : w.inService = true := by simp [hw, State.inService, hphase, hunlocked]
    rw [takeView_agreeing hservice (hfoundState.trans hstate) (by rw [hfoundReset]; exact hdemand),
      takeAgreeing_joins (by rw [hfoundReset]; exact hmembers) hidentity]
  · have hincomplete : complete sl members = false := by
      obtain ⟨b, hb, hnot⟩ := hmissing
      exact Bool.eq_false_iff.mpr fun h => hnot (complete_iff.mp h b hb)
    rw [hu, setAgreement, if_neg (by rw [hincomplete]; nofun)]
    exact rangeAfter_of_not_evaluating _ _ (by rw [hstate]; rfl)
  · rw [setAgreement, if_pos (complete_iff.mpr hall)] at hu
    have happlied : Applied s demand _ u := hu ▸ rangeAfter_applied hbefore demand _
    have hkeeps := happlied.keeps
    refine ⟨hkeeps.number, hkeeps.settledSince, ?stations, fun j b b' hb hb' => ?bases, hkeeps.agreement,
      hkeeps.windowSince, hkeeps.expiries, hkeeps.outcome, fun hrange => ⟨fun moves hmoves => happlied.moves hrange hmoves,
        happlied.sound_fields hrange⟩, fun hrange hunlocked => happlied.disturbed_fields hrange hunlocked⟩
    case stations =>
      rw [hkeeps.boundary, appliedSlot_boundary, List.map_map]
      exact List.map_congr_left fun b _ => (rebase_keeps _ b).1
    case bases =>
      rw [hkeeps.boundary] at hb'
      exact appliedSlot_bases hb hb'

/-- Settles O39, by the table of what the Reset Controller does with a view, and by what an accepted telegram keeps where it
does nothing. -/
theorem demandsAreAdoptedAndSuperseded : Obligations.DemandsAreAdoptedAndSuperseded := by
  refine ⟨fun dt s tel order r i sl view hbrings => exec_bringsView dt hbrings, ?table, ?outside, ?telegrams⟩
  case outside =>
    intro s sender view sl hout
    refine takeView_outside ?_ sender view sl
    obtain h | h := hout <;> simp [State.inService, h]
  case telegrams =>
    intro dt s tel order r hconnected hconfigured hout hr hwell hnew
    have hservice : s.inService = false := by obtain h | h := hout <;> simp [State.inService, h]
    obtain ⟨t, hexec, -, -, hslots⟩ := exec_accepted_result order hconnected hconfigured hr hwell hnew (dt := dt)
    refine ⟨t, hexec, fun i sl hsl hstate => ⟨_, by rw [hslots, List.getElem?_mapIdx, List.getElem?_map, hsl]; rfl, ?_⟩⟩
    obtain ⟨identity, hbefore⟩ := beforeTelegram_eq r tel sl
    have hlast := beforeTelegram_lastIdentity (peer?_station hr) hnew sl
    have h := telegramSlot_unmoved (order := order) (r := r) (after := s.acceptedRecord dt tel r) (i := i)
      (s := s.withAccepted dt tel r) (sl := r.beforeTelegram tel sl) (itemsOf_count r (judgeSequence r tel.sequence) tel)
      ((withAccepted_inService ..).trans hservice)
      (by rw [withAccepted_lockdown, hbefore]; exact hstate.symm)
    generalize telegramSlot _ _ _ _ _ _ _ = sl' at h ⊢
    obtain ⟨hrecord, hkept, hevaluating, hreset⟩ := h
    rw [withAccepted_lockdown] at hrecord
    rw [hbefore] at hrecord hkept hevaluating hreset hlast
    exact ⟨hrecord, hkept, hevaluating, by rw [hreset, ← hlast]⟩
  case table =>
    intro s sender v d sl hphase hunlocked eligible adopted taken demand heligible hadopted hdemand htaken
    have hservice : s.inService = true := by simp [State.inService, hphase, hunlocked]
    obtain rfl : demand = adoptedDemand s d := hdemand
    have hmissing : ∀ outcome, (∃ b ∈ sl.boundary, b.station ≠ s.own ∧ b.station ≠ sender) →
        setAgreement s (adoptedDemand s d) [s.own, sender] (taken outcome) = taken outcome := fun outcome ⟨b, hb, hown, hsender⟩ => by
      rw [htaken]
      exact setAgreement_of_missing rfl ⟨b, hb, by simp [hown, hsender]⟩
    have hadoptable : adopted ↔ adoptable s sl d = true := hadopted.trans (adoptable_iff s sl d).symm
    have hadmits : eligible ↔ sl.admits d.kind = true := heligible.trans (admits_iff sl d.kind).symm
    refine ⟨fun hstate hvstate hvdemand => ?disturbed, fun hstate hnone => ?unoffered,
      fun held members hstate hheld hmembers supersedes' hsupersedes => ?agreeing,
      fun hevaluating => ⟨takeView_of_evaluating s sender _ hevaluating, takeView_of_evaluating s sender _ hevaluating⟩⟩
    case unoffered => rw [takeView_disturbed hservice hstate, offer_none hnone]; rfl
    case disturbed =>
      have hview : takeView s sender (some v) sl = judgeAdoption s sender d sl := by
        rw [takeView_disturbed hservice hstate, offer_of_agreeing hvstate hvdemand]; rfl
      rw [hview]
      refine ⟨fun ha he => ?_, fun ha he => judgeAdoption_of_refused (hadoptable.mp ha) (mt hadmits.mpr he),
        fun ha => judgeAdoption_of_not_adoptable (mt hadoptable.mpr ha)⟩
      have hadopts : judgeAdoption s sender d sl = setAgreement s (adoptedDemand s d) [s.own, sender] (taken sl.reset.outcome) := by
        rw [judgeAdoption_of_admitted (hadoptable.mp ha) (hadmits.mp he), htaken]
        rfl
      exact ⟨hadopts, fun h => hadopts.trans (hmissing _ h)⟩
    case agreeing =>
      have hsupersedes' : supersedes' ↔ supersedes sender d held.identity = true :=
        hsupersedes.trans (supersedes_iff sender d held.identity).symm
      rw [takeView_agreeing hservice hstate hheld, takeView_agreeing hservice hstate hheld]
      refine ⟨fun hvstate hvdemand hs => ?supersedes, fun hvdemand hsame => ?joins, fun hleaves => ?leaves, leave_eq hmembers sender⟩
      case joins => exact takeAgreeing_joins hmembers (by rw [hvdemand, ← hsame]; rfl) sender
      case leaves =>
        refine Eq.trans (takeAgreeing_leaves ?_ fun d' hoffer => ?_) (leave_eq hmembers sender)
        · obtain hnone | ⟨hvdemand, hother, -⟩ := hleaves
          · rw [hnone]; nofun
          · rw [hvdemand]; exact fun h => hother (Option.some.inj h)
        · obtain ⟨hvstate, hvdemand'⟩ := View.offer_some hoffer
          obtain hnone | ⟨hvdemand, -, hnot⟩ := hleaves
          · rw [hnone] at hvdemand'; cases hvdemand'
          · obtain rfl := Option.some.inj (hvdemand'.symm.trans hvdemand)
            exact Bool.eq_false_iff.mpr fun h => hnot ⟨hvstate, hsupersedes'.mpr h⟩
      case supersedes =>
        rw [takeAgreeing_supersedes hvdemand (offer_of_agreeing hvstate hvdemand) (hsupersedes'.mp hs)]
        have hadoptable' : adopted ↔ adoptable s (sl.endDemand .superseded) d = true := hadoptable
        have hadmits' : eligible ↔ (sl.endDemand .superseded).admits d.kind = true := hadmits
        refine ⟨fun ha he => ?_, fun outcome h => ?_⟩
        · have hadopts : judgeAdoption s sender d (sl.endDemand .superseded) =
              setAgreement s (adoptedDemand s d) [s.own, sender] (taken .superseded) := by
            rw [judgeAdoption_of_admitted (hadoptable'.mp ha) (hadmits'.mp he), htaken]
            rfl
          exact ⟨hadopts, fun h => hadopts.trans (hmissing _ h)⟩
        · obtain ⟨ha, he, rfl⟩ | ⟨ha, rfl⟩ := h
          · exact judgeAdoption_of_refused (hadoptable'.mp ha) (mt hadmits'.mpr he)
          · exact judgeAdoption_of_not_adoptable (mt hadoptable'.mpr ha)

end Sys2Proof.Proofs
end

section
/-! PROOFS. The operator lines: request lines, selections and confirmations (8.1, 8.2, 8.3). -/

namespace Sys2Proof.Machine

/-! ### Samples of the operator lines -/

/-- An event at the time that has passed that writes the operator lines, their pins, the slots and the alarm. -/
theorem ends_pass_operator (s : State) (dt : Nat) (b : State) (operator : Operator) (pins : Pins) (slots : List Slot) (alarm : Alarm) :
    Ends { s with now := s.now + dt, operator := operator, pins := pins, slots := slots }
      (finish b { s.pass dt with
        operator := operator, pins := pins, slots := slots, outputs := { s.outputs with alarm := alarm } }) := by
  obtain ⟨c, b', d, hpass⟩ := pass_eq s dt
  rw [hpass]
  refine (Ends.of_notice (request := s.builder.request) (lamps := s.outputs.lamps) (status := s.outputs.status)
    (alarm := alarm) ?_)
  exact (finish_ends _ _).of_lanes rfl

/-- An event at the instant of a timer that writes the operator lines alone. -/
theorem ends_reach_operator (s : State) (x : Tick) (b : State) (operator : Operator) :
    Ends { s with now := max s.now x, operator := operator } (finish b { s.reach x with operator := operator }) := by
  obtain ⟨_, _, _, hreach⟩ := reach_eq s x
  rw [hreach]
  exact (finish_ends _ _).of_lanes rfl

theorem takeLevels_requestSince (levels : OperatorLevels) (w : State) (line : Fin 4) :
    (takeLevels levels w).operator.requestSince[line] = requestAfter w.now (requestLevel w.operator.debounced line)
      (requestLevel levels line) w.operator.requestSince[line] := by
  simp [takeLevels]

/-- Without an active edge of a confirm line, and without a selection, a sample takes its levels alone. -/
theorem takeOperatorSample_of_calm {levels : OperatorLevels} {w : State} (h : w.operator.selection = none ∨
    ((levels.cfs = false ∨ w.operator.debounced.cfs = true) ∧ (levels.cfd = false ∨ w.operator.debounced.cfd = true))) :
    takeOperatorSample levels w = takeLevels levels w := by
  unfold takeOperatorSample
  dsimp only
  obtain hnone | ⟨hcfs, hcfd⟩ := h
  · have hjudged : judgeEdge levels.cfs levels.cfd (takeLevels levels w) = takeLevels levels w := by
      have hselection : (takeLevels levels w).operator.selection = none := hnone
      rw [judgeEdge, hselection]
    rw [hjudged, ite_self]
  · refine if_neg ?_
    obtain hcfs | hcfs := hcfs <;> obtain hcfd | hcfd := hcfd <;> simp [hcfs, hcfd]

/-- A line selects the slot it has, and one without a slot leaves the selection. -/
theorem effect_selection (line : Fin 4) (w : State) : effect (.selection line) w = { w with
    operator := { w.operator with
      requestSince := w.operator.requestSince.set line none
      selection := if line.val < w.slots.length then some { slot := line, since := w.now } else w.operator.selection } } := by
  dsimp only [effect, State.slot?]
  by_cases hlt : line.val < w.slots.length
  · rw [if_pos hlt, List.getElem?_eq_getElem hlt]
  · rw [if_neg hlt, List.getElem?_eq_none (Nat.le_of_not_lt hlt)]

theorem finish_alarmCondition (b u : State) : (finish b u).alarmCondition = u.alarmCondition := by
  have hfault : (finish b u).line.lineFault = u.line.lineFault := congrArg (·.line.lineFault) (finish_ends b u).rest
  simp only [State.alarmCondition, finish_lockdown, finish_phase, finish_head, hfault]

/-! ### Confirmations -/

/-- The command of an active edge of the confirm line of a kind, with the other line's level. -/
def confirmCommand (dt : Nat) (other : Bool) : ResetKind → Instr
  | .sweep => .confirmSweep dt other
  | .direct => .confirmDirect dt other

/-- The debounced level of the confirm line of a kind. -/
def confirmLevel (levels : OperatorLevels) : ResetKind → Bool
  | .sweep => levels.cfs
  | .direct => levels.cfd

/-- The debounced levels with the confirm line of a kind active. -/
def confirmLevels (other : Bool) (was : OperatorLevels) : ResetKind → OperatorLevels
  | .sweep => { was with cfs := true, cfd := other }
  | .direct => { was with cfs := other, cfd := true }

theorem exec_confirm {s : State} (hconfigured : s.configured = true) (dt : Nat) (other : Bool) (kind : ResetKind) :
    exec (confirmCommand dt other kind) s = .next (finish (s.pass dt)
      (takeOperatorSample (confirmLevels other s.operator.debounced kind) (s.pass dt))) := by
  obtain ⟨_, _, _, hpass⟩ := pass_eq s dt
  have harises : (s.pass dt).configured = true := by rw [hpass]; exact hconfigured
  have hdebounced : (s.pass dt).operator.debounced = s.operator.debounced := by rw [hpass]
  rw [← hdebounced]
  cases kind
  · exact onInput_arises harises
  · exact onInput_arises harises

/-- An active edge of a confirm line on a selection is refused if the other line is active, and else judged for its kind;
the selection ends. -/
theorem takeOperatorSample_confirm {other : Bool} {kind : ResetKind} {w : State} {sel : Selection}
    (hwas : confirmLevel w.operator.debounced kind = false) (hselection : w.operator.selection = some sel) :
    ∀ u, (if other then refuseConfirmation sel.slot (takeLevels (confirmLevels other w.operator.debounced kind) w)
        else confirm sel.slot kind (takeLevels (confirmLevels other w.operator.debounced kind) w)) = u →
      takeOperatorSample (confirmLevels other w.operator.debounced kind) w =
        { u with operator := { u.operator with selection := none } } := by
  intro u hu
  rw [takeOperatorSample, ← hu]
  generalize htaken : takeLevels (confirmLevels other w.operator.debounced kind) w = v
  have hselection' : v.operator.selection = some sel := by rw [← htaken]; exact hselection
  have hedge : judgeEdge (confirmLevels other w.operator.debounced kind).cfs (confirmLevels other w.operator.debounced kind).cfd v =
      judgeEdge (confirmLevels other w.operator.debounced kind).cfs (confirmLevels other w.operator.debounced kind).cfd v := rfl
  conv at hedge => rhs; rw [judgeEdge, hselection']
  refine (if_pos ?_).trans (hedge.trans ?_)
  · cases kind <;> simp_all [confirmLevel, confirmLevels]
  · cases kind <;> cases other <;> rfl

/-- A sample that changes levels leaves the selection and the demand number. -/
theorem takeLevels_eq (levels : OperatorLevels) (w : State) : ∃ runs since pins, takeLevels levels w = { w with
    operator := { w.operator with debounced := levels, runs := runs, requestSince := since }, pins := pins } :=
  ⟨_, _, _, rfl⟩

theorem refusedConfirmation_iff (w : State) (sl : Slot) (kind : ResetKind) : refusedConfirmation w sl kind = true ↔
    w.inService = false ∨ sl.state ≠ .disturbed ∨ w.headReady = false ∨ sl.reset.coolDownSince ≠ none ∨
      sl.admits kind = false := by
  simp only [refusedConfirmation, Bool.or_eq_true, Bool.not_eq_true', bne_iff_ne, or_assoc]

/-- A refused confirmation asks for the refusal pattern. -/
theorem refuseConfirmation_result {w : State} {i : Fin 4} {sl : Slot} (hsl : w.slots[i.val]? = some sl) : ∃ alarm,
    refuseConfirmation i w = { w with
      slots := w.slots.set i.val { sl with reset := { sl.reset with outcome := .refused } }
      outputs := { w.outputs with alarm := alarm } } ∧
    (w.alarmCondition = none → alarm = { shows := .refusal, place := 0, sounding := true, since := w.now }) := by
  rw [refuseConfirmation, modifySlot_eq _ hsl]
  obtain ⟨hstands, h⟩ | ⟨-, h⟩ := requestRefusal_cases
    { w with slots := w.slots.set i.val { sl with reset := { sl.reset with outcome := .refused } } }
  · exact ⟨w.outputs.alarm, h, fun hnone => absurd hnone hstands⟩
  · exact ⟨_, h, fun _ => rfl⟩

theorem issueDemand_eq {kind : ResetKind} {w : State} {i : Fin 4} {sl : Slot} (hsl : w.slots[i.val]? = some sl) :
    issueDemand i kind w = { w with
      operator := { w.operator with demandNumber := nextDemandNumber w.operator.demandNumber }
      slots := w.slots.set i.val (sl.takeDemand w.now (issuedDemand w kind) [w.own]) } := by
  rw [issueDemand, modifySlot_eq _ hsl]

/-- An accepted confirmation issues its demand, and the selection ends. -/
theorem takeOperatorSample_issues {kind : ResetKind} {w : State} {i : Fin 4} {x : Tick} {sl : Slot}
    (hwas : confirmLevel w.operator.debounced kind = false) (hselection : w.operator.selection = some { slot := i, since := x })
    (hsl : w.slots[i.val]? = some sl) (haccepted : refusedConfirmation w sl kind = false) : ∃ operator pins,
    takeOperatorSample (confirmLevels false w.operator.debounced kind) w = { w with
      operator := operator, pins := pins
      slots := w.slots.set i.val (sl.takeDemand w.now (issuedDemand w kind) [w.own]) } ∧
    operator.selection = none ∧ operator.demandNumber = nextDemandNumber w.operator.demandNumber := by
  obtain ⟨runs, since, pins, htaken⟩ := takeLevels_eq (confirmLevels false w.operator.debounced kind) w
  have hconfirm : ∀ v : State, v.slots = w.slots → refusedConfirmation v sl kind = false →
      (if false then refuseConfirmation i v else confirm i kind v) = issueDemand i kind v := by
    intro v hv hrefused
    have hslot : v.slot? i = some sl := by rw [State.slot?, hv]; exact hsl
    rw [if_neg (by decide), confirm, hslot]
    exact if_neg (by rw [hrefused]; decide)
  have hissued := (hconfirm (takeLevels _ w) rfl haccepted).trans
    (issueDemand_eq (kind := kind) (w := takeLevels (confirmLevels false w.operator.debounced kind) w) hsl)
  rw [takeOperatorSample_confirm hwas hselection _ hissued, htaken]
  exact ⟨_, _, rfl, rfl, rfl⟩

/-- A refused confirmation moves the outcome of its slot, the selection and, with no condition standing, the alarm. -/
theorem takeOperatorSample_refuses {other : Bool} {kind : ResetKind} {w : State} {i : Fin 4} {x : Tick} {sl : Slot}
    (hwas : confirmLevel w.operator.debounced kind = false) (hselection : w.operator.selection = some { slot := i, since := x })
    (hsl : w.slots[i.val]? = some sl) (hrefused : other = true ∨ refusedConfirmation w sl kind = true) :
    ∃ operator pins alarm, takeOperatorSample (confirmLevels other w.operator.debounced kind) w = { w with
      operator := operator, pins := pins
      slots := w.slots.set i.val { sl with reset := { sl.reset with outcome := .refused } }
      outputs := { w.outputs with alarm := alarm } } ∧
    operator.selection = none ∧ operator.demandNumber = w.operator.demandNumber ∧
    (w.alarmCondition = none → alarm = { shows := .refusal, place := 0, sounding := true, since := w.now }) := by
  obtain ⟨runs, since, pins, htaken⟩ := takeLevels_eq (confirmLevels other w.operator.debounced kind) w
  have hconfirm : ∀ v : State, v.slots = w.slots → refusedConfirmation v sl kind = refusedConfirmation w sl kind →
      (if other then refuseConfirmation i v else confirm i kind v) = refuseConfirmation i v := by
    intro v hv hsame
    have hslot : v.slot? i = some sl := by rw [State.slot?, hv]; exact hsl
    obtain hother | hrefused := hrefused
    · exact if_pos hother
    · refine ite_eq_left_iff.mpr fun _ => ?_
      rw [confirm, hslot]
      exact if_pos (hsame.trans hrefused)
  obtain ⟨alarm, h, halarm⟩ :=
    refuseConfirmation_result (w := takeLevels (confirmLevels other w.operator.debounced kind) w) (i := i) hsl
  rw [takeOperatorSample_confirm hwas hselection _ ((hconfirm (takeLevels _ w) rfl rfl).trans h), htaken]
  exact ⟨_, _, alarm, rfl, rfl, rfl, halarm⟩

end Sys2Proof.Machine

namespace Sys2Proof.Proofs

open Sys2Proof.Machine

/-- Settles O34: without a selection or a confirm edge, a sample takes its levels alone. -/
theorem debouncedLevelsChange : Obligations.DebouncedLevelsChange := by
  intro dt levels s hconfigured hcalm
  obtain ⟨_, _, _, hpass⟩ := pass_eq s dt
  have harises : (s.pass dt).configured = true := by rw [hpass]; exact hconfigured
  have hcalm' : (s.pass dt).operator.selection = none ∨ ((levels.cfs = false ∨ (s.pass dt).operator.debounced.cfs = true) ∧
      (levels.cfd = false ∨ (s.pass dt).operator.debounced.cfd = true)) := by rw [hpass]; exact hcalm
  have hexec : exec (.debouncedLevelChange dt levels) s =
      onInput dt s (·.configured) (takeOperatorSample levels) := rfl
  rw [hexec, onInput_arises harises, takeOperatorSample_of_calm hcalm']
  have hends := ends_pass_operator s dt (s.pass dt) (takeLevels levels (s.pass dt)).operator
    (takeLevels levels (s.pass dt)).pins s.slots s.outputs.alarm
  refine ⟨_, rfl, ?_, ?_, ?_, fun line => ?_, ?_⟩
  · rw [finish_operator]; rfl
  · rw [finish_operator, hpass]; rfl
  · rw [finish_operator, hpass]; rfl
  · rw [finish_operator, takeLevels_requestSince, hpass]; rfl
  · rw [finish_operator, finish_pins]
    rw [hpass] at hends ⊢
    exact hends

/-- Settles O35: a request line of 500 ms selects its slot, and a selection ends after its time. -/
theorem selectionsRunTheirTime : Obligations.SelectionsRunTheirTime := by
  refine ⟨fun line x s hsince => ?_, fun sel s hselection => ?_⟩
  · have hdue : selectionDue s line = some (x + 50000) := by rw [selectionDue, hsince]; rfl
    have hexec : exec (.selection line) s = whenDue (selectionDue s line) s (effect (.selection line)) := rfl
    have hresult : effect (.selection line) (s.reach (x + 50000)) = { s.reach (x + 50000) with
        operator := { s.operator with
          requestSince := s.operator.requestSince.set line none
          selection := if line.val < s.slots.length then some { slot := line, since := max s.now (x + 50000) }
            else s.operator.selection } } := by
      obtain ⟨_, _, _, hreach⟩ := reach_eq s (x + 50000)
      rw [effect_selection, hreach]
    rw [hexec, whenDue_of_eq hdue, hresult]
    exact ⟨_, rfl, ends_reach_operator ..⟩
  · have hdue : selectionTimeoutDue s = some (sel.since + 1000000) := by rw [selectionTimeoutDue, hselection]; rfl
    have hexec : exec .selectionTimeout s = whenDue (selectionTimeoutDue s) s (effect .selectionTimeout) := rfl
    have hresult : effect .selectionTimeout (s.reach (sel.since + 1000000)) = { s.reach (sel.since + 1000000) with
        operator := { s.operator with selection := none } } := by
      obtain ⟨_, _, _, hreach⟩ := reach_eq s (sel.since + 1000000)
      rw [hreach]
      rfl
    rw [hexec, whenDue_of_eq hdue, hresult]
    exact ⟨_, rfl, ends_reach_operator ..⟩

/-- Settles O36: with every condition met, the edge issues its demand on the selected slot. -/
theorem confirmationsIssueDemands : Obligations.ConfirmationsIssueDemands := by
  intro dt kind i x sl s hphase hlockdown hselection hsl hdisturbed hcounting hidle hcool hkind
  have hconfigured : s.configured = true := by rw [State.configured, hphase]
  have hwas : confirmLevel s.operator.debounced kind = false := by
    cases kind
    · exact hkind
    · exact hkind.1
  have hadmits : sl.admits kind = true := by
    rw [admits_iff]
    cases kind
    · exact .inl rfl
    · exact .inr hkind.2
  have haccepted : refusedConfirmation s sl kind = false := by
    rw [← Bool.not_eq_true, refusedConfirmation_iff]
    simp [State.inService, State.headReady, hphase, hlockdown, hdisturbed, hcounting, hidle, hcool, hadmits]
  have hexec := exec_confirm hconfigured dt false kind
  obtain ⟨c, b, d, hpass⟩ := pass_eq s dt
  obtain ⟨operator, pins, hsample, hnone, hnumber⟩ := takeOperatorSample_issues (w := s.pass dt) (kind := kind) (i := i) (x := x)
    (sl := sl) (by rw [hpass]; exact hwas) (by rw [hpass]; exact hselection) (by rw [hpass]; exact hsl)
    (by rw [hpass]; exact haccepted)
  have hoperator : (s.pass dt).operator = s.operator := by rw [hpass]
  rw [hoperator] at hsample hnumber
  have hends := ends_pass_operator s dt (s.pass dt) operator pins
    (s.slots.set i.val (sl.takeDemand (s.now + dt) (issuedDemand (s.pass dt) kind) [s.own])) s.outputs.alarm
  have htime : (s.pass dt).stationTime = (finish (s.pass dt)
      (takeOperatorSample (confirmLevels false s.operator.debounced kind) (s.pass dt))).stationTime := by
    rw [State.stationTime, State.stationTime, finish_now, hsample]
  have hdemand : issuedDemand (s.pass dt) kind =
      { identity := { originator := s.own, number := s.operator.demandNumber }, kind := kind, baseTxy := s.txy,
        baseTyx := s.tyx, windowStart := (s.pass dt).stationTime } := by
    rw [issuedDemand, hpass]; rfl
  rw [hdemand] at hends
  refine ⟨finish (s.pass dt) (takeOperatorSample (confirmLevels false s.operator.debounced kind) (s.pass dt)),
    by cases kind <;> exact hexec, ?_, ?_, ?_⟩
  · rw [finish_operator, hsample]; exact hnone
  · rw [finish_operator, hsample]; exact hnumber
  · have hresult : takeOperatorSample (confirmLevels false s.operator.debounced kind) (s.pass dt) = { s.pass dt with
        operator := operator, pins := pins
        slots := s.slots.set i.val (sl.takeDemand (s.now + dt)
          { identity := { originator := s.own, number := s.operator.demandNumber }, kind := kind, baseTxy := s.txy,
            baseTyx := s.tyx, windowStart := (s.pass dt).stationTime } [s.own])
        outputs := { s.outputs with alarm := s.outputs.alarm } } := by
      rw [hsample, hdemand, hpass]
      rfl
    rw [finish_operator, finish_pins, ← htime, hresult]
    exact hends

/-- Settles O37: with any condition missing, the edge is refused on the selected slot. -/
theorem confirmationsAreRefused : Obligations.ConfirmationsAreRefused := by
  intro dt kind other i x sl s hconfigured hselection hsl hkind hcauses
  have hwas : confirmLevel s.operator.debounced kind = false := by
    cases kind
    · exact hkind
    · exact hkind
  have hrefused : other = true ∨ refusedConfirmation s sl kind = true := by
    rw [refusedConfirmation_iff]
    have hservice : s.inService = false ↔ s.phase ≠ .run ∨ s.lockdown = true := by
      simp [State.inService, Classical.or_iff_not_imp_left]
    have hready : s.headReady = false ↔ s.head.state ≠ .counting ∨ s.detector.state ≠ .idle := by
      simp [State.headReady, Classical.or_iff_not_imp_left]
    rw [hservice, hready, ← Bool.not_eq_true (sl.admits kind), admits_iff]
    obtain h | h | h | h | h | h | h | ⟨hdirect, h⟩ := hcauses
    · exact .inl h
    · exact .inr (.inl (.inl h))
    · exact .inr (.inl (.inr h))
    · exact .inr (.inr (.inl h))
    · exact .inr (.inr (.inr (.inl (.inl h))))
    · exact .inr (.inr (.inr (.inl (.inr h))))
    · exact .inr (.inr (.inr (.inr (.inl h))))
    · refine .inr (.inr (.inr (.inr (.inr ?_))))
      rintro (hsweep | ⟨hallowed, hfurther, hfirst⟩)
      · rw [hdirect] at hsweep; cases hsweep
      · obtain h | h | h := h
        · rw [hallowed] at h; cases h
        · rw [hfurther] at h; cases h
        · exact h hfirst
  have hexec := exec_confirm hconfigured dt other kind
  obtain ⟨c, b, d, hpass⟩ := pass_eq s dt
  obtain ⟨operator, pins, alarm, hsample, hnone, hnumber, halarm⟩ := takeOperatorSample_refuses (w := s.pass dt) (kind := kind)
    (i := i) (x := x) (sl := sl) (by rw [hpass]; exact hwas) (by rw [hpass]; exact hselection) (by rw [hpass]; exact hsl)
    (by rw [hpass]; exact hrefused)
  have hoperator : (s.pass dt).operator = s.operator := by rw [hpass]
  rw [hoperator] at hsample hnumber
  have hends := ends_pass_operator s dt (s.pass dt) operator pins
    (s.slots.set i.val { sl with reset := { sl.reset with outcome := .refused } }) alarm
  refine ⟨finish (s.pass dt) (takeOperatorSample (confirmLevels other s.operator.debounced kind) (s.pass dt)),
    by cases kind <;> exact hexec, ?_, ?_, fun hsilent => ?_, ?_⟩
  · rw [finish_operator, hsample]; exact hnone
  · rw [finish_operator, hsample]; exact hnumber
  · have hcondition : (s.pass dt).alarmCondition = none := by rw [hpass]; exact hsilent
    have halarm' := halarm hcondition
    have hnone' : (finish (s.pass dt) (takeOperatorSample (confirmLevels other s.operator.debounced kind)
        (s.pass dt))).alarmCondition = none := by
      rw [finish_alarmCondition, hsample]; exact hcondition
    rw [finish_alarm, hnone', hsample]
    dsimp only
    rw [halarm']
    exact ⟨rfl, rfl, rfl⟩
  · rw [finish_operator, finish_pins, hsample]
    rw [hpass] at hends ⊢
    exact hends

end Sys2Proof.Proofs

end

section
/-! PROOFS. The findings of the Lane Comparator (9.3, 9.4). -/

namespace Sys2Proof.Machine

/-! ### Differences that stay -/

/-- A difference held stays where another item, or one that still differs, is compared. -/
theorem noteDifference_keeps {x : Tick} {item : LaneItem} {differs : Bool} {ds : List LaneDifference} {d : LaneDifference}
    (hd : d ∈ ds) (hdiffers : item = d.item → differs = true) : d ∈ noteDifference x item differs ds := by
  unfold noteDifference
  split
  next =>
    split
    · exact hd
    · exact List.mem_append_left _ hd
  next hagrees => exact List.mem_filter.mpr ⟨hd, bne_iff_ne.mpr fun h => hagrees (hdiffers h.symm)⟩

theorem noteDifferences_keeps {x : Tick} {differs : LaneItem → Bool} {d : LaneDifference} (hdiffers : differs d.item = true)
    (items : List LaneItem) : ∀ ds : List LaneDifference, d ∈ ds →
      d ∈ items.foldl (fun ds item => noteDifference x item (differs item) ds) ds := by
  induction items with
  | nil => exact fun _ h => h
  | cons item items ih => exact fun ds h => ih _ (noteDifference_keeps h fun hitem => hitem ▸ hdiffers)

/-- A difference of an item that a fault falsifies stays at the end of an event. -/
theorem finish_keeps_fault {u : State} {d : LaneDifference} (hd : d ∈ u.lanes.differing) (hfault : d.item ∈ u.lanes.faulty)
    (b : State) : d ∈ (finish b u).lanes.differing := by
  obtain ⟨v, hfinish, hlanes⟩ := finish_noteLanes b u
  rw [hfinish, noteLanes]
  refine noteDifferences_keeps (differs_iff.mpr (.inl ?_)) _ _ ?_
  · change d.item ∈ v.lanes.faulty
    rw [hlanes]; exact hfault
  · change d ∈ v.lanes.differing
    rw [hlanes]; exact hd

/-! ### Findings -/

/-- The difference time of an item that the comparator does not hold, or holds since `x`, runs out 5 ms after `x`. -/
theorem laneMismatchDue_some {item : LaneItem} {x : Tick} {s : State}
    (hheld : ∀ d, s.lanes.differing.find? (fun e => e.item == item) = some d → d.since = some x)
    (hnew : s.lanes.differing.find? (fun e => e.item == item) = none → comparedFrom s item = some x) :
    laneMismatchDue s item = some (x + 501) := by
  unfold laneMismatchDue
  split
  next d hd => rw [hheld d hd]; rfl
  next hnone => rw [hnew hnone]; rfl

theorem comparedFrom_some {item : LaneItem} {x : Tick} {s : State}
    (hx : x = match item with | .ownTotals => s.passAt | .slotState _ => s.passAt | _ => 0)
    (htotals : item = .ownTotals → s.configured = true) (hslot : ∀ i, item = .slotState i → i.val < s.slots.length)
    (hcontent : item ≠ .telegramContent) : comparedFrom s item = some x := by
  cases item with
  | ownTotals => exact (if_pos (htotals rfl)).trans (congrArg some hx.symm)
  | slotState i =>
    rw [comparedFrom, State.slot?, List.getElem?_eq_getElem (hslot i rfl)]
    exact congrArg some hx.symm
  | telegramContent => exact absurd rfl hcontent
  | clearCommand | lampPattern | statusPattern | alarmPattern => exact congrArg some hx.symm

/-- A finding enters lockdown, or in lockdown leaves the state as the finding left it. -/
theorem finding_result {cause : LockdownCause} {w u : State} (b : State) {c : Complement Evaluation} {x : Complement Tick}
    {l : List LaneEvent} {e : Nat} {d : List LaneDifference}
    (hu : u = { w with lanes := { w.lanes with copy := c, time := x, behind := l, events := e, differing := d } }) :
    (w.lockdown = false → EntersLockdown cause w (finish b (enterLockdown cause u))) ∧
      (w.lockdown = true → Ends w (finish b (enterLockdown cause u))) := by
  have hlockdown : u.lockdown = w.lockdown := by rw [hu]
  refine ⟨fun h => (enterLockdown_enters (hlockdown.trans h)).of_lanes hu, fun h => ?_⟩
  rw [enterLockdown_of_lockdown (hlockdown.trans h)]
  exact (finish_ends b u).of_lanes hu

theorem clockDisagrees_iff (measured : Nat) : clockDisagrees measured = true ↔ measured < 98000 ∨ 102000 < measured := by
  simp [clockDisagrees]

end Sys2Proof.Machine

namespace Sys2Proof.Proofs

open Sys2Proof.Machine

/-- Settles O43: a lane difference is handed over once, and a period outside its bounds is a clock fault. -/
theorem laneAndClockFaults : Obligations.LaneAndClockFaults := by
  refine ⟨fun item x s hheld hnew => ?_, fun item d s hd hstopped => ?_, fun measured s => ?_⟩
  · have hdue : laneMismatchDue s item = some (x + 501) := laneMismatchDue_some hheld fun hnone => by
      obtain ⟨hx, htotals, hslot, hcontent⟩ := hnew hnone
      exact comparedFrom_some hx htotals hslot hcontent
    have hexec : exec (.laneMismatch item) s = whenDue (laneMismatchDue s item) s (effect (.laneMismatch item)) := rfl
    obtain ⟨c, b, d, hreach⟩ := reach_eq s (x + 501)
    have heffect : effect (.laneMismatch item) (s.reach (x + 501)) = enterLockdown .laneMismatch
        { s.reach (x + 501) with lanes := (s.reach (x + 501)).lanes.handOver item } := rfl
    have hfaulty : item ∈ (s.reach (x + 501)).lanes.faulty.filter (fun i => i != item) ++ [item] :=
      List.mem_append_right _ (List.mem_singleton_self _)
    have hstopped : { item := item, since := none } ∈
        (s.reach (x + 501)).lanes.differing.filter (fun d => d.item != item) ++ [{ item := item, since := none }] :=
      List.mem_append_right _ (List.mem_singleton_self _)
    rw [hexec, whenDue_of_eq hdue, heffect]
    obtain ⟨henters, hends⟩ := finding_result (cause := .laneMismatch)
      (w := { s with
        now := max s.now (x + 501)
        lanes := { s.lanes with faulty := s.lanes.faulty.filter (fun e => e != item) ++ [item] } })
      (u := { s.reach (x + 501) with lanes := (s.reach (x + 501)).lanes.handOver item }) (s.reach (x + 501))
      (by rw [hreach]; rfl)
    refine ⟨_, _, rfl, rfl, ⟨_, finish_keeps_fault (d := ⟨item, none⟩) ?_ ?_ _, rfl, rfl⟩, henters, hends⟩
    · rw [enterLockdown_lanes]; exact hstopped
    · rw [enterLockdown_lanes]; exact hfaulty
  · have hdue : laneMismatchDue s item = none := by rw [laneMismatchDue, hd]; exact congrArg (after · _) hstopped
    have hexec : exec (.laneMismatch item) s = whenDue (laneMismatchDue s item) s (effect (.laneMismatch item)) := rfl
    rw [hexec, hdue, whenDue_none]
  · have hexec : exec (.clockCheckPeriodEnd measured) s =
        whenDue (some (s.lanes.periodSince + 10000)) s (effect (.clockCheckPeriodEnd measured)) := rfl
    obtain ⟨c, b, d, hreach⟩ := reach_eq s (s.lanes.periodSince + 10000)
    have heffect : effect (.clockCheckPeriodEnd measured) (s.reach (s.lanes.periodSince + 10000)) =
        if clockDisagrees measured then enterLockdown .clockFault { s.reach (s.lanes.periodSince + 10000) with
          lanes := { (s.reach (s.lanes.periodSince + 10000)).lanes with periodSince := s.lanes.periodSince + 10000 } }
        else { s.reach (s.lanes.periodSince + 10000) with
          lanes := { (s.reach (s.lanes.periodSince + 10000)).lanes with periodSince := s.lanes.periodSince + 10000 } } := by
      rw [hreach]; rfl
    have hnext : { s.reach (s.lanes.periodSince + 10000) with
          lanes := { (s.reach (s.lanes.periodSince + 10000)).lanes with periodSince := s.lanes.periodSince + 10000 } } =
        { { s with
            now := max s.now (s.lanes.periodSince + 10000)
            lanes := { s.lanes with periodSince := s.lanes.periodSince + 10000 } } with
          lanes := { s.lanes with
            periodSince := s.lanes.periodSince + 10000, copy := c
            time := ⟨s.lanes.time.value + (s.lanes.periodSince + 10000 - s.now)⟩, behind := b, differing := d } } := by
      rw [hreach]
    rw [hexec, whenDue_of_eq rfl, heffect]
    refine ⟨_, _, rfl, rfl, fun hlocked hbounds => ?_, fun hends => ?_⟩
    · rw [if_pos ((clockDisagrees_iff measured).mpr hbounds)]
      exact (finding_result _ hnext).1 hlocked
    · split
      next hdisagrees =>
        obtain hlocked | hwithin := hends
        · exact (finding_result _ hnext).2 hlocked
        · exact absurd ((clockDisagrees_iff measured).mp hdisagrees) (by omega)
      next => exact (finish_ends _ _).of_lanes hnext

end Sys2Proof.Proofs

end

section
/-! PROOFS. The clear pairs: the half-period tick, the read-back and the watch (10.2, 10.3). -/

namespace Sys2Proof.Machine

/-! ### The end of an event of the clear pairs -/

theorem Ends.withOutputs {u t : State} (h : Ends u t) : Ends { u with outputs := t.outputs } t := by
  have houtputs := congrArg (·.outputs) h.rest
  dsimp only at houtputs
  refine ⟨h.rest.trans ?_, h.slotKept, h.serviceKept⟩
  rw [← houtputs]

theorem ends_reach_outputs (s : State) (x : Tick) (b : State) (o : Outputs) :
    Ends { s with now := max s.now x, outputs := (finish b { s.reach x with outputs := o }).outputs }
      (finish b { s.reach x with outputs := o }) := by
  obtain ⟨_, _, _, hreach⟩ := reach_eq s x
  rw [hreach]
  exact (finish_ends _ _).withOutputs.of_lanes rfl

theorem finish_tickSince (b u : State) : (finish b u).outputs.tickSince = u.outputs.tickSince :=
  congrArg (·.outputs.tickSince) (finish_ends b u).rest

theorem finish_watch (b u : State) : (finish b u).outputs.watch = u.outputs.watch :=
  congrArg (·.outputs.watch) (finish_ends b u).rest

/-! ### Comparison -/

/-- What a reading must be to match (R169). -/
theorem readingMatches_iff (l : ClearLine) (reading : Bool) : readingMatches l reading = true ↔
    reading = l.level ∧ (l.toggling = true → l.wasToggling = true → l.lastRead = some (!l.level)) := by
  simp only [readingMatches, Bool.and_eq_true, beq_iff_eq, Bool.or_eq_true, Bool.not_eq_true']
  refine and_congr_right' ?_
  cases l.toggling <;> cases l.wasToggling <;> simp

theorem compare_mismatches_of_match {l : ClearLine} {reading : Bool} (h : readingMatches l reading = true) :
    (l.compare reading).mismatches = 0 := if_pos h

theorem compare_mismatches_of_fault {l : ClearLine} {reading : Bool} (h : readingMatches l reading ≠ true) :
    (l.compare reading).mismatches = l.mismatches + 1 := if_neg h

theorem faulty_false {c : ClearPair} (hp : c.p.mismatches ≤ 1) (hq : c.q.mismatches ≤ 1) : c.faulty = false := by
  simp only [ClearPair.faulty, Bool.or_eq_false_iff, decide_eq_false_iff_not]
  omega

theorem faulty_true {c : ClearPair} (h : 2 ≤ c.p.mismatches ∨ 2 ≤ c.q.mismatches) : c.faulty = true := by
  simpa [ClearPair.faulty] using h

/-- With no count at 2 nothing follows, and with one at 2 every count returns to 0 and lockdown is entered. -/
theorem judgeCounts_of_sound {s : State} (h : ∀ i : Fin 4, s.outputs.pairs[i].faulty = false) : judgeCounts s = s := by
  refine if_neg fun hfaulty => ?_
  obtain ⟨i, hi, hpair⟩ := Vector.any_eq_true.mp hfaulty
  exact absurd hpair (by rw [Bool.not_eq_true]; exact h ⟨i, hi⟩)

theorem judgeCounts_of_faulty {s : State} {i : Fin 4} (h : s.outputs.pairs[i].faulty = true) :
    judgeCounts s = enterLockdown .outputReadback
      { s with outputs := { s.outputs with pairs := s.outputs.pairs.map ClearPair.forget } } :=
  if_pos (Vector.any_eq_true.mpr ⟨i, i.isLt, h⟩)

/-! ### The tick -/

/-- The state in which a tick has compared every line. -/
def State.compared (w : State) (read : Vector PairLevels 4) : State :=
  compareAll read { w with outputs := { w.outputs with tickSince := halfPeriodDue w, watch := 0 } }

theorem compared_pair (w : State) (read : Vector PairLevels 4) (i : Fin 4) :
    (w.compared read).outputs.pairs[i] = w.outputs.pairs[i].compare read[i] := by
  simp [State.compared, compareAll]

theorem setLevels_pair (v : State) (i : Fin 4) :
    (setLevels v).outputs.pairs[i] = v.outputs.pairs[i].set (v.clearCommand i) (v.laneQCommand i) := by
  simp [setLevels]

theorem clearCommand_iff (s : State) (i : Fin 4) : s.clearCommand i = true ↔
    (∃ sl, s.slots[i.val]? = some sl ∧ sl.state = .clear) ∧ s.phase = .run ∧ s.lockdown = false := by
  rw [State.clearCommand, State.slot?]
  cases s.slots[i.val]? with
  | none => simp
  | some sl => simp [State.inService]

theorem laneQCommand_iff (s : State) (i : Fin 4) : s.laneQCommand i = true ↔
    s.lanes.laneQ.commands[i] = false ∧ s.lockdown = false := by
  simp [State.laneQCommand]

theorem exec_tick {s : State} {x : Tick} (hsince : s.outputs.tickSince = some x) (read : Vector PairLevels 4) :
    exec (.halfPeriodTick read) s = .next (finish (s.reach (x + 200))
      (setLevels (judgeCounts ((s.reach (x + 200)).compared read)))) := by
  have hdue : halfPeriodDue s = some (x + 200) := by rw [halfPeriodDue, hsince]; rfl
  have hexec : exec (.halfPeriodTick read) s = whenDue (halfPeriodDue s) s (effect (.halfPeriodTick read)) := rfl
  rw [hexec, whenDue_of_eq hdue]
  rfl

theorem exec_watch {s : State} {x : Tick} (hsince : s.outputs.tickSince = some x) :
    exec .tickWatchExpiry s = .next (finish (s.reach s.now) (effect .tickWatchExpiry (s.reach s.now))) := by
  have hdue : s.outputs.tickSince.map (fun _ => s.now) = some s.now := by rw [hsince]; rfl
  have hexec : exec .tickWatchExpiry s =
      whenDue (s.outputs.tickSince.map (fun _ => s.now)) s (effect .tickWatchExpiry) := rfl
  rw [hexec, whenDue_of_eq hdue]

/-! ### Read-back faults -/

/-- The state in which the counts have returned to 0. -/
def State.forgetCounts (v : State) : State :=
  { v with outputs := { v.outputs with pairs := v.outputs.pairs.map ClearPair.forget } }

theorem forgetCounts_pair (v : State) (i : Fin 4) : v.forgetCounts.outputs.pairs[i] = v.outputs.pairs[i].forget := by
  simp [State.forgetCounts]

/-- In lockdown each lane sets its lines low. -/
theorem setLevels_pair_of_lockdown {v : State} (h : v.lockdown = true) (i : Fin 4) :
    (setLevels v).outputs.pairs[i] = v.outputs.pairs[i].set false false := by
  have hcommand : v.clearCommand i = false := by
    rw [← Bool.not_eq_true, clearCommand_iff, h]
    simp
  rw [setLevels_pair, hcommand, State.laneQCommand, h, Bool.not_true, Bool.and_false]

/-- What an entry to lockdown with OUTPUT_READBACK leaves, before the end of the event. -/
theorem enterLockdown_readback {v : State} (h : v.lockdown = false) :
    (enterLockdown .outputReadback v).lockdownRecord = some { cause := .outputReadback, time := v.stationTime } ∧
      (enterLockdown .outputReadback v).phase = v.phase ∧ (enterLockdown .outputReadback v).txy = v.txy ∧
      (enterLockdown .outputReadback v).tyx = v.tyx ∧ (enterLockdown .outputReadback v).log = v.log ∧
      (enterLockdown .outputReadback v).slots = v.slots.map Slot.unclear := by
  obtain ⟨_, _, _, hlocked⟩ := enterLockdown_eq (cause := .outputReadback) h
  rw [hlocked]
  exact ⟨rfl, rfl, rfl, rfl, rfl, rfl⟩

/-- A reading that differs from the level, or one that stood at the comparison before on a line that toggles on, is no match. -/
theorem not_readingMatches {l : ClearLine} {reading : Bool} (h : reading ≠ l.level ∨
    (l.toggling = true ∧ l.wasToggling = true ∧ l.lastRead = some reading)) : readingMatches l reading ≠ true := by
  rw [ne_eq, readingMatches_iff]
  rintro ⟨hlevel, htoggles⟩
  obtain hne | ⟨htoggling, hwas, hread⟩ := h
  · exact hne hlevel
  · have hlast := (htoggles htoggling hwas).symm.trans hread
    rw [hlevel] at hlast
    simp at hlast

/-- A second reading of a line that does not match is a fault of its pair. -/
theorem compare_faulty {c : ClearPair} {reading : PairLevels}
    (h : (c.p.mismatches = 1 ∧ readingMatches c.p reading.p ≠ true) ∨
      (c.q.mismatches = 1 ∧ readingMatches c.q reading.q ≠ true)) : (c.compare reading).faulty = true := by
  refine faulty_true ?_
  obtain ⟨hcount, hfault⟩ | ⟨hcount, hfault⟩ := h
  · exact .inl (Nat.le_of_eq ((compare_mismatches_of_fault hfault).trans (congrArg (· + 1) hcount)).symm)
  · exact .inr (Nat.le_of_eq ((compare_mismatches_of_fault hfault).trans (congrArg (· + 1) hcount)).symm)

/-- The state in which the watch has released every line. -/
def State.released (w : State) : State :=
  { w with outputs := { w.outputs with watch := nextWatch w.outputs.watch, pairs := w.outputs.pairs.map ClearPair.release } }

theorem released_pair (w : State) (i : Fin 4) : w.released.outputs.pairs[i] = w.outputs.pairs[i].release := by
  simp [State.released]

/-- An event of the watch, which lets no time pass, that writes the outputs alone. -/
theorem ends_watch (s : State) (b : State) (o : Outputs) :
    Ends { s with outputs := (finish b { s.reach s.now with outputs := o }).outputs } (finish b { s.reach s.now with outputs := o }) := by
  have hends := ends_reach_outputs s s.now b o
  rw [Nat.max_self] at hends
  exact hends

/-- A tick at which a count reaches 2. -/
theorem exec_tick_faulty {read : Vector PairLevels 4} {s : State} {x : Tick} {i : Fin 4} (hsince : s.outputs.tickSince = some x)
    (hfaulty : (s.outputs.pairs[i].compare read[i]).faulty = true) :
    ∃ t, exec (.halfPeriodTick read) s = .next t ∧ t.lockdown = true ∧
      t.outputs.tickSince = some (x + 200) ∧ t.outputs.watch = 0 ∧
      (s.lockdown = false → t.lockdownRecord = some { cause := .outputReadback, time := t.stationTime } ∧
        t.phase = s.phase ∧ t.txy = s.txy ∧ t.tyx = s.tyx ∧ t.log = s.log ∧ t.slots = s.slots.map Slot.unclear) ∧
      (s.lockdown = true → t.lockdownRecord = s.lockdownRecord ∧
        Ends { s with now := max s.now (x + 200), outputs := t.outputs } t) ∧
      ∀ j : Fin 4, t.outputs.pairs[j].p.level = false ∧ t.outputs.pairs[j].q.level = false ∧
        t.outputs.pairs[j].p.mismatches = 0 ∧ t.outputs.pairs[j].q.mismatches = 0 := by
  obtain ⟨c, b, d, hreach⟩ := reach_eq s (x + 200)
  have hexec := exec_tick hsince read
  have hjudged : judgeCounts ((s.reach (x + 200)).compared read) =
      enterLockdown .outputReadback ((s.reach (x + 200)).compared read).forgetCounts := by
    refine judgeCounts_of_faulty (i := i) ?_
    rw [compared_pair, hreach]
    exact hfaulty
  have htick : ((s.reach (x + 200)).compared read).outputs.tickSince = some (x + 200) := by
    change halfPeriodDue (s.reach (x + 200)) = _
    rw [hreach, halfPeriodDue, hsince]
    rfl
  rw [hjudged] at hexec
  refine ⟨_, hexec, ?_, ?_, ?_, fun hservice => ?_, fun hlocked => ?_, fun j => ?_⟩
  · rw [finish_lockdown]; exact enterLockdown_lockdown ..
  · rw [finish_tickSince, ← htick]; exact congrArg (·.tickSince) (enterLockdown_outputs ..)
  · rw [finish_watch]; exact congrArg (·.watch) (enterLockdown_outputs ..)
  · have hservice' : ((s.reach (x + 200)).compared read).forgetCounts.lockdown = false := by rw [hreach]; exact hservice
    obtain ⟨hrecord, hphase, htxy, htyx, hlog, hslots⟩ := enterLockdown_readback hservice'
    have htime : ((s.reach (x + 200)).compared read).forgetCounts.stationTime =
        (finish (s.reach (x + 200)) (setLevels (enterLockdown .outputReadback
          ((s.reach (x + 200)).compared read).forgetCounts))).stationTime := by
      rw [State.stationTime, State.stationTime, finish_now]
      exact congrArg (fun n => BitVec.ofNat 32 (n / 100)) (enterLockdown_now ..).symm
    rw [← htime, finish_lockdownRecord, finish_phase, finish_txy, finish_tyx, finish_log, finish_slots]
    refine ⟨hrecord, hphase.trans ?_, htxy.trans ?_, htyx.trans ?_, hlog.trans ?_, hslots.trans ?_⟩ <;> rw [hreach] <;> rfl
  · have hlocked' : ((s.reach (x + 200)).compared read).forgetCounts.lockdown = true := by rw [hreach]; exact hlocked
    rw [enterLockdown_of_lockdown hlocked']
    refine ⟨?_, ends_reach_outputs ..⟩
    rw [finish_lockdownRecord, hreach]
    rfl
  · have hlevels := setLevels_pair_of_lockdown (enterLockdown_lockdown .outputReadback
      ((s.reach (x + 200)).compared read).forgetCounts) j
    rw [enterLockdown_outputs, forgetCounts_pair] at hlevels
    rw [finish_pairs, hlevels]
    exact ⟨rfl, by simp [ClearPair.set, ClearLine.set], rfl, rfl⟩

/-- A watch that runs out at which a count reaches 2. -/
theorem exec_watch_faulty {s : State} {x : Tick} {i : Fin 4} (hsince : s.outputs.tickSince = some x)
    (hcount : s.outputs.pairs[i].p.mismatches = 1 ∨ s.outputs.pairs[i].q.mismatches = 1) :
    ∃ t, exec .tickWatchExpiry s = .next t ∧ t.lockdown = true ∧
      t.outputs.tickSince = s.outputs.tickSince ∧
      t.outputs.watch = (if s.outputs.watch = 0 then 3 else s.outputs.watch + 2) ∧
      (s.lockdown = false → t.lockdownRecord = some { cause := .outputReadback, time := t.stationTime }) ∧
      (s.lockdown = true → t.lockdownRecord = s.lockdownRecord ∧ Ends { s with outputs := t.outputs } t) ∧
      ∀ j : Fin 4, t.outputs.pairs[j].p.level = false ∧ t.outputs.pairs[j].q.level = false ∧
        t.outputs.pairs[j].p.mismatches = 0 ∧ t.outputs.pairs[j].q.mismatches = 0 := by
  obtain ⟨c, b, d, hreach⟩ := reach_eq s s.now
  have hexec := exec_watch hsince
  have hjudged : effect .tickWatchExpiry (s.reach s.now) =
      enterLockdown .outputReadback (s.reach s.now).released.forgetCounts := by
    refine judgeCounts_of_faulty (i := i) ?_
    refine Eq.trans (congrArg ClearPair.faulty (released_pair _ i)) (faulty_true ?_)
    rw [hreach]
    obtain h | h := hcount
    · exact .inl (Nat.succ_le_succ (Nat.le_of_eq h.symm))
    · exact .inr (Nat.succ_le_succ (Nat.le_of_eq h.symm))
  rw [hjudged] at hexec
  refine ⟨_, hexec, ?_, ?_, ?_, fun hservice => ?_, fun hlocked => ?_, fun j => ?_⟩
  · rw [finish_lockdown]; exact enterLockdown_lockdown ..
  · rw [finish_tickSince, enterLockdown_outputs, hreach]; rfl
  · rw [finish_watch, enterLockdown_outputs, hreach]; rfl
  · have hservice' : (s.reach s.now).released.forgetCounts.lockdown = false := by rw [hreach]; exact hservice
    have htime : (s.reach s.now).released.forgetCounts.stationTime = (finish (s.reach s.now)
        (enterLockdown .outputReadback (s.reach s.now).released.forgetCounts)).stationTime := by
      rw [State.stationTime, State.stationTime, finish_now, enterLockdown_now]
    rw [← htime, finish_lockdownRecord]
    exact (enterLockdown_readback hservice').1
  · have hlocked' : (s.reach s.now).released.forgetCounts.lockdown = true := by rw [hreach]; exact hlocked
    rw [enterLockdown_of_lockdown hlocked']
    refine ⟨?_, ends_watch ..⟩
    rw [finish_lockdownRecord, hreach]
    rfl
  · rw [finish_pairs, enterLockdown_outputs, forgetCounts_pair, released_pair]
    exact ⟨rfl, rfl, rfl, rfl⟩

end Sys2Proof.Machine

namespace Sys2Proof.Proofs

open Sys2Proof.Machine

/-- Settles O45: with no count at 2, a tick compares every line and sets the next levels. -/
theorem halfPeriodsFollowTheTable : Obligations.HalfPeriodsFollowTheTable := by
  intro read s x fits hsince hfits hcounts
  have hmatches : ∀ l reading, readingMatches l reading = true ↔ fits l reading := fun l reading =>
    (readingMatches_iff l reading).trans (hfits l reading).symm
  have hcompare : ∀ (l : ClearLine) (reading : Bool), l.mismatches = 0 ∨ fits l reading →
      (fits l reading → (l.compare reading).mismatches = 0) ∧ (¬fits l reading → (l.compare reading).mismatches = 1) ∧
        (l.compare reading).mismatches ≤ 1 := by
    intro l reading hcount
    have hfit : fits l reading → (l.compare reading).mismatches = 0 :=
      fun h => compare_mismatches_of_match ((hmatches ..).mpr h)
    have hfault : ¬fits l reading → (l.compare reading).mismatches = 1 := fun h => by
      rw [compare_mismatches_of_fault (mt (hmatches ..).mp h), hcount.resolve_right h]
    refine ⟨hfit, hfault, ?_⟩
    by_cases h : fits l reading
    · rw [hfit h]; decide
    · exact Nat.le_of_eq (hfault h)
  obtain ⟨c, b, d, hreach⟩ := reach_eq s (x + 200)
  have hexec := exec_tick hsince read
  have hcompared : judgeCounts ((s.reach (x + 200)).compared read) = (s.reach (x + 200)).compared read := by
    refine judgeCounts_of_sound fun i => ?_
    rw [compared_pair, hreach]
    exact faulty_false (hcompare _ _ (hcounts i).1).2.2 (hcompare _ _ (hcounts i).2).2.2
  have htick : (setLevels ((s.reach (x + 200)).compared read)).outputs.tickSince = some (x + 200) := by
    change halfPeriodDue (s.reach (x + 200)) = _
    rw [hreach, halfPeriodDue, hsince]
    rfl
  rw [hcompared] at hexec
  refine ⟨_, hexec, ?_, ?_, fun i command trailing hcommand htrailing => ?_, ?_⟩
  · rw [finish_tickSince]; exact htick
  · rw [finish_watch]; rfl
  · have hcommand' : ((s.reach (x + 200)).compared read).clearCommand i = command := by
      rw [Bool.eq_iff_iff, clearCommand_iff, hcommand, hreach]
      rfl
    have htrailing' : ((s.reach (x + 200)).compared read).laneQCommand i = trailing := by
      rw [finish_laneQ] at htrailing
      rw [Bool.eq_iff_iff, laneQCommand_iff, htrailing, hreach]
      rfl
    have hpair : (finish (s.reach (x + 200)) (setLevels ((s.reach (x + 200)).compared read))).outputs.pairs[i] =
        (s.outputs.pairs[i].compare read[i]).set command trailing := by
      rw [finish_pairs, setLevels_pair, hcommand', htrailing', compared_pair, hreach]
    obtain ⟨hp0, hp1, -⟩ := hcompare _ _ (hcounts i).1
    obtain ⟨hq0, hq1, -⟩ := hcompare _ _ (hcounts i).2
    rw [hpair]
    refine ⟨rfl, rfl, rfl, rfl, ?_, ?_, ?_, rfl, rfl, ?_, rfl, rfl, hp0, hp1, hq0, hq1⟩ <;>
      simp +contextual [ClearPair.set, ClearLine.set, ClearPair.compare, ClearLine.compare]
  · exact ends_reach_outputs ..

/-- Settles O46: a second mismatch in a row, at a tick or by the watch, is a read-back fault. -/
theorem readBackFaultsLockDown : Obligations.ReadBackFaultsLockDown := by
  refine ⟨fun read s x i hsince hfault => exec_tick_faulty (i := i) hsince (compare_faulty ?_), fun s x hsince hcounts => ?_,
    fun s x i hsince hcount => exec_watch_faulty hsince hcount⟩
  · exact hfault.imp (fun ⟨hcount, h⟩ => ⟨hcount, not_readingMatches h⟩) (fun ⟨hcount, h⟩ => ⟨hcount, not_readingMatches h⟩)
  · obtain ⟨c, b, d, hreach⟩ := reach_eq s s.now
    have hexec := exec_watch hsince
    have hjudged : effect .tickWatchExpiry (s.reach s.now) = (s.reach s.now).released := by
      refine judgeCounts_of_sound (s := (s.reach s.now).released) fun i => ?_
      rw [released_pair, hreach]
      obtain ⟨hp, hq⟩ := hcounts i
      exact faulty_false (Nat.succ_le_succ (Nat.le_of_eq hp)) (Nat.succ_le_succ (Nat.le_of_eq hq))
    rw [hjudged] at hexec
    refine ⟨_, hexec, ?_, ?_, fun j => ?_, ends_watch ..⟩
    · rw [finish_watch, hreach]; rfl
    · rw [finish_tickSince, hreach]; rfl
    · obtain ⟨hp, hq⟩ := hcounts j
      rw [finish_pairs, released_pair, hreach]
      exact ⟨rfl, rfl, congrArg (· + 1) hp, congrArg (· + 1) hq⟩

end Sys2Proof.Proofs

end

section
/-! PROOFS. The patterns of the lamps, the status line and the alarm (10.4 to 10.6). -/

namespace Sys2Proof.Machine

/-! ### The end of an event of a pattern -/

/-- The state at the instant of a pattern's timer, with the lamps, the status line and the alarm shown. -/
def State.showing (s : State) (x : Tick) (lamps : Vector Lamp 4) (status : StatusLine) (alarm : Alarm) : State :=
  { s.reach x with outputs := { s.outputs with lamps := lamps, status := status, alarm := alarm } }

end Sys2Proof.Machine

namespace Sys2Proof.Machine
variable (s : State) (x : Tick) (b : State) (lamps : Vector Lamp 4) (status : StatusLine) (alarm : Alarm)

theorem ends_showing : Ends { s with now := max s.now x } (finish b (s.showing x lamps status alarm)) := by
  obtain ⟨_, _, _, hreach⟩ := reach_eq s x
  rw [State.showing, hreach]
  refine (Ends.of_notice (request := s.builder.request) (lamps := lamps) (status := status) (alarm := alarm) ?_)
  exact (finish_ends _ _).of_lanes rfl

theorem showing_keeps : (s.showing x lamps status alarm).lampCommand = s.lampCommand ∧
    (s.showing x lamps status alarm).inService = s.inService ∧
    (s.showing x lamps status alarm).alarmCondition = s.alarmCondition := by
  obtain ⟨_, _, _, hreach⟩ := reach_eq s x
  rw [State.showing, hreach]
  exact ⟨rfl, rfl, rfl⟩

theorem showing_lamp (i : Fin 4) (h : lamps[i].pattern = s.lampCommand i) :
    (finish b (s.showing x lamps status alarm)).outputs.lamps[i] = lamps[i] := by
  rw [finish_lamp, finish_lampCommand, (showing_keeps ..).1]
  exact if_pos h

theorem showing_status (h : status.since.isSome = s.inService) (hlow : s.inService = false → status.high = false) :
    (finish b (s.showing x lamps status alarm)).outputs.status = status := by
  rw [finish_status, finish_inService, (showing_keeps ..).2.1]
  exact StatusLine.command_following h hlow _

theorem showing_alarm (h : ∀ c, alarm.shows = .standing c ↔ s.alarmCondition = some c) :
    (finish b (s.showing x lamps status alarm)).outputs.alarm = alarm := by
  rw [finish_alarm, finish_alarmCondition, (showing_keeps ..).2.2]
  exact Alarm.command_following h _

end Sys2Proof.Machine

namespace Sys2Proof.Machine

/-! ### Steps of the patterns -/

/-- A lamp at the end of its on or off time. -/
def Lamp.step (l : Lamp) (time : Tick) : Lamp := { l with lit := !l.lit, since := l.since + time }

theorem exec_lampStep {s : State} {lamp : Fin 4} {time : Tick} (h : lampTime s.outputs.lamps[lamp].pattern = some time) :
    exec (.lampPatternStep lamp) s = .next (finish (s.reach (s.outputs.lamps[lamp].since + time))
      (s.showing (s.outputs.lamps[lamp].since + time) (s.outputs.lamps.set lamp (s.outputs.lamps[lamp].step time))
        s.outputs.status s.outputs.alarm)) := by
  have hdue : lampDue s lamp = some (s.outputs.lamps[lamp].since + time) := by rw [lampDue, h]
  have hexec : exec (.lampPatternStep lamp) s = whenDue (lampDue s lamp) s (effect (.lampPatternStep lamp)) := rfl
  have heffect : effect (.lampPatternStep lamp) (s.reach (s.outputs.lamps[lamp].since + time)) =
      s.showing (s.outputs.lamps[lamp].since + time) (s.outputs.lamps.set lamp (s.outputs.lamps[lamp].step time))
        s.outputs.status s.outputs.alarm := by
    obtain ⟨_, _, _, hreach⟩ := reach_eq s (s.outputs.lamps[lamp].since + time)
    have hdue' : lampDue (s.reach (s.outputs.lamps[lamp].since + time)) lamp = some (s.outputs.lamps[lamp].since + time) := by
      rw [hreach]; exact hdue
    dsimp only [effect]
    rw [hdue', State.showing, hreach]
    rfl
  rw [hexec, whenDue_of_eq hdue, heffect]

theorem exec_statusToggle {s : State} {x : Tick} (h : s.outputs.status.since = some x) :
    exec .statusLineToggle s = .next (finish (s.reach (x + 5000)) (s.showing (x + 5000) s.outputs.lamps
      { high := !s.outputs.status.high, since := some (x + 5000) } s.outputs.alarm)) := by
  have hdue : statusDue s = some (x + 5000) := by rw [statusDue, h]; rfl
  have hexec : exec .statusLineToggle s = whenDue (statusDue s) s (effect .statusLineToggle) := rfl
  have heffect : effect .statusLineToggle (s.reach (x + 5000)) = s.showing (x + 5000) s.outputs.lamps
      { high := !s.outputs.status.high, since := some (x + 5000) } s.outputs.alarm := by
    obtain ⟨_, _, _, hreach⟩ := reach_eq s (x + 5000)
    have hdue' : statusDue (s.reach (x + 5000)) = some (x + 5000) := by rw [hreach]; exact hdue
    dsimp only [effect]
    rw [hdue', State.showing, hreach]
  rw [hexec, whenDue_of_eq hdue, heffect]

theorem exec_alarmStep {s : State} {c : AlarmCondition} {time : Nat} (hshows : s.outputs.alarm.shows = .standing c)
    (htime : (alarmTimes c)[s.outputs.alarm.place]? = some time) :
    exec .alarmPatternStep s = .next (finish (s.reach (s.outputs.alarm.since + 100 * time))
      (s.showing (s.outputs.alarm.since + 100 * time) s.outputs.lamps s.outputs.status
        (s.outputs.alarm.step (s.outputs.alarm.since + 100 * time) (alarmTimes c).length))) := by
  have hdue : alarmDue s = some (s.outputs.alarm.since + 100 * time) := by
    rw [alarmDue, hshows]
    dsimp only
    rw [htime]
    exact congrArg (fun n => some (s.outputs.alarm.since + n)) (Nat.mul_comm time 100)
  have hexec : exec .alarmPatternStep s = whenDue (alarmDue s) s (effect .alarmPatternStep) := rfl
  have heffect : effect .alarmPatternStep (s.reach (s.outputs.alarm.since + 100 * time)) =
      s.showing (s.outputs.alarm.since + 100 * time) s.outputs.lamps s.outputs.status
        (s.outputs.alarm.step (s.outputs.alarm.since + 100 * time) (alarmTimes c).length) := by
    obtain ⟨_, _, _, hreach⟩ := reach_eq s (s.outputs.alarm.since + 100 * time)
    have hdue' : alarmDue (s.reach (s.outputs.alarm.since + 100 * time)) = some (s.outputs.alarm.since + 100 * time) := by
      rw [hreach]; exact hdue
    have hshows' : (s.reach (s.outputs.alarm.since + 100 * time)).outputs.alarm.shows = .standing c := by
      rw [hreach]; exact hshows
    dsimp only [effect]
    rw [hshows']
    dsimp only
    rw [hdue', State.showing, hreach]
    rfl
  rw [hexec, whenDue_of_eq hdue, heffect]

theorem exec_refusalStep {s : State} (hshows : s.outputs.alarm.shows = .refusal) :
    ∃ alarm, exec .refusalPatternStep s = .next (finish (s.reach (s.outputs.alarm.since + 10000))
      (s.showing (s.outputs.alarm.since + 10000) s.outputs.lamps s.outputs.status alarm)) ∧
    (s.outputs.alarm.place = 4 → alarm.shows = .silent ∧ alarm.sounding = false) ∧
    (s.outputs.alarm.place ≠ 4 → alarm = s.outputs.alarm.step (s.outputs.alarm.since + 10000) 5) := by
  have hdue : refusalDue s = some (s.outputs.alarm.since + 10000) := by rw [refusalDue, hshows]; rfl
  have hexec : exec .refusalPatternStep s = whenDue (refusalDue s) s (effect .refusalPatternStep) := rfl
  have heffect : effect .refusalPatternStep (s.reach (s.outputs.alarm.since + 10000)) =
      s.showing (s.outputs.alarm.since + 10000) s.outputs.lamps s.outputs.status
        (if s.outputs.alarm.place = 4 then Alarm.silence (max s.now (s.outputs.alarm.since + 10000))
          else s.outputs.alarm.step (s.outputs.alarm.since + 10000) 5) := by
    obtain ⟨_, _, _, hreach⟩ := reach_eq s (s.outputs.alarm.since + 10000)
    have hdue' : refusalDue (s.reach (s.outputs.alarm.since + 10000)) = some (s.outputs.alarm.since + 10000) := by
      rw [hreach]; exact hdue
    dsimp only [effect]
    rw [hdue', State.showing, hreach]
    rfl
  rw [hexec, whenDue_of_eq hdue, heffect]
  refine ⟨_, rfl, fun h => ?_, fun h => if_neg h⟩
  rw [if_pos h]
  exact ⟨rfl, rfl⟩

/-- The places of a pattern follow one another, the last by the first. -/
theorem Alarm.step_place {a : Alarm} {places : Nat} (h : a.place < places) (x : Tick) :
    (a.step x places).place = if a.place + 1 = places then 0 else a.place + 1 := by
  change (a.place + 1) % places = _
  split
  next hlast => rw [hlast, Nat.mod_self]
  next hlast => exact Nat.mod_eq_of_lt (by omega)

end Sys2Proof.Machine

namespace Sys2Proof.Proofs

open Sys2Proof.Machine

/-- Settles O47: each pattern goes on by its times. -/
theorem patternsStep : Obligations.PatternsStep := by
  intro s hfollow
  refine ⟨fun lamp time hpattern => ?_, fun x hsince => ?_, fun c times time hshows htimes hplace => ?_,
    fun hshows hnone => ?_⟩
  · have htime : lampTime s.outputs.lamps[lamp].pattern = some time := by
      obtain ⟨h, rfl⟩ | ⟨h, rfl⟩ | ⟨h, rfl⟩ := hpattern <;> rw [h] <;> rfl
    refine ⟨_, exec_lampStep htime, ?_, fun other hother => ?_, ends_showing ..⟩
    · rw [showing_lamp]
      · simp [Lamp.step]
      · simpa [Lamp.step] using hfollow.lamps lamp
    · have hkept : (s.outputs.lamps.set lamp (s.outputs.lamps[lamp].step time))[other] = s.outputs.lamps[other] :=
        Vector.getElem_set_ne _ _ fun h => hother (Fin.ext h.symm)
      rw [showing_lamp, hkept]
      rw [hkept]; exact hfollow.lamps other
  · have hservice : s.inService = true := by rw [← hfollow.status, hsince]; rfl
    refine ⟨_, exec_statusToggle hsince, ends_showing .., ?_⟩
    exact showing_status _ _ _ _ _ _ hservice.symm (fun h => absurd h (by rw [hservice]; decide))
  · have htimes' : alarmTimes c = times := by
      obtain ⟨rfl, rfl⟩ | ⟨rfl, rfl⟩ | ⟨rfl, rfl⟩ := htimes <;> rfl
    rw [← htimes'] at hplace ⊢
    refine ⟨_, exec_alarmStep hshows hplace, ends_showing .., ?_⟩
    rw [showing_alarm _ _ _ _ _ (s.outputs.alarm.step _ _) hfollow.alarm]
    exact ⟨hshows, rfl, Alarm.step_place (List.getElem?_eq_some_iff.mp hplace).1 _, rfl⟩
  · obtain ⟨alarm, hexec, hlast, hnext⟩ := exec_refusalStep hshows
    have hkept : (finish (s.reach (s.outputs.alarm.since + 10000)) (s.showing (s.outputs.alarm.since + 10000)
        s.outputs.lamps s.outputs.status alarm)).outputs.alarm = alarm := by
      refine showing_alarm _ _ _ _ _ _ fun c => ?_
      rw [hnone]
      by_cases h : s.outputs.alarm.place = 4
      · rw [(hlast h).1]; simp
      · rw [hnext h]; change s.outputs.alarm.shows = _ ↔ _; rw [hshows]; simp
    refine ⟨_, hexec, ends_showing .., fun hplace => ?_, fun hplace => ?_⟩
    · rw [hkept, hnext (Nat.ne_of_lt hplace)]
      exact ⟨hshows, Nat.mod_eq_of_lt (Nat.succ_lt_succ hplace), rfl, rfl⟩
    · rw [hkept]; exact hlast hplace

end Sys2Proof.Proofs

end

section
/-! PROOFS. The configuration image: where its fields stand, and when it passes (3.2, 11.3). -/

namespace Sys2Proof.Machine

/-! ### Bytes -/

theorem sideOf_eq_y (b : Byte) : sideOf b = .y ↔ 128 ≤ b.toNat := by
  have hbit : b.getLsbD 7 = decide (128 ≤ b.toNat) := BitVec.msb_eq_decide b
  rw [sideOf, hbit]
  by_cases h : 128 ≤ b.toNat <;> simp [h]

theorem getLsbD_six (b : Byte) : b.getLsbD 6 = true ↔ 64 ≤ b.toNat % 128 := by
  have hlt : b.toNat < 256 := b.isLt
  rw [BitVec.getLsbD, Nat.testBit_eq_decide_div_mod_eq, decide_eq_true_eq]
  omega

theorem word_toNat (high low : Byte) : (word high low).toNat = 256 * high.toNat + low.toNat := by
  have hlow : low.toNat < 256 := low.isLt
  rw [word, BitVec.toNat_append, ← Nat.shiftLeft_add_eq_or_of_lt hlow, Nat.shiftLeft_eq]
  omega

theorem getElem?_map_range {α : Type} {f : Nat → α} {n k : Nat} {x : α} (h : ((List.range n).map f)[k]? = some x) : x = f k := by
  obtain ⟨m, hm, rfl⟩ := Option.map_eq_some_iff.mp (List.getElem?_map .. ▸ h)
  rw [(List.getElem?_eq_some_iff.mp hm).2.symm, List.getElem_range]

/-! ### The slots of the image -/

theorem readEntries_eq (memory : List Byte) : ∀ n pos, readEntries memory pos n =
    (List.range n).map fun j => ((imageByte memory (pos + j)).toNat % 128, sideOf (imageByte memory (pos + j))) := by
  intro n
  induction n with
  | zero => intro pos; rfl
  | succ n ih =>
    intro pos
    rw [readEntries, ih, List.range_succ_eq_map, List.map_cons, List.map_map]
    refine congrArg _ (List.map_congr_left fun j _ => ?_)
    simp only [Function.comp, Nat.succ_eq_add_one, Nat.add_assoc, Nat.add_comm 1]

/-- The slot that the bytes from a place on describe. -/
def slotAt (memory : List Byte) (pos : Nat) : ImageSlot :=
  { sectionNumber := (imageByte memory pos).toNat % 64 * 256 + (imageByte memory (pos + 1)).toNat
    side := sideOf (imageByte memory pos), direct := (imageByte memory pos).getLsbD 6
    entries := readEntries memory (pos + 3) (imageByte memory (pos + 2)).toNat }

/-- The boundary count at a place lies in 2 to 8. -/
def CountFits (memory : List Byte) (pos : Nat) : Prop :=
  2 ≤ (imageByte memory (pos + 2)).toNat ∧ (imageByte memory (pos + 2)).toNat ≤ 8

/-- Slots stand one after the other, each of three bytes and its entries. -/
def Follow (memory : List Byte) (start : Nat → Nat) : Prop :=
  ∀ k, start (k + 1) = start k + 3 + (imageByte memory (start k + 2)).toNat

theorem readSlots_of_fits {memory : List Byte} {pos : Nat} (h : CountFits memory pos) (n : Nat) :
    readSlots memory pos (n + 1) = (readSlots memory (pos + 3 + (imageByte memory (pos + 2)).toNat) n).map
      fun read => (slotAt memory pos :: read.1, read.2) := by
  rw [readSlots]
  refine (if_pos h).trans ?_
  cases readSlots memory (pos + 3 + (imageByte memory (pos + 2)).toNat) n with
  | none => rfl
  | some read => rfl

theorem readSlots_of_misfit {memory : List Byte} {pos : Nat} (h : ¬CountFits memory pos) (n : Nat) :
    readSlots memory pos (n + 1) = none := if_neg h

theorem readSlots_some {memory : List Byte} {start : Nat → Nat} (hfollow : Follow memory start) :
    ∀ n k, (∀ j < n, CountFits memory (start (k + j))) →
      readSlots memory (start k) n = some ((List.range n).map fun j => slotAt memory (start (k + j)), start (k + n)) := by
  intro n
  induction n with
  | zero => intro k _; rfl
  | succ n ih =>
    intro k hfits
    have hrest := ih (k + 1) fun j hj => by
      rw [Nat.add_assoc, Nat.add_comm 1]
      exact hfits (j + 1) (Nat.succ_lt_succ hj)
    have hhead : CountFits memory (start k) := hfits 0 n.succ_pos
    rw [readSlots_of_fits hhead, ← hfollow, hrest, List.range_succ_eq_map, List.map_cons, List.map_map]
    simp only [Function.comp_def, Option.map_some, Nat.succ_eq_add_one, Nat.add_assoc, Nat.add_comm 1, Nat.add_zero]

theorem readSlots_none {memory : List Byte} {start : Nat → Nat} (hfollow : Follow memory start) :
    ∀ n k, (∃ j < n, ¬CountFits memory (start (k + j))) → readSlots memory (start k) n = none := by
  intro n
  induction n with
  | zero => rintro k ⟨j, hj, -⟩; exact absurd hj j.not_lt_zero
  | succ n ih =>
    rintro k ⟨j, hj, hbad⟩
    by_cases hfits : CountFits memory (start k)
    · rw [readSlots_of_fits hfits, ← hfollow, ih (k + 1) ?_]
      · rfl
      · cases j with
        | zero => exact absurd hfits hbad
        | succ j => exact ⟨j, Nat.lt_of_succ_lt_succ hj, by rw [Nat.add_assoc, Nat.add_comm 1]; exact hbad⟩
    · exact readSlots_of_misfit hfits n

/-! ### The image -/

/-- The image that the bytes describe, with this many slots at these places. -/
def imageAt (memory : List Byte) (start : Nat → Nat) : Image :=
  { format := (imageByte memory 0).toNat, station := (imageByte memory 1).toNat, filterCode := (imageByte memory 2).toNat
    spacing := (word (imageByte memory 3) (imageByte memory 4)).toNat
    slots := (List.range (imageByte memory 5).toNat).map fun k => slotAt memory (start k)
    crcMatches := crc16 ((List.range (start (imageByte memory 5).toNat)).map (imageByte memory)) ==
      word (imageByte memory (start (imageByte memory 5).toNat)) (imageByte memory (start (imageByte memory 5).toNat + 1)) }

/-- The length of the image can be determined. -/
def Determined (memory : List Byte) (start : Nat → Nat) : Prop :=
  (imageByte memory 5).toNat ≤ 4 ∧ ∀ k < (imageByte memory 5).toNat, CountFits memory (start k)

theorem readImage_determined {memory : List Byte} {start : Nat → Nat} (hfirst : start 0 = 6) (hfollow : Follow memory start)
    (h : Determined memory start) : readImage memory = some (imageAt memory start) := by
  have hslots := readSlots_some hfollow (imageByte memory 5).toNat 0 (by simpa using h.2)
  rw [hfirst] at hslots
  simp only [Nat.zero_add] at hslots
  rw [readImage, if_pos h.1, hslots]
  rfl

theorem readImage_undetermined {memory : List Byte} {start : Nat → Nat} (hfirst : start 0 = 6) (hfollow : Follow memory start)
    (h : ¬Determined memory start) : readImage memory = none := by
  rw [readImage]
  by_cases hcount : (imageByte memory 5).toNat ≤ 4
  · have hbad : ∃ j < (imageByte memory 5).toNat, ¬CountFits memory (start (0 + j)) := by
      refine Classical.byContradiction fun hall => ?_
      refine h ⟨hcount, fun k hk => ?_⟩
      refine Classical.byContradiction fun hk' => ?_
      exact hall ⟨k, hk, by rw [Nat.zero_add]; exact hk'⟩
    have hslots := readSlots_none hfollow (imageByte memory 5).toNat 0 hbad
    rw [hfirst] at hslots
    rw [if_pos hcount, hslots]
  · exact if_neg hcount

/-! ### The checks -/

/-- The stations of a passing image lie below 31, so that its peers stand among those. -/
theorem peers_eq {im : Image} (h : ∀ sl ∈ im.slots, ∀ e ∈ sl.entries, 1 ≤ e.1 ∧ e.1 ≤ 30) : im.peers =
    (List.range 31).filter fun n => n != im.station && im.slots.any (fun sl => sl.entries.any (fun e => e.1 == n)) := by
  rw [Image.peers, show (128 : Nat) = 31 + 97 from rfl, List.range_add, List.filter_append]
  refine (congrArg _ (List.filter_eq_nil_iff.mpr fun n hn => ?_)).trans (List.append_nil _)
  obtain ⟨k, -, rfl⟩ := List.mem_map.mp hn
  simp only [Bool.and_eq_true, List.any_eq_true, beq_iff_eq, not_and]
  rintro - ⟨sl, hsl, e, he, heq⟩
  have := (h sl hsl e he).2
  omega

theorem image_inRange_iff (im : Image) : im.inRange = true ↔ (1 ≤ im.station ∧ im.station ≤ 30) ∧ im.filterCode ≤ 2 ∧
    (80 ≤ im.spacing ∧ im.spacing ≤ 400) ∧ (∀ sl ∈ im.slots, 1 ≤ sl.sectionNumber ∧ sl.sectionNumber ≤ 1023) ∧
    (∀ sl ∈ im.slots, ∀ e ∈ sl.entries, 1 ≤ e.1 ∧ e.1 ≤ 30) := by
  simp only [Image.inRange, Bool.and_eq_true, decide_eq_true_eq, List.all_eq_true]
  constructor
  · rintro ⟨⟨hlow, hhigh, hfilter, hspacing⟩, hslots⟩
    exact ⟨⟨hlow, hhigh⟩, hfilter, hspacing, fun sl hsl => (hslots sl hsl).1, fun sl hsl => (hslots sl hsl).2⟩
  · rintro ⟨⟨hlow, hhigh⟩, hfilter, hspacing, hsections, hentries⟩
    exact ⟨⟨hlow, hhigh, hfilter, hspacing⟩, fun sl hsl => ⟨hsections sl hsl, hentries sl hsl⟩⟩

theorem sides_iff (slots : List ImageSlot) : (∀ side : Side, (slots.filter (fun sl => sl.side == side)).length ≤ 2) ↔
    (slots.filter (fun sl => sl.side == .x)).length ≤ 2 ∧ (slots.filter (fun sl => sl.side == .y)).length ≤ 2 :=
  ⟨fun h => ⟨h .x, h .y⟩, fun ⟨hx, hy⟩ side => by cases side <;> assumption⟩

theorem passes_iff (im : Image) : im.passes = true ↔ im.format = 21 ∧ im.crcMatches = true ∧ im.inRange = true ∧
    (im.slots.map (·.sectionNumber)).Nodup ∧ (∀ side : Side, (im.slots.filter (fun sl => sl.side == side)).length ≤ 2) ∧
    (∀ sl ∈ im.slots, (sl.entries.map (·.1)).Nodup) ∧
    (∀ sl ∈ im.slots, sl.entries.filter (fun e => e.1 == im.station) = [(im.station, sl.side)]) ∧ im.peers.length ≤ 16 := by
  simp only [Image.passes, ImageSlot.ownOnce, Bool.and_eq_true, beq_iff_eq, decide_eq_true_eq, List.all_eq_true, sides_iff,
    and_assoc]

theorem passingImage_iff {memory : List Byte} {im : Image} (h : readImage memory = some im) :
    passingImage memory = some im ↔ im.passes = true := by
  rw [passingImage, h]
  simp

end Sys2Proof.Machine

namespace Sys2Proof.Proofs

open Sys2Proof.Machine

/-- Settles O6: the reading by places agrees with the reading in sequence, and the checks are those of the list. -/
theorem imageChecksDecide : Obligations.ImageChecksDecide := by
  refine ⟨fun memory byte start hbyte hfirst hnext => ?_, fun memory im hread => ?_⟩
  · obtain rfl : byte = fun i => (imageByte memory i).toNat := funext hbyte
    have hfollow : Follow memory start := hnext
    have hdetermined : ¬Determined memory start ↔ 4 < (imageByte memory 5).toNat ∨ ∃ k, k < (imageByte memory 5).toNat ∧
        ((imageByte memory (start k + 2)).toNat < 2 ∨ 8 < (imageByte memory (start k + 2)).toNat) := by
      simp only [Determined, CountFits, Classical.not_and_iff_not_or_not, Nat.not_le, Classical.not_forall, exists_prop]
    refine ⟨?_, fun hnone => by rw [passingImage, hnone], fun im him => ?_⟩
    · rw [← hdetermined]
      by_cases h : Determined memory start
      · simp [readImage_determined hfirst hfollow h, h]
      · simp [readImage_undetermined hfirst hfollow h, h]
    · have hgood : Determined memory start := by
        refine Classical.byContradiction fun h => ?_
        rw [readImage_undetermined hfirst hfollow h] at him
        cases him
      rw [readImage_determined hfirst hfollow hgood] at him
      obtain rfl := Option.some.inj him
      refine ⟨rfl, rfl, rfl, word_toNat .., ?_, ?_, fun k sl hsl => ?_⟩
      · simp [imageAt]
      · simp only [imageAt, beq_iff_eq]
        rw [← word_toNat, BitVec.toNat_inj]
        rfl
      · obtain rfl := getElem?_map_range hsl
        refine ⟨rfl, sideOf_eq_y _, getLsbD_six _, ?_, fun j e he => ?_⟩
        · rw [slotAt, readEntries_eq, List.length_map, List.length_range]
        · rw [slotAt, readEntries_eq] at he
          obtain rfl := getElem?_map_range he
          exact ⟨rfl, sideOf_eq_y _⟩
  · rw [passingImage_iff hread, passes_iff, image_inRange_iff]
    constructor
    · rintro ⟨hformat, hcrc, ⟨hstation, hfilter, hspacing, hsections, hentries⟩, hdistinct, hsides, hstations, hown, hpeers⟩
      rw [peers_eq hentries] at hpeers
      exact ⟨hformat, hcrc, hstation, hfilter, hspacing, hsections, hentries, hdistinct, hsides, hstations, hown, hpeers⟩
    · rintro ⟨hformat, hcrc, hstation, hfilter, hspacing, hsections, hentries, hdistinct, hsides, hstations, hown, hpeers⟩
      rw [← peers_eq hentries] at hpeers
      exact ⟨hformat, hcrc, ⟨hstation, hfilter, hspacing, hsections, hentries⟩, hdistinct, hsides, hstations, hown, hpeers⟩

end Sys2Proof.Proofs

end

section
/-! PROOFS. The part's own clock: frames handed on, timers that have run out, and ticks (R1, R57). -/

namespace Sys2Proof.Machine

/-! ### Frames handed on -/

theorem queryCommand_eq (kind parameter : Byte) : queryCommand kind parameter =
    if kind = 1 then .statusQuery 0 parameter else if kind = 2 then .sectionQuery 0 parameter
    else if kind = 3 then .peersQuery 0 parameter else if kind = 4 then .logQuery 0 parameter
    else if kind = 5 then .clearDiag 0 parameter else .queryOfUnknownKind 0 kind parameter := by
  have hkind : ∀ n : Byte, kind.toNat = n.toNat → kind = n := fun n h => BitVec.eq_of_toNat_eq h
  by_cases h1 : kind = 1
  · subst h1; rfl
  by_cases h2 : kind = 2
  · subst h2; rfl
  by_cases h3 : kind = 3
  · subst h3; rfl
  by_cases h4 : kind = 4
  · subst h4; rfl
  by_cases h5 : kind = 5
  · subst h5; rfl
  rw [if_neg h1, if_neg h2, if_neg h3, if_neg h4, if_neg h5]
  unfold queryCommand
  split
  next h => exact absurd (hkind 1 h) h1
  next h => exact absurd (hkind 2 h) h2
  next h => exact absurd (hkind 3 h) h3
  next h => exact absurd (hkind 4 h) h4
  next h => exact absurd (hkind 5 h) h5
  next => rfl

theorem idle_of_handed {s : State} {frame : Handed} {rest : List Handed} (h : s.handed = frame :: rest) :
    idle s = { s with freeUses := s.freeUses + 1, pending := [frame.command s.freeUses] } := by
  have hidle := idle.eq_1 s
  rw [h] at hidle
  exact hidle

theorem step_of_empty {s : State} (h : s.pending = []) : step s = .next (idle s) := by
  rw [step, h]

/-! ### Timers that have run out -/

/-- The timers that have run out and do not wait for the samples of this tick. -/
def pastEvents (s : State) : List TimedEvent :=
  ((timedEvents s).filter fun e => decide (e.due ≤ s.now)).filter fun e => !waitsForSample s e

theorem dueEvents_eq (s : State) : dueEvents s =
    (pastEvents s).filter fun e => (pastEvents s).all fun f => decide (e.due ≤ f.due) := by
  have hpast : pastEvents s = (timedEvents s).filter fun e => decide (e.due ≤ s.now) && !waitsForSample s e := by
    rw [pastEvents, List.filter_filter]
    exact List.filter_congr fun e _ => Bool.and_comm ..
  rw [hpast]
  rfl

theorem dueEvents_nil {s : State} (h : pastEvents s = []) : dueEvents s = [] := by rw [dueEvents_eq, h]; rfl

theorem dueEvents_one {s : State} {e : TimedEvent} (h : pastEvents s = [e]) : dueEvents s = [e] := by
  rw [dueEvents_eq, h]
  simp

end Sys2Proof.Machine

namespace Sys2Proof.Machine
variable {s : State} {e : TimedEvent}

theorem pastEvents_of_waits (hdue : (timedEvents s).filter (fun f => decide (f.due ≤ s.now)) = [e])
    (hwaits : waitsForSample s e = true) : pastEvents s = [] := by
  rw [pastEvents, hdue]
  simp [hwaits]

theorem pastEvents_of_ready (hdue : (timedEvents s).filter (fun f => decide (f.due ≤ s.now)) = [e])
    (hwaits : waitsForSample s e = false) : pastEvents s = [e] := by
  rw [pastEvents, hdue]
  simp [hwaits]

end Sys2Proof.Machine

namespace Sys2Proof.Machine

theorem pastEvents_of_later {s : State} (h : ∀ e ∈ timedEvents s, s.now < e.due) : pastEvents s = [] := by
  have hnone : (timedEvents s).filter (fun e => decide (e.due ≤ s.now)) = [] :=
    List.filter_eq_nil_iff.mpr fun e he => by simpa using h e he
  rw [pastEvents, hnone, List.filter_nil]

/-- What the part does with its timers where no frame waits. -/
theorem idle_of_handed_nil {s : State} (hhanded : s.handed = []) :
    (dueEvents s = [] → s.sampleDue = true → idle s = sample s) ∧
    (dueEvents s = [] → s.sampleDue = false → idle s = tick s) ∧
    (∀ e, dueEvents s = [e] → s.sampleDue = false → idle s = { s with pending := [e.event] }) ∧
    (∀ e, dueEvents s = [e] → s.sampleDue = true → idle s = sampleOrRaise [e] s) := by
  have hidle := idle.eq_1 s
  rw [hhanded] at hidle
  refine ⟨fun hdue hsample => ?_, fun hdue hsample => ?_, fun e hdue hsample => ?_, fun e hdue hsample => ?_⟩ <;>
    rw [hdue, hsample] at hidle <;> exact hidle

theorem sampleOrRaise_one (e : TimedEvent) (s : State) :
    (e.due < s.now → sampleOrRaise [e] s = { s with freeUses := s.freeUses + 1, pending := [e.event] }) ∧
    (sampleOrRaise [e] s = { s with freeUses := s.freeUses + 1, pending := [e.event] } ∨
      sampleOrRaise [e] s = sample { s with freeUses := s.freeUses + 1 }) := by
  unfold sampleOrRaise
  refine ⟨fun h => if_neg ?_, ?_⟩
  · simp [fallNow, Nat.ne_of_lt h]
  · split
    · exact .inr rfl
    · exact .inl rfl

/-! ### Events that turn on the sample -/

theorem sampleChannel_spike (n : Nat) (now : Tick) (raw : Bool) (c : HeadChannel) :
    sampleChannel n now raw c = .spike ↔ c.filtered = some raw ∧ c.diffFrom ≠ none := by
  unfold sampleChannel
  by_cases hsame : c.filtered = some raw
  · by_cases hnone : c.diffFrom = none <;> simp [hsame, hnone]
  · by_cases hrun : n ≤ c.run now + 1 <;> simp [hsame, hrun]

theorem sampleBreaks_iff (s : State) : sampleBreaks s = true ↔ s.pins.head.hha = false ∨ s.pins.head.hhb = false ∨
    (s.head.a.filtered = some s.pins.head.hca ∧ s.head.a.diffFrom ≠ none) ∨
    (s.head.b.filtered = some s.pins.head.hcb ∧ s.head.b.diffFrom ≠ none) := by
  simp only [sampleBreaks, Bool.or_eq_true, Bool.not_eq_true', beq_iff_eq, sampleChannel_spike, or_assoc]

/-- On its tick an event waits for the sample just where it turns on it. -/
theorem waitsForSample_iff {s : State} {e : TimedEvent} (hsample : s.sampleDue = true) (hdue : e.due = s.now) :
    waitsForSample s e = true ↔ (e.event = .headFault .a ∧ s.pins.head.hha = true) ∨
      (e.event = .headFault .b ∧ s.pins.head.hhb = true) ∨ (e.event = .headRecovery ∧ sampleBreaks s = true) := by
  unfold waitsForSample
  rw [hsample, hdue, beq_self_eq_true, Bool.true_and, Bool.true_and]
  split
  next c hc => cases c <;> simp [hc, Pins.health]
  next hc => simp [hc]
  next hfault hrecovery =>
    have ha : e.event ≠ .headFault .a := hfault .a
    have hb : e.event ≠ .headFault .b := hfault .b
    have hr : e.event ≠ .headRecovery := hrecovery
    simp [ha, hb, hr]

theorem waitsForSample_of_not_due {s : State} {e : TimedEvent} (h : s.sampleDue = false ∨ e.due ≠ s.now) :
    waitsForSample s e = false := by
  obtain h | h := h <;> simp [waitsForSample, h]

end Sys2Proof.Machine

namespace Sys2Proof.Proofs

open Sys2Proof.Machine

/-- Settles O2: the idle part takes a frame, else the one timer that has run out, else the samples, else a tick. -/
theorem idleStepRaisesTheNextEvent : Obligations.IdleStepRaisesTheNextEvent := by
  refine ⟨fun s kind parameter rest hpending hhanded => ?_, fun s tel rest hpending hhanded => ?_,
    fun s e hpending hhanded hdue => ⟨fun hsample => ?_, fun hsample hpast => ?_, fun hsample hnow turns hturns => ?_⟩,
    fun s hpending hhanded hlater => ?_⟩ <;> rw [step_of_empty hpending]
  · rw [idle_of_handed hhanded, ← queryCommand_eq]
    rfl
  · rw [idle_of_handed hhanded]
    exact ⟨_, rfl⟩
  · obtain ⟨-, -, hraise, -⟩ := idle_of_handed_nil hhanded
    rw [hraise e (dueEvents_one (pastEvents_of_ready hdue (waitsForSample_of_not_due (.inl hsample)))) hsample]
  · obtain ⟨-, -, -, hraise⟩ := idle_of_handed_nil hhanded
    have hready := pastEvents_of_ready hdue (waitsForSample_of_not_due (.inr (Nat.ne_of_lt hpast)))
    rw [hraise e (dueEvents_one hready) hsample, (sampleOrRaise_one e s).1 hpast]
  · obtain ⟨hsampled, -, -, hraise⟩ := idle_of_handed_nil hhanded
    have hwaits : turns ↔ waitsForSample s e = true := by rw [hturns, waitsForSample_iff hsample hnow, sampleBreaks_iff]
    refine ⟨fun h => ?_, fun h => ?_⟩
    · rw [hsampled (dueEvents_nil (pastEvents_of_waits hdue (hwaits.mp h))) hsample]
    · have hready := pastEvents_of_ready hdue (by rw [← Bool.not_eq_true, ← hwaits]; exact h)
      rw [hraise e (dueEvents_one hready) hsample]
      exact (sampleOrRaise_one e s).2.imp (congrArg _) (congrArg _)
  · obtain ⟨hsampled, htick, -, -⟩ := idle_of_handed_nil hhanded
    have hnone := dueEvents_nil (pastEvents_of_later hlater)
    refine ⟨fun hsample => by rw [hsampled hnone hsample], fun hsample => ?_⟩
    rw [htick hnone hsample]
    refine ⟨_, rfl, fun hbehind => ?_, ?_⟩
    · have hwait : s.pass 1 = s.wait 1 := catchUp_of_nil (s := s.wait 1) hbehind
      rw [tick, hwait]
      rfl
    · obtain ⟨_, _, _, hpass⟩ := pass_eq s 1
      rw [tick, hpass]

end Sys2Proof.Proofs

end

section
/-! PROOFS. One sample of the input pins (1.1 to 1.3, 3.8, 8.1). -/

namespace Sys2Proof.Machine

/-! ### What a sample raises -/

theorem pending_self {s : State} (hpending : s.pending = []) : { s with pending := [] } = s := by rw [← hpending]

theorem raiseSampled_result (events : List Instr) {s : State} (hpending : s.pending = []) : ∃ pending,
    raiseSampled events s = { s with
      pending := pending, freeUses := if pending.length ≤ 1 then s.freeUses else s.freeUses + 1 } ∧ pending.Perm events := by
  unfold raiseSampled
  split
  next => exact ⟨[], (pending_self hpending).symm, .nil⟩
  next e => exact ⟨[e], rfl, .refl _⟩
  next e rest hrest =>
    have hperm := arrange_perm (Config.sampleOrder s.freeUses) (e :: rest)
    refine ⟨_, ?_, hperm⟩
    have hlength : ¬(arrange (Config.sampleOrder s.freeUses) (e :: rest)).length ≤ 1 := by
      rw [hperm.length_eq]
      cases rest with
      | nil => exact absurd rfl hrest
      | cons => simp
    rw [if_neg hlength]
    rfl

theorem raiseSampled_of_le_one {events : List Instr} (h : events.length ≤ 1) {s : State} (hpending : s.pending = []) :
    raiseSampled events s = { s with pending := events } := by
  cases events with
  | nil => exact (pending_self hpending).symm
  | cons e rest =>
    obtain rfl : rest = [] := List.length_eq_zero_iff.mp (by simpa using h)
    rfl

/-- A sample whose three parts are given. -/
theorem sample_of_parts {s a b c : State} {head operator restart : List Instr}
    (hhead : sampleHead { s with sampleDue := false } = (a, head)) (hoperator : sampleOperator a = (b, operator))
    (hrestart : sampleRestart b = (c, restart)) :
    sample s = raiseSampled (head ++ operator ++ restart) (noteRuns s c) := by
  have hsample := sample.eq_1 s
  rw [hhead] at hsample
  dsimp only at hsample
  rw [hoperator] at hsample
  dsimp only at hsample
  rw [hrestart] at hsample
  exact hsample

/-- A sample that brings one event, or none. -/
theorem sample_of_le_one {s a b c : State} {head operator restart : List Instr}
    (hhead : sampleHead { s with sampleDue := false } = (a, head)) (hoperator : sampleOperator a = (b, operator))
    (hrestart : sampleRestart b = (c, restart)) (hone : (head ++ operator ++ restart).length ≤ 1) (hpending : c.pending = []) :
    ∃ q e, sample s = { c with
      pending := head ++ operator ++ restart, lanes := { c.lanes with behind := q, events := e } } := by
  obtain ⟨q, e, hruns⟩ := noteRuns_eq s c
  refine ⟨q, e, ?_⟩
  rw [sample_of_parts hhead hoperator hrestart, hruns]
  exact raiseSampled_of_le_one hone hpending

/-- With nothing due the samples of the tick are taken. -/
theorem step_samples {s : State} (hpending : s.pending = []) (hhanded : s.handed = []) (hsample : s.sampleDue = true)
    (hlater : ∀ e ∈ timedEvents s, s.now < e.due) : step s = .next (sample s) := by
  rw [step_of_empty hpending, (idle_of_handed_nil hhanded).1 (dueEvents_nil (pastEvents_of_later hlater)) hsample]

/-! ### The four head inputs -/

theorem sampleChannel_filteredChange (n : Nat) (now : Tick) (raw : Bool) (c : HeadChannel) :
    sampleChannel n now raw c = .filteredChange ↔ c.filtered ≠ some raw ∧ n ≤ c.run now + 1 := by
  unfold sampleChannel
  by_cases hsame : c.filtered = some raw
  · by_cases hnone : c.diffFrom = none <;> simp [hsame, hnone]
  · by_cases hrun : n ≤ c.run now + 1 <;> simp [hsame, hrun]

theorem sampleChannel_runs (n : Nat) (now : Tick) (raw : Bool) (c : HeadChannel) :
    sampleChannel n now raw c = .runs ↔ c.filtered ≠ some raw ∧ c.run now + 1 < n := by
  unfold sampleChannel
  by_cases hsame : c.filtered = some raw
  · by_cases hnone : c.diffFrom = none <;> simp [hsame, hnone]
  · by_cases hrun : n ≤ c.run now + 1
    · simp [hsame, hrun]
    · simp [hsame, hrun, Nat.lt_of_not_le hrun]

/-- A run starts on a sample that differs where none stood: it is never long enough on its first sample. -/
theorem extend_eq {n : Nat} (hn : 2 ≤ n) (now : Tick) (raw : Bool) (c : HeadChannel) :
    c.extend now (sampleChannel n now raw c) =
      { c with diffFrom := if c.filtered ≠ some raw ∧ c.diffFrom = none then some now else c.diffFrom } := by
  unfold HeadChannel.extend
  by_cases hnone : c.diffFrom = none
  · have hrun : c.run now = 0 := by rw [HeadChannel.run, hnone]
    have hruns : sampleChannel n now raw c = .runs ↔ c.filtered ≠ some raw := by
      rw [sampleChannel_runs, hrun]
      exact and_iff_left (by omega)
    by_cases hsame : c.filtered = some raw
    · rw [if_neg (by rw [hruns]; exact fun h => h.1 hsame), if_neg (fun h => h.1 hsame)]
    · rw [if_pos ⟨hruns.mpr hsame, hnone⟩, if_pos ⟨hsame, hnone⟩]
  · rw [if_neg fun h => hnone h.2, if_neg fun h => hnone h.2]

/-- A head whose channels and health lines all stand as they were sampled before brings nothing. -/
def State.HeadQuiet (s : State) : Prop :=
  s.head.a.filtered = some s.pins.head.hca ∧ s.head.a.diffFrom = none ∧
    s.head.b.filtered = some s.pins.head.hcb ∧ s.head.b.diffFrom = none ∧
    s.head.healthA.level = some s.pins.head.hha ∧ s.head.healthB.level = some s.pins.head.hhb

theorem sampleChannel_quiet {n : Nat} {now : Tick} {raw : Bool} {c : HeadChannel} (hsame : c.filtered = some raw)
    (hnone : c.diffFrom = none) : sampleChannel n now raw c = .nothing := by
  rw [sampleChannel, if_pos hsame, if_pos hnone]

theorem sampleHead_quiet {s : State} (h : s.configured = false ∨ s.HeadQuiet) : sampleHead s = (s, []) := by
  unfold sampleHead
  obtain h | ⟨ha, hrunA, hb, hrunB, hhealthA, hhealthB⟩ := h
  · rw [if_neg (by rw [h]; decide)]
  · split
    · dsimp only
      rw [sampleChannel_quiet ha hrunA, sampleChannel_quiet hb hrunB, healthEvents, if_pos hhealthA, if_pos hhealthB]
      rfl
    · rfl

theorem beq_of_iff {x a : Sampled} {p : Prop} [Decidable p] (h : x = a ↔ p) : (x == a) = decide p := by
  rw [Bool.eq_iff_iff, beq_iff_eq, decide_eq_true_iff]
  exact h

theorem filteredEvents_eq {x y : Sampled} {p q : Prop} [Decidable p] [Decidable q] (hx : x = .filteredChange ↔ p)
    (hy : y = .filteredChange ↔ q) :
    filteredEvents x y = if p ∨ q then [.filteredChange 0 (decide p) (decide q)] else [] := by
  unfold filteredEvents
  refine ite_congr (propext (or_congr hx hy)) (fun _ => ?_) fun _ => rfl
  rw [beq_of_iff hx, beq_of_iff hy]

theorem spikeEvents_eq {x y : Sampled} {p q : Prop} [Decidable p] [Decidable q] (hx : x = .spike ↔ p) (hy : y = .spike ↔ q) :
    spikeEvents x y = (if p then [.spike 0 .a] else []) ++ (if q then [.spike 0 .b] else []) := by
  unfold spikeEvents
  rw [ite_congr (propext hx) (fun _ => rfl) fun _ => rfl, ite_congr (propext hy) (fun _ => rfl) fun _ => rfl]

theorem sampleHead_events {s : State} (h : s.configured = true) :
    (sampleHead s).2 = filteredEvents (sampleChannel s.filterSamples s.now s.pins.head.hca s.head.a)
        (sampleChannel s.filterSamples s.now s.pins.head.hcb s.head.b) ++
      spikeEvents (sampleChannel s.filterSamples s.now s.pins.head.hca s.head.a)
        (sampleChannel s.filterSamples s.now s.pins.head.hcb s.head.b) ++ healthEvents s ∧
    (sampleHead s).1 = { s with head := { s.head with
      a := s.head.a.extend s.now (sampleChannel s.filterSamples s.now s.pins.head.hca s.head.a)
      b := s.head.b.extend s.now (sampleChannel s.filterSamples s.now s.pins.head.hcb s.head.b) } } := by
  rw [sampleHead, if_pos h]
  exact ⟨rfl, rfl⟩

/-- The events that a sample of the head brings, by the table: of levels `a` and `b`, after runs of these lengths, with N
samples of filter time (R2, R7). -/
def sampledEvents (s : State) (a b : Bool) (n runA runB : Nat) : List Instr :=
  (if (s.pins.head.hca ≠ a ∧ n ≤ runA + 1) ∨ (s.pins.head.hcb ≠ b ∧ n ≤ runB + 1) then
      [Instr.filteredChange 0 (decide (s.pins.head.hca ≠ a ∧ n ≤ runA + 1)) (decide (s.pins.head.hcb ≠ b ∧ n ≤ runB + 1))]
    else []) ++
    (if s.pins.head.hca = a ∧ s.head.a.diffFrom ≠ none then [Instr.spike 0 .a] else []) ++
    (if s.pins.head.hcb = b ∧ s.head.b.diffFrom ≠ none then [Instr.spike 0 .b] else []) ++
    (if s.head.healthA.level = some s.pins.head.hha then [] else [Instr.healthLevelChange 0 .a s.pins.head.hha]) ++
    (if s.head.healthB.level = some s.pins.head.hhb then [] else [Instr.healthLevelChange 0 .b s.pins.head.hhb])

/-- The head after a sample, by the table: a run starts on a level that differs (R2). -/
def State.sampledHead (s : State) (a b : Bool) : Head :=
  { s.head with
    a := { s.head.a with diffFrom := if s.pins.head.hca ≠ a ∧ s.head.a.diffFrom = none then some s.now else s.head.a.diffFrom }
    b := { s.head.b with diffFrom := if s.pins.head.hcb ≠ b ∧ s.head.b.diffFrom = none then some s.now else s.head.b.diffFrom } }

/-- The table of R2 in terms of the filtered level. -/
theorem sampleChannel_at {c : HeadChannel} {level : Bool} (hlevel : c.filtered = some level) {n : Nat} (hn : 2 ≤ n)
    (now : Tick) (pin : Bool) :
    (sampleChannel n now pin c = .filteredChange ↔ pin ≠ level ∧ n ≤ c.run now + 1) ∧
    (sampleChannel n now pin c = .spike ↔ pin = level ∧ c.diffFrom ≠ none) ∧
    c.extend now (sampleChannel n now pin c) =
      { c with diffFrom := if pin ≠ level ∧ c.diffFrom = none then some now else c.diffFrom } := by
  have hsame : c.filtered = some pin ↔ pin = level := by rw [hlevel, Option.some_inj, eq_comm]
  refine ⟨?_, ?_, ?_⟩
  · rw [sampleChannel_filteredChange, ne_eq, hsame]
  · rw [sampleChannel_spike, hsame]
  · simp only [extend_eq hn, ne_eq, hsame]

theorem sampleHead_followed {s : State} {a b : Bool} {n runA runB : Nat} (hconfigured : s.configured = true)
    (hn : s.filterSamples = n) (htwo : 2 ≤ n) (ha : s.head.a.filtered = some a) (hb : s.head.b.filtered = some b)
    (hrunA : runA = s.head.a.run s.now) (hrunB : runB = s.head.b.run s.now) :
    sampleHead s = ({ s with head := s.sampledHead a b }, sampledEvents s a b n runA runB) := by
  obtain ⟨hevents, hhead⟩ := sampleHead_events hconfigured
  obtain ⟨hchangeA, hspikeA, hextendA⟩ := sampleChannel_at ha htwo s.now s.pins.head.hca
  obtain ⟨hchangeB, hspikeB, hextendB⟩ := sampleChannel_at hb htwo s.now s.pins.head.hcb
  rw [← hrunA] at hchangeA
  rw [← hrunB] at hchangeB
  rw [hn, filteredEvents_eq hchangeA hchangeB, spikeEvents_eq hspikeA hspikeB, healthEvents] at hevents
  rw [hn, hextendA, hextendB] at hhead
  refine Prod.ext hhead (hevents.trans ?_)
  simp only [sampledEvents, List.append_assoc]

/-! ### The operator lines and the restart line -/

theorem sampleOperator_between {s : State} (h : s.configured = false ∨ (s.now - s.passAt) % 1000 ≠ 0) :
    sampleOperator s = (s, []) := by
  rw [sampleOperator, if_neg]
  obtain h | h := h
  · simp [operatorSampled, h]
  · simp [operatorSampled, ms, h]

theorem operatorSampled_true {s : State} (hconfigured : s.configured = true) (hpassed : s.passAt < s.now)
    (htenth : (s.now - s.passAt) % 1000 = 0) : operatorSampled s = true := by
  simp [operatorSampled, ms, hconfigured, hpassed, htenth]

theorem debounce_eq (level : Bool) (run : Nat) (sample : Bool) : debounce level run sample =
    (if 4 ≤ run then sample else level, if sample = level ∨ 4 ≤ run then 0 else run + 1) := by
  unfold debounce
  by_cases hsame : sample = level
  · simp [hsame]
  · by_cases hrun : 4 ≤ run
    · simp [hsame, hrun]
    · simp [hsame, hrun]

/-- The debounced levels that a sample of the operator lines brings. -/
def State.sampledLevels (s : State) : OperatorLevels :=
  { rq1 := (debounce s.operator.debounced.rq1 s.operator.runs.rq1 s.pins.operator.rq1).1
    rq2 := (debounce s.operator.debounced.rq2 s.operator.runs.rq2 s.pins.operator.rq2).1
    rq3 := (debounce s.operator.debounced.rq3 s.operator.runs.rq3 s.pins.operator.rq3).1
    rq4 := (debounce s.operator.debounced.rq4 s.operator.runs.rq4 s.pins.operator.rq4).1
    cfs := (debounce s.operator.debounced.cfs s.operator.runs.cfs s.pins.operator.cfs).1
    cfd := (debounce s.operator.debounced.cfd s.operator.runs.cfd s.pins.operator.cfd).1 }

/-- The runs that a sample of the operator lines leaves. -/
def State.sampledRuns (s : State) : OperatorRuns :=
  { rq1 := (debounce s.operator.debounced.rq1 s.operator.runs.rq1 s.pins.operator.rq1).2
    rq2 := (debounce s.operator.debounced.rq2 s.operator.runs.rq2 s.pins.operator.rq2).2
    rq3 := (debounce s.operator.debounced.rq3 s.operator.runs.rq3 s.pins.operator.rq3).2
    rq4 := (debounce s.operator.debounced.rq4 s.operator.runs.rq4 s.pins.operator.rq4).2
    cfs := (debounce s.operator.debounced.cfs s.operator.runs.cfs s.pins.operator.cfs).2
    cfd := (debounce s.operator.debounced.cfd s.operator.runs.cfd s.pins.operator.cfd).2 }

theorem sampleOperator_sampled {s : State} (h : operatorSampled s = true) : sampleOperator s =
    ({ s with operator := { s.operator with runs := s.sampledRuns } },
      if s.sampledLevels = s.operator.debounced then [] else [.debouncedLevelChange 0 s.sampledLevels]) := if_pos h

/-- Each line's debounced level and run after a sample (R130). -/
theorem sampled_line (s : State) (level : OperatorLevels → Bool) (run : OperatorRuns → Nat)
    (h : (level, run) ∈ ([(OperatorLevels.rq1, OperatorRuns.rq1), (OperatorLevels.rq2, OperatorRuns.rq2),
      (OperatorLevels.rq3, OperatorRuns.rq3), (OperatorLevels.rq4, OperatorRuns.rq4),
      (OperatorLevels.cfs, OperatorRuns.cfs), (OperatorLevels.cfd, OperatorRuns.cfd)] :
      List ((OperatorLevels → Bool) × (OperatorRuns → Nat)))) :
    (level s.sampledLevels, run s.sampledRuns) =
      debounce (level s.operator.debounced) (run s.operator.runs) (level s.pins.operator) := by
  simp only [List.mem_cons, Prod.mk.injEq, List.not_mem_nil, or_false] at h
  obtain ⟨rfl, rfl⟩ | ⟨rfl, rfl⟩ | ⟨rfl, rfl⟩ | ⟨rfl, rfl⟩ | ⟨rfl, rfl⟩ | ⟨rfl, rfl⟩ := h <;> rfl

/-- A sample of the restart line: the first of its active samples, and the events. -/
theorem sampleRestart_result (s : State) :
    (s.pins.restart = false → sampleRestart s =
      ({ s with restartFrom := none }, if s.restartHeld then [.restartRelease 0] else [])) ∧
    (s.pins.restart = true → sampleRestart s = ({ s with restartFrom := some (s.restartFrom.getD s.now) },
      if s.restartHeld = false ∧ s.restartFrom.getD s.now + 9 ≤ s.now then [.restart] else [])) := by
  refine ⟨fun h => if_neg ?_, fun h => if_pos h⟩
  rw [h]; decide

theorem sampleRestart_calm {s : State} (hpin : s.pins.restart = false) (hheld : s.restartHeld = false) :
    sampleRestart s = ({ s with restartFrom := none }, []) := by
  rw [(sampleRestart_result s).1 hpin, hheld, if_neg (by decide)]

end Sys2Proof.Machine

namespace Sys2Proof.Proofs

open Sys2Proof.Machine

/-- Settles O3: a sample follows the filter table, the debouncing of the operator lines and the restart line. -/
theorem samplesFollowTheFilterTable : Obligations.SamplesFollowTheFilterTable := by
  refine ⟨fun s k a b n hpending hhanded hsample hlater hconfigured hconfig hcode hpin hheld hbetween ha hb runA runB hrunA
      hrunB => ?_,
    fun s hpending hhanded hsample hlater hconfigured hpin hheld hpassed htenth ha hrunA hb hrunB hhealthA hhealthB => ?_,
    fun s hpending hhanded hsample hlater hquiet => ?_⟩
  · rw [step_samples hpending hhanded hsample hlater]
    have hn : s.filterSamples = n ∧ 2 ≤ n := by
      have hfilter : s.filterSamples = Machine.filterSamples k.filterCode := by rw [State.filterSamples, hconfig]
      rw [hfilter]
      obtain ⟨hcode, rfl⟩ | ⟨hcode, rfl⟩ | ⟨hcode, rfl⟩ := hcode <;> rw [hcode] <;> decide
    obtain ⟨hn, htwo⟩ := hn
    have hhead := sampleHead_followed (s := { s with sampleDue := false }) hconfigured hn htwo ha hb hrunA hrunB
    have hoperator : sampleOperator _ = (_, _) := sampleOperator_between (s := { s with
      sampleDue := false, head := s.sampledHead a b }) (.inr hbetween)
    have hrestart : sampleRestart _ = (_, _) := sampleRestart_calm (s := { s with
      sampleDue := false, head := s.sampledHead a b }) hpin hheld
    rw [sample_of_parts hhead hoperator hrestart, List.append_nil, List.append_nil]
    obtain ⟨q, e, hruns⟩ := noteRuns_eq s { s with sampleDue := false, head := s.sampledHead a b, restartFrom := none }
    rw [hruns]
    obtain ⟨pending, hraised, hperm⟩ := raiseSampled_result (sampledEvents s a b n runA runB) (s := { s with
      sampleDue := false, head := s.sampledHead a b, restartFrom := none
      lanes := { s.lanes with behind := q, events := e } }) hpending
    refine ⟨_, congrArg _ hraised, hperm, rfl⟩
  · rw [step_samples hpending hhanded hsample hlater]
    refine ⟨_, s.sampledLevels, rfl, ?_⟩
    have hhead : sampleHead { s with sampleDue := false } = ({ s with sampleDue := false }, []) :=
      sampleHead_quiet (.inr ⟨ha, hrunA, hb, hrunB, hhealthA, hhealthB⟩)
    have hoperator : sampleOperator { s with sampleDue := false } =
        ({ s with sampleDue := false, operator := { s.operator with runs := s.sampledRuns } },
          if s.sampledLevels = s.operator.debounced then [] else [.debouncedLevelChange 0 s.sampledLevels]) :=
      sampleOperator_sampled (operatorSampled_true hconfigured hpassed htenth)
    have hrestart : sampleRestart { s with sampleDue := false, operator := { s.operator with runs := s.sampledRuns } } =
        ({ s with
          sampleDue := false, operator := { s.operator with runs := s.sampledRuns }, restartFrom := none }, []) :=
      sampleRestart_calm hpin hheld
    obtain ⟨q, e, hsampled⟩ := sample_of_le_one hhead hoperator hrestart (by split <;> simp) hpending
    rw [hsampled, List.nil_append, List.append_nil]
    refine ⟨fun level run hline => ?_, rfl⟩
    have hdebounce := (sampled_line s level run hline).trans (debounce_eq ..)
    exact ⟨congrArg Prod.fst hdebounce, congrArg Prod.snd hdebounce⟩
  · rw [step_samples hpending hhanded hsample hlater]
    refine ⟨_, rfl, ?_⟩
    have hhead : sampleHead { s with sampleDue := false } = ({ s with sampleDue := false }, []) :=
      sampleHead_quiet (hquiet.imp id fun h => h.2)
    have hoperator : sampleOperator { s with sampleDue := false } = ({ s with sampleDue := false }, []) :=
      sampleOperator_between (hquiet.imp id fun h => h.1)
    obtain ⟨hinactive, hactive⟩ := sampleRestart_result { s with sampleDue := false }
    refine ⟨fun first hpin hfirst => ?_, fun hpin => ?_⟩
    · obtain ⟨q, e, hsampled⟩ := sample_of_le_one hhead hoperator (hactive hpin) (by
        dsimp only
        split <;> simp) hpending
      rw [hsampled, hfirst]
      have hten : ∀ since now : Nat, since + 9 ≤ now ↔ 9 ≤ now - since := by omega
      have hten' : s.restartFrom.getD s.now + 9 ≤ s.now ↔ 9 ≤ s.now - s.restartFrom.getD s.now := hten _ _
      simp only [hten', List.nil_append]
    · obtain ⟨q, e, hsampled⟩ := sample_of_le_one hhead hoperator (hinactive hpin) (by
        dsimp only
        split <;> simp) hpending
      rw [hsampled]
      rfl

end Sys2Proof.Proofs

end

section
/-! PROOFS. Queries that are refused, and STATUS (chapter 11). -/

namespace Sys2Proof.Machine

/-! ### How a query is taken -/

/-- The state in which a query is taken. -/
def State.atQuery (s : State) (dt : Nat) (kind parameter : Byte) : State := (s.takeHanded (.query kind parameter)).pass dt

theorem atQuery_eq (s : State) (dt : Nat) (kind parameter : Byte) : ∃ c x b d, s.atQuery dt kind parameter = { s with
    now := s.now + dt, handed := s.handed.erase (.query kind parameter)
    lanes := { s.lanes with copy := c, time := x, behind := b, differing := d } } := by
  obtain ⟨c, b, d, hpass⟩ := pass_eq (s.takeHanded (.query kind parameter)) dt
  exact ⟨c, _, b, d, hpass⟩

theorem onQuery_taken {s : State} (htakes : s.takesQueries = true) (dt : Nat) (kind parameter : Byte) (f : State → State) :
    onQuery dt kind parameter s f = .next (finish (s.atQuery dt kind parameter) (f (s.atQuery dt kind parameter))) := by
  obtain ⟨_, _, _, _, hat⟩ := atQuery_eq s dt kind parameter
  refine onInput_arises (s := s.takeHanded (.query kind parameter)) ?_
  change (s.atQuery dt kind parameter).takesQueries = true
  rw [hat]
  exact htakes

/-- The end of an event that has placed an answer. -/
theorem ends_answer {s : State} {dt : Nat} {kind parameter code : Byte} {data body : List Byte}
    (hbody : answerBody s.own code data = body) (b : State) :
    Ends { s with
      now := s.now + dt, handed := s.handed.erase (.query kind parameter)
      line := { s.line with answerSlot := some body } }
      (finish b (placeAnswer code data (s.atQuery dt kind parameter))) := by
  obtain ⟨_, _, _, _, hat⟩ := atQuery_eq s dt kind parameter
  have hplaced : placeAnswer code data (s.atQuery dt kind parameter) = { s.atQuery dt kind parameter with
      line := { s.line with answerSlot := some body } } := by
    rw [placeAnswer, hat, ← hbody]
    rfl
  rw [hplaced, hat]
  exact (finish_ends _ _).of_lanes rfl

/-! ### Refusals -/

/-- The body of a refusal (11.2). -/
def refusalBody (own : Nat) (code : Byte) : List Byte := [75, 157, 38, 3, BitVec.ofNat 8 own, 31, code]

theorem answerBody_nil (own : Nat) (code : Byte) : answerBody own code [] = refusalBody own code := rfl

theorem judgeQuery_refused {kind : Byte} {inRange : Bool} {answer : State → State} {s : State}
    (h : s.lockdown = true ∨ inRange = false) : judgeQuery kind inRange answer s = refuseQuery kind s := by
  refine if_pos ?_
  obtain h | h := h <;> simp [h]

/-- A query that is refused leaves the refusal of its kind alone. -/
theorem onQuery_refused {s : State} (htakes : s.takesQueries = true) (dt : Nat) (kind parameter : Byte) (f : State → State)
    (hf : f (s.atQuery dt kind parameter) = refuseQuery kind (s.atQuery dt kind parameter)) :
    ∃ t, onQuery dt kind parameter s f = .next t ∧ Ends { s with
      now := s.now + dt, handed := s.handed.erase (.query kind parameter)
      line := { s.line with answerSlot := some (refusalBody s.own (refusedKind kind)) } } t := by
  rw [onQuery_taken htakes, hf]
  exact ⟨_, rfl, ends_answer (answerBody_nil ..) _⟩

/-- A query of a known kind is refused in lockdown and out of range. -/
theorem onQuery_judged {s : State} (htakes : s.takesQueries = true) (dt : Nat) (kind parameter : Byte)
    (inRange : State → Bool) (answer : State → State) (hrange : ∀ t, t.slots = s.slots → inRange t = inRange s)
    (h : s.lockdown = true ∨ inRange s = false) :
    ∃ t, onQuery dt kind parameter s (fun s => judgeQuery kind (inRange s) answer s) = .next t ∧ Ends { s with
      now := s.now + dt, handed := s.handed.erase (.query kind parameter)
      line := { s.line with answerSlot := some (refusalBody s.own (refusedKind kind)) } } t := by
  refine onQuery_refused htakes dt kind parameter _ (judgeQuery_refused ?_)
  obtain ⟨_, _, _, _, hat⟩ := atQuery_eq s dt kind parameter
  refine h.imp (fun hlockdown => ?_) (fun hout => ?_)
  · rw [hat]; exact hlockdown
  · rw [hrange _ (by rw [hat]), hout]

theorem exec_unknownKind {kind : Byte} (h : kind.toNat = 0 ∨ 6 ≤ kind.toNat) (dt : Nat) (parameter : Byte) (s : State) :
    exec (.queryOfUnknownKind dt kind parameter) s = onQuery dt kind parameter s (refuseQuery kind) := by
  refine if_pos ?_
  simp only [unknownKind, Bool.or_eq_true, decide_eq_true_eq]
  omega

theorem refusedKind_of_lt {kind : Byte} (h : kind.toNat < 128) : refusedKind kind = kind + 128 := if_pos h

/-! ### STATUS -/

/-- The STATUS answer, for the codes given by equations. -/
theorem statusAnswer_eq {s w : State} {dt : Nat} {kind parameter : Byte} (hw : w = s.atQuery dt kind parameter)
    {phase head automaton status present : Byte} {locked : List Byte} (hphase : char8 s.phase.code = phase)
    (hhead : char8 s.head.state.code = head) (hautomaton : char8 s.detector.state.code = automaton)
    (hstatus : HeadStatus.code s.headStatus = status) (hpresent : presence s = present)
    (hlocked : lockdownChars s.lockdownRecord = locked) :
    answerBody s.own 1 (statusData w) = [75, 157, 38, 3, BitVec.ofNat 8 s.own, 31, 1, phase, head, automaton, status] ++
      chars16 s.txy ++ chars16 s.tyx ++ [BitVec.ofNat 8 s.head.a.spikes, BitVec.ofNat 8 s.head.b.spikes, present] ++
      chars32 (s.head.a.lastSpike.getD 0) ++ chars32 (s.head.b.lastSpike.getD 0) ++
      chars32 (BitVec.ofNat 32 ((s.now + dt) / 100)) ++ locked ++
      chars16 (BitVec.ofNat 16 s.line.framesGood) ++ chars16 (BitVec.ofNat 16 s.line.framesBad) ++
      chars16 (BitVec.ofNat 16 s.line.collisions) ++ chars16 (BitVec.ofNat 16 s.line.dropped) ++
      [BitVec.ofNat 8 s.line.consecutiveDrops] := by
  obtain ⟨_, _, _, _, hat⟩ := atQuery_eq s dt kind parameter
  rw [hw, hat, ← hphase, ← hhead, ← hautomaton, ← hstatus, ← hpresent, ← hlocked]
  rfl

theorem exec_status {s : State} (htakes : s.takesQueries = true) (dt : Nat) (parameter : Byte) :
    exec (.statusQuery dt parameter) s = .next (finish (s.atQuery dt 1 parameter)
      (placeAnswer 1 (statusData (s.atQuery dt 1 parameter)) (s.atQuery dt 1 parameter))) :=
  onQuery_taken htakes dt 1 parameter _

end Sys2Proof.Machine

namespace Sys2Proof.Proofs

open Sys2Proof.Machine

/-- Settles O49: what is not to be answered is refused, and STATUS is answered in lockdown. -/
theorem queriesAreRefused : Obligations.QueriesAreRefused := by
  intro dt p s refusal hconnected hconfigured hmay hrefusal
  have htakes : s.takesQueries = true := takesQueries_iff.mpr ⟨hconnected, hconfigured, hmay⟩
  have hends : ∀ {asked : Byte} {f : State → State} {code : Byte}, refusedKind asked = code →
      (∃ t, onQuery dt asked p s f = .next t ∧ Ends { s with
        now := s.now + dt, handed := s.handed.erase (.query asked p)
        line := { s.line with answerSlot := some (refusalBody s.own (refusedKind asked)) } } t) →
      ∃ t, onQuery dt asked p s f = .next t ∧ Ends (refusal asked code) t := by
    rintro asked f code rfl ⟨t, hexec, hends⟩
    exact ⟨t, hexec, by rw [hrefusal]; exact hends⟩
  refine ⟨fun kind hkind hlow => ?_, fun kind hhigh => ?_, fun hout => ?_, fun hout => ?_, fun hout => ?_, fun hlocked => ?_,
    fun hlocked => ?_⟩
  · rw [exec_unknownKind (hkind.imp (fun h => by rw [h]; rfl) id)]
    exact hends (refusedKind_of_lt hlow) (onQuery_refused htakes dt kind p _ rfl)
  · obtain ⟨t, hexec, hend⟩ := hends rfl (onQuery_refused htakes dt kind p _ rfl)
    exact ⟨t, _, (exec_unknownKind (.inr (by omega)) ..).trans hexec, hend⟩
  · refine hends rfl (onQuery_judged htakes dt 2 p (·.slotIndex p) (answerSection p) (fun t ht => ?_) (hout.imp id fun h => ?_))
    · rw [State.slotIndex, State.slotIndex, ht]
    · rw [State.slotIndex, decide_eq_false_iff_not]; omega
  · exact hends rfl (onQuery_judged htakes dt 3 p (fun _ => decide (p.toNat ≤ 15)) (answerPeers p) (fun _ _ => rfl)
      (hout.imp id fun h => decide_eq_false (by omega)))
  · exact hends rfl (onQuery_judged htakes dt 4 p (fun _ => decide (p.toNat ≤ 63)) _ (fun _ _ => rfl)
      (hout.imp id fun h => decide_eq_false (by omega)))
  · exact hends rfl (onQuery_judged htakes dt 5 p (fun _ => true) _ (fun _ _ => rfl) (.inl hlocked))
  · refine ⟨_, exec_status htakes dt p, ends_answer (statusAnswer_eq rfl ?_ ?_ ?_ ?_ ?_ ?_) _⟩
    · cases s.phase <;> rfl
    · cases s.head.state <;> rfl
    · cases s.detector.state <;> rfl
    · rw [State.headStatus, if_pos hlocked]; rfl
    · rw [presence, hlocked]; rfl
    · cases s.lockdownRecord with
      | none => rfl
      | some r => obtain ⟨cause, time⟩ := r; cases cause <;> rfl

end Sys2Proof.Proofs

end

section
/-! PROOFS. Queries that are answered: the layouts of the answers (chapter 11). -/

namespace Sys2Proof.Machine

/-! ### How an answer is given -/

theorem onQuery_answered {s : State} (htakes : s.takesQueries = true) (hlockdown : s.lockdown = false) (dt : Nat)
    (kind parameter : Byte) {inRange : State → Bool} {answer : State → State}
    (hrange : inRange (s.atQuery dt kind parameter) = true) :
    onQuery dt kind parameter s (fun s => judgeQuery kind (inRange s) answer s) =
      .next (finish (s.atQuery dt kind parameter) (answer (s.atQuery dt kind parameter))) := by
  have hjudged : judgeQuery kind (inRange (s.atQuery dt kind parameter)) answer (s.atQuery dt kind parameter) =
      answer (s.atQuery dt kind parameter) := by
    obtain ⟨_, _, _, _, hat⟩ := atQuery_eq s dt kind parameter
    have hlockdown' : (s.atQuery dt kind parameter).lockdown = false := by rw [hat]; exact hlockdown
    rw [judgeQuery, hlockdown', hrange]
    rfl
  rw [onQuery_taken htakes, hjudged]

/-! ### SECTION -/

/-- The bits of an agreement set, one for each boundary station in it, by its position. -/
theorem agreementBits_eq (members : List Nat) : ∀ (boundary : List Boundary) (i : Nat), agreementBits members i boundary =
    ((List.range boundary.length).map fun j =>
      (boundary[j]?.map fun b => if b.station ∈ members then 2 ^ (i + j) else 0).getD 0).sum := by
  intro boundary
  induction boundary with
  | nil => intro i; rfl
  | cons b bs ih =>
    intro i
    rw [agreementBits, ih, List.length_cons, List.range_succ_eq_map, List.map_cons, List.sum_cons, List.map_map]
    simp only [flag, List.contains_iff_mem, Function.comp_def, List.getElem?_cons_zero, List.getElem?_cons_succ,
      Option.map_some, Option.getD_some, Nat.add_zero, Nat.succ_eq_add_one, Nat.add_assoc, Nat.add_comm 1]

theorem coolDownChars_some {now : Tick} {sl : Slot} {x : Tick} (h : sl.reset.coolDownSince = some x) : coolDownChars now sl =
    [BitVec.ofNat 8 (remaining now 120000 (some x) / 65536), BitVec.ofNat 8 (remaining now 120000 (some x) / 256),
      BitVec.ofNat 8 (remaining now 120000 (some x))] := by
  rw [coolDownChars, h]
  rfl

theorem coolDownChars_none {now : Tick} {sl : Slot} (h : sl.reset.coolDownSince = none) : coolDownChars now sl = [] := by
  rw [coolDownChars, h]

theorem demandChars_some {now : Tick} {sl : Slot} {d : Demand} (h : sl.reset.demand = some d) : demandChars now sl =
    [BitVec.ofNat 8 d.identity.originator, demandNumberCode d.identity.number d.kind] ++ chars16 d.baseTxy ++
      chars16 d.baseTyx ++ chars32 d.windowStart ++
      chars16 (BitVec.ofNat 16 (if sl.state = .agreeing then remaining now 10000 sl.reset.windowSince
        else remaining now 2000 sl.reset.lingerSince)) := by
  rw [demandChars, h]
  rfl

theorem demandChars_none {now : Tick} {sl : Slot} (h : sl.reset.demand = none) : demandChars now sl = [] := by
  rw [demandChars, h]

/-- The SECTION answer, for the codes given by equations. -/
theorem sectionAnswer_eq {s w : State} {dt : Nat} {kind parameter : Byte} (hw : w = s.atQuery dt kind parameter) {sl : Slot}
    {state outcome : Byte} (hstate : sectionState s sl = state)
    (houtcome : char8 (sl.reset.outcome.code + 16 * sl.reset.expiries) = outcome) :
    answerBody s.own 2 (sectionData w parameter.toNat sl) =
      [75, 157, 38, 3, BitVec.ofNat 8 s.own, 31, 2, parameter, state] ++ chars16 (BitVec.ofInt 16 sl.balance) ++
      [BitVec.ofNat 8 (causeCode sl.record.firstCause * 16 + causeCode sl.record.lastFurther)] ++
      chars32 (sl.record.firstTime.getD 0) ++
      [BitVec.ofNat 8 (sl.record.firstStation.getD 0), BitVec.ofNat 8 sl.record.count, outcome] ++
      (coolDownChars (s.now + dt) sl ++ demandChars (s.now + dt) sl ++ agreementChars sl) ++ boundaryChars sl := by
  obtain ⟨_, _, _, _, hat⟩ := atQuery_eq s dt kind parameter
  have hstate' : sectionState w sl = state := by rw [hw, hat]; exact hstate
  have hnow : w.now = s.now + dt := by rw [hw, hat]
  have hindex : char8 parameter.toNat = parameter := by simp [char8]
  rw [sectionData, hstate', hnow, hindex, houtcome, recordChars]
  simp only [answerBody, bodyHeader, lineMark, char8, List.append_assoc, List.cons_append, List.nil_append]

theorem answerSection_some {parameter : Byte} {w : State} {sl : Slot} (h : w.slots[parameter.toNat]? = some sl) :
    answerSection parameter w = placeAnswer 2 (sectionData w parameter.toNat sl) w := by
  rw [answerSection, h]

/-! ### PEERS -/

theorem peerEntry_length (now : Tick) (use : Nat) (r : PeerRecord) : (peerEntry now use r).length = 13 := rfl

/-- An entry's fields, for the codes given by equations; absent sequence numbers and ages are free. -/
theorem peerEntry_eq (now : Tick) (use : Nat) (r : PeerRecord) {state status : Byte}
    (hstate : char8 (r.state.code + flag r.lastSequence.isSome 4 + flag r.acceptedAt.isSome 8) = state)
    (hstatus : (r.status.map HeadStatus.code).getD 0 = status) : ∃ sequence age : Word16,
    (∀ q, r.lastSequence = some q → sequence = q) ∧
    (∀ a, r.acceptedAt = some a → age = BitVec.ofNat 16 (min 65535 ((now - a) / 100))) ∧
    peerEntry now use r = [BitVec.ofNat 8 r.station, state, status] ++ chars16 sequence ++ chars16 r.txy ++ chars16 r.tyx ++
      chars16 age ++ chars16 (BitVec.ofNat 16 r.gaps) := by
  refine ⟨r.lastSequence.getD (Config.absentSequence use),
    (r.acceptedAt.map fun a => BitVec.ofNat 16 (ageMs now a)).getD (Config.undefinedAge use),
    fun q hq => by rw [hq]; rfl, fun a ha => by rw [ha]; rfl, ?_⟩
  subst hstate hstatus
  rw [peerEntry]
  cases r.status <;> cases r.acceptedAt <;> rfl

theorem peerEntries_length (now : Tick) : ∀ (rs : List PeerRecord) (use : Nat),
    (peerEntries now use rs).length = 13 * rs.length := by
  intro rs
  induction rs with
  | nil => intro use; rfl
  | cons r rs ih =>
    intro use
    rw [peerEntries, List.length_append, peerEntry_length, ih, List.length_cons]
    omega

/-- Each entry stands in its place. -/
theorem peerEntries_slice (now : Tick) : ∀ (rs : List PeerRecord) (use j : Nat) (r : PeerRecord), rs[j]? = some r →
    ((peerEntries now use rs).drop (13 * j)).take 13 = peerEntry now (use + j) r := by
  intro rs
  induction rs with
  | nil => intro use j r hr; simp at hr
  | cons head rs ih =>
    intro use j r hr
    cases j with
    | zero =>
      obtain rfl : head = r := by simpa using hr
      rfl
    | succ j =>
      have hskip : 13 * (j + 1) = (peerEntry now use head).length + 13 * j := by rw [peerEntry_length]; omega
      rw [peerEntries, hskip, List.drop_length_add_append, ih (use + 1) j r (by simpa using hr)]
      congr 1
      omega

/-- The PEERS answer uses up free values; its end. -/
theorem ends_peers {s : State} {dt : Nat} {kind parameter : Byte} {body : List Byte}
    (hbody : answerBody s.own 3 (peersData (s.atQuery dt kind parameter) parameter.toNat) = body) (b : State) :
    Ends { s with
      now := s.now + dt, handed := s.handed.erase (.query kind parameter)
      freeUses := (finish b (answerPeers parameter (s.atQuery dt kind parameter))).freeUses
      line := { s.line with answerSlot := some body } }
      (finish b (answerPeers parameter (s.atQuery dt kind parameter))) := by
  obtain ⟨_, _, _, _, hat⟩ := atQuery_eq s dt kind parameter
  have hplaced : answerPeers parameter (s.atQuery dt kind parameter) = { s.atQuery dt kind parameter with
      line := { s.line with answerSlot := some body }, freeUses := s.freeUses + 4 } := by
    rw [answerPeers, placeAnswer, ← hbody]
    conv => lhs; rw [hat]
    conv => rhs; rw [hat]
    rfl
  rw [finish_freeUses, hplaced, hat]
  exact (finish_ends _ _).of_lanes rfl

/-! ### LOG and CLEAR_DIAG -/

/-- The LOG answer, for the layout of an entry given by an equation. -/
theorem logAnswer_eq {s : State} {dt : Nat} {kind parameter : Byte} {entry : LogEntry → List Byte}
    (hentry : ∀ e, logChars e = entry e) : answerBody s.own 4 (logData (s.atQuery dt kind parameter) parameter.toNat) =
      [75, 157, 38, 3, BitVec.ofNat 8 s.own, 31, 4, BitVec.ofNat 8 s.log.length] ++
        ((s.log.drop parameter.toNat).take 8).flatMap entry := by
  obtain ⟨_, _, _, _, hat⟩ := atQuery_eq s dt kind parameter
  obtain rfl : logChars = entry := funext hentry
  rw [hat]
  rfl

/-- The end of a query that has cleared the counters. -/
theorem ends_clear {s : State} {dt : Nat} {kind parameter : Byte} (b : State) :
    Ends { s with
      now := s.now + dt, handed := s.handed.erase (.query kind parameter), peers := s.peers.map (fun r => { r with gaps := 0 })
      line := { s.line with
        framesGood := 0, framesBad := 0, collisions := 0, dropped := 0
        answerSlot := some [75, 157, 38, 3, BitVec.ofNat 8 s.own, 31, 5] } }
      (finish b (placeAnswer 5 [] (clearCounters (s.atQuery dt kind parameter)))) := by
  obtain ⟨_, _, _, _, hat⟩ := atQuery_eq s dt kind parameter
  rw [hat]
  exact (finish_ends _ _).of_lanes rfl

end Sys2Proof.Machine

namespace Sys2Proof.Proofs

open Sys2Proof.Machine

/-- Settles O48: each query in range is answered with the data of its layout. -/
theorem queriesAreAnswered : Obligations.QueriesAreAnswered := by
  intro dt p s own hconnected hphase hlockdown hown
  subst hown
  have htakes : s.takesQueries = true := takesQueries_of_run hconnected hphase
  refine ⟨?_, fun sl hsl => ?_, fun hrange => ?_, fun hrange => ?_, ?_⟩
  case refine_1 =>
    refine ⟨_, exec_status htakes dt p, ends_answer (statusAnswer_eq rfl ?_ ?_ ?_ ?_ ?_ ?_) _⟩
    · rw [hphase]; rfl
    · cases s.head.state <;> rfl
    · cases s.detector.state <;> rfl
    · rw [State.headStatus, if_neg (by rw [hlockdown]; decide)]
      cases s.head.state with
      | starting => rfl
      | faulty => rfl
      | counting => exact apply_ite HeadStatus.code ..
    · rw [presence, hlockdown]; rfl
    · cases s.lockdownRecord with
      | none => rfl
      | some r => obtain ⟨cause, time⟩ := r; cases cause <;> rfl
  case refine_2 =>
    have hat : (s.atQuery dt 2 p).slots = s.slots := by
      obtain ⟨_, _, _, _, hat⟩ := atQuery_eq s dt 2 p
      rw [hat]
    have hslot : (s.atQuery dt 2 p).slots[p.toNat]? = some sl := by rw [hat]; exact hsl
    have hexec := onQuery_answered htakes hlockdown dt 2 p (inRange := (·.slotIndex p)) (answer := answerSection p)
      (decide_eq_true (List.getElem?_eq_some_iff.mp hslot).1)
    rw [answerSection_some hslot] at hexec
    refine ⟨_, coolDownChars (s.now + dt) sl ++ demandChars (s.now + dt) sl ++ agreementChars sl, boundaryChars sl, hexec,
      fun left hleft => ?_, rfl, ends_answer (sectionAnswer_eq rfl ?_ ?_) _⟩
    · have hremaining : left = fun since limit => remaining (s.now + dt) limit since := by
        funext since limit
        rw [hleft]
        cases since <;> rfl
      subst hremaining
      refine congr (congrArg _ (congr (congrArg _ ?_) ?_)) ?_
      · cases hcool : sl.reset.coolDownSince with
        | none => exact coolDownChars_none hcool
        | some x => exact coolDownChars_some hcool
      · cases hdemand : sl.reset.demand with
        | none => exact demandChars_none hdemand
        | some d =>
          rw [demandChars_some hdemand]
          obtain ⟨identity, kind, baseTxy, baseTyx, windowStart⟩ := d
          cases kind <;> rfl
      · rw [agreementChars, agreementBits_eq]
        refine ite_congr rfl (fun _ => congrArg (fun bits => [char8 (List.sum bits)]) (List.map_congr_left fun j _ => ?_)) fun _ => rfl
        rw [Nat.zero_add]
        cases sl.boundary[j]? <;> rfl
    · rw [sectionState]
      cases sl.state <;> rfl
    · cases sl.reset.outcome <;> rfl
  case refine_3 =>
    have hexec := onQuery_answered htakes hlockdown dt 3 p (inRange := fun _ => decide (p.toNat ≤ 15)) (answer := answerPeers p)
      (decide_eq_true hrange)
    refine ⟨_, peerEntries (s.now + dt) s.freeUses ((s.peers.drop p.toNat).take 4), hexec, ?_, fun j r hj hr => ?_, ends_peers ?_ _⟩
    · rw [peerEntries_length, List.length_take, List.length_drop]
    · rw [peerEntries_slice _ _ _ _ r (by rw [List.getElem?_take_of_lt hj, List.getElem?_drop]; exact hr)]
      refine peerEntry_eq _ _ r ?_ ?_
      · cases r.state <;> rfl
      · cases r.status with
        | none => rfl
        | some status => cases status <;> rfl
    · obtain ⟨_, _, _, _, hat⟩ := atQuery_eq s dt 3 p
      rw [hat]
      rfl
  case refine_4 =>
    have hexec := onQuery_answered htakes hlockdown dt 4 p (inRange := fun _ => decide (p.toNat ≤ 63))
      (answer := fun s => placeAnswer 4 (logData s p.toNat) s) (decide_eq_true hrange)
    refine ⟨_, hexec, ends_answer (logAnswer_eq fun e => ?_) _⟩
    obtain ⟨kind, time, speed, rocked⟩ := e
    cases kind <;> rfl
  case refine_5 =>
    exact ⟨_, onQuery_answered htakes hlockdown dt 5 p (inRange := fun _ => true)
      (answer := fun s => placeAnswer 5 [] (clearCounters s)) rfl, ends_clear _⟩

end Sys2Proof.Proofs

end
